-- ==== Sys2Proof/Word.lean ====
section
/-! DEFINITION. Word types (spec 00 R7, R19; 10 R20): the widths in which the spec gives registers,
encoded instructions and physical addresses. -/

namespace Sys2Proof

/-- A 32-bit word: a register, an ARM instruction, a virtual or modified virtual address (R11). -/
abbrev Word := BitVec 32

/-- A 16-bit halfword: a Thumb instruction. -/
abbrev Half := BitVec 16

/-- A byte. -/
abbrev Byte := BitVec 8

/-- A 4-bit register number (30 R382). -/
abbrev Reg := BitVec 4

/-- A 3-bit low-register number of a Thumb instruction (46 R720). -/
abbrev LowReg := BitVec 3

/-- A physical address: 36 bits (00 R11, R18). -/
abbrev PAddr := BitVec 36

end Sys2Proof
end

