-- ==== Sys2Proof/Config.lean ====
section
/-! DEFINITION. What an implementation fixes: the open parameters P_... of spec 00 R18 and 92 part 2 (held in the
state as plain data, constant in a run, log 9), and the free values (93 treatment `any value`, log 10). -/

namespace Sys2Proof

/-- Which byte orders the product has: `P_ENDIAN_SUPPORT`. -/
inductive EndianSupport where
  | little | big | both
deriving DecidableEq, Repr

/-- The L2 cache of the product: `P_L2_SIZE`. -/
inductive L2Size where
  | absent | kb256 | kb512
deriving DecidableEq, Repr

/-- Where an interrupt request of the core comes back: one line of `P_INTERRUPT_CONTROLLER`. -/
inductive IntRoute where
  | masked | irq | fiq
deriving DecidableEq, Repr

/-- The open parameters of 92 part 2, each with the spec's default. `coprocessors` has a bit for every coprocessor 1 to
13 of the ASSP (`P_COPROCESSORS`), `cp0Extended` says that CP0 has encodings of the ASSP (`P_CP0_EXTENDED`),
`coprocAborts` that its coprocessors may abort (`P_CP_DATA_ABORT_USED`), `extraAborts` that agents outside may raise
external aborts (`P_EXTRA_EXTERNAL_ABORTS`), `pwrIdle` which values of PWRMODE idle the core and `pwrWake` that the ASSP
may end the idle time (`P_PWRMODE`), `clockDefined` that the ASSP sets the frequency that CCLKCFG reads (`P_CCLKCFG`), `pBitUsed`
that a P bit of 1 means something (`P_PBIT_MEANING`), `asspEvents` which ASSP events occur (`P_PMU_ASSP_EVENTS`), and
`jtagHaltInReset` that SELDCSR sets DCSR.H and DCSR.TR while the reset pin is asserted (61 R929 step 3; log 47). -/
structure Config where
  endian : EndianSupport := .both
  l2 : L2Size := .absent
  uarchRevision : BitVec 3 := 0
  productNumber : BitVec 6 := 0
  productRevision : BitVec 4 := 0
  coherency : Bool := false
  ctrlReservedRead : Word := 0x00000078
  pmuRoute : IntRoute := .irq
  eccRoute : IntRoute := .irq
  socBreakUsed : Bool := false
  asyncErrorPin : Bool := false
  jtagVersion : BitVec 4 := 0
  jtagModel : BitVec 5 := 0
  debugBanksR13 : Bool := false
  coprocessors : BitVec 16 := 0
  cp0Extended : Bool := false
  coprocAborts : Bool := false
  extraAborts : Bool := false
  pwrIdle : BitVec 16 := 0xFFFE
  pwrWake : Bool := false
  clockDefined : Bool := false
  pBitUsed : Bool := false
  asspEvents : BitVec 8 := 0
  jtagHaltInReset : Bool := true
deriving DecidableEq, Repr

/-- The free value of a width: nothing constrains it. The index is the state's counter `free` (log 10). -/
opaque Config.freeBits (width : Nat) (index : Nat) : BitVec width

end Sys2Proof
end

