-- ==== Sys2Proof/Machine/State.lean ====
section
/-! DEFINITION. The machine state: every piece of state the spec gives the machine (INVENTORY.md lists each with
its rule), the model's own fields (`Run`, `Config`), the reasons a step can stop, and the state after reset. -/

namespace Sys2Proof.Machine

/-- Reasons the machine stops with a fault. -/
inductive Fault where
  /-- An outside agent's bus write runs past the last of the 2^36 physical addresses (00 R11): raised by the
  environment's actions only, never by an instruction (safe). -/
  | outsideAddressSpace
deriving DecidableEq, Repr

/-- Reasons the model has no successor state: 93 treatment `refuse`. Each is safe: a run past it is in no claim. -/
inductive Refusal where
  /-- Raised by an instruction that has no meaning in this model yet (safe). -/
  | notModelled (mnemonic : String)
  /-- Raised by a CPSR write or restore with a mode field that is none of the eight modes: 93 U12 (safe). -/
  | illegalMode
  /-- Raised by SPSR access, exception return or user-bank transfer in User or System mode: U13; 42 R561 (safe). -/
  | noSpsr
  /-- Raised by MSR of the DEBUG mode outside Special Debug State: U14 (safe). -/
  | debugModeOutsideSds
  /-- Raised by privileged MRC or MCR of a CP15, CP14 or CP7 register or function the manual does not list, or MRC of a write-only function: U20 (safe). -/
  | unlistedRegister
  /-- Raised by 1 written to a write-as-zero bit of a system register: U21 (safe). -/
  | reservedBitWritten
  /-- Raised by Control Register L2 changed with the MMU on, or cleared once set: U22 (safe). -/
  | l2EnableChanged
  /-- Raised by Control Register B set to the byte order the product lacks: U23 (safe). -/
  | endianUnsupported
  /-- Raised by AUXCTRL LLR attributes changed while the L1 data cache holds lines: U24 (safe). -/
  | llrChangedWithLines
  /-- Raised by LDC or STC naming a CP14 register outside the lists of 12 R162: U30 (safe). -/
  | coprocTransferUnlisted
  /-- Raised by software read of TX: U32 (safe). -/
  | txRead
  /-- Raised by an access whose bytes pass virtual address 0xFFFFFFFF: U40 (safe). -/
  | accessWraps
  /-- Raised by the sixteen copies of a supersection descriptor differ: U45 (safe). -/
  | supersectionCopiesDiffer
  /-- Raised by an access to a page with a reserved TEX C B, or under a reserved AUXCTRL.OC or TTBASE.OC: U47 (safe). -/
  | reservedAttribute
  /-- Raised by a page with S = 1 on a product without coherence support: U48 (safe). -/
  | sharedWithoutCoherence
  /-- Raised by AP = 0b00 with CTRL.S = CTRL.R = 1: 21 R275 (safe). -/
  | reservedPermission
  /-- Raised by an instruction fetch from non-shared device memory: 20 R208 (safe). -/
  | deviceFetch
  /-- Raised by translate-and-lock of a translation already in the TLB: U49 (safe). -/
  | translationResident
  /-- Raised by fetch-and-lock of an I-cache line that is not cacheable, is resident, or with the I-cache off: U51 (safe). -/
  | icacheLockPrecondition
  /-- Raised by a BTB entry predicts a branch at an instruction that is none: U52 (safe). -/
  | staleBranchTarget
  /-- Raised by the eighth way of an L2 set would be locked: U55 (safe). -/
  | l2AllWaysLocked
  /-- Raised by a data-cache function, or CTRL.C = 1, with the MMU off: U56 (safe). -/
  | dcacheWithoutMmu
  /-- Raised by an L2 function with an L2 present and CTRL.L2 = 0: U57 (safe). -/
  | l2Disabled
  /-- Raised by invalidate-entry of a locked TLB entry: U59 (safe). -/
  | lockedTlbEntryInvalidated
  /-- Raised by a CP0 encoding outside the accumulator instructions with CPAR[0] = 1: U60 (safe). -/
  | cp0Unlisted
  /-- Raised by a should-be field or a register combination the rule of the instruction calls UNPREDICTABLE: U61 (safe). -/
  | operandRestriction
  /-- Raised by a value written to pc whose low bits the instruction set does not allow: U62 (safe). -/
  | misalignedPc
  /-- Raised by a banked register read by the instruction after a user-bank LDM or STM: U63 (safe). -/
  | bankedAfterUserTransfer
  /-- Raised by lock or unlock on a disabled cache, or an L2 lock of memory that is not L2 cacheable: U64 (safe). -/
  | lockOnDisabledCache
  /-- Raised by TLB lock or unlock with the MMU off: U65 (safe). -/
  | tlbLockMmuOff
  /-- Raised by a prefetch abort in Special Debug State: U70 (safe). -/
  | sdsPrefetchAbort
  /-- Raised by SWI or Undefined Instruction in Special Debug State: U71 (safe). -/
  | sdsUndefined
  /-- Raised by User mode entered in Special Debug State: U72 (safe). -/
  | sdsUserMode
  /-- Raised by an instruction breakpoint enabled with DCSR.GE = 0: U73 (safe). -/
  | breakpointWithoutGe
  /-- Raised by DBR0 or DBR1 written while enabled in DBCON: U74 (safe). -/
  | dbrWrittenEnabled
  /-- Raised by JTAG sets hold_reset while the core runs: U75 (safe). -/
  | holdResetRunning
  /-- Raised by a reserved LDSRAM function code: U77 (safe). -/
  | ldsramReserved
  /-- Raised by a fetch past the end of the Debug SRAM: U80 (safe). -/
  | sramFetchBeyond
  /-- Raised by DBGRX updated with rx_valid and flush_rr both set: 61 R923 (safe). -/
  | dbgrxBothSet
  /-- Raised by SELDCSR updated with the JTAG instruction register not loaded since the reset pin was released: 61 R929 step 6
  (safe). -/
  | seldcsrNotReloaded
  /-- Raised by a snooped access or push of another agent that finds an error in the L2: 22 R362, 12 R172 (safe). -/
  | snoopError
  /-- Raised by an access that shows that its page's cacheability has changed with its line held: the L1 data cache, enabled,
  holds the line of its MVA and the page is no longer L1 cacheable, or with the L2 in use has another L2 cacheability than at the
  fill; or the L2 in use holds its line, cached there by the same MVA, and the page is not L2 cacheable: U24 (safe). -/
  | cacheabilityChanged
  /-- Raised by an access through a P bit of 1 on a product that gives the bit a meaning: 92 P_PBIT_MEANING (safe). -/
  | asspDefined
deriving DecidableEq, Repr

/-- A program status register (10 R27, R33): bits 31:27, 7:5 and the mode; bits 26:8 read as zero (10 R34). -/
structure Psr where
  n : Bool
  z : Bool
  c : Bool
  v : Bool
  q : Bool
  i : Bool
  f : Bool
  t : Bool
  m : BitVec 5
deriving DecidableEq, Repr

/-- CP15 Control Register (11 R78), the bits that are state. -/
structure Ctrl where
  mmu : Bool
  align : Bool
  dcache : Bool
  bigEndian : Bool
  system : Bool
  rom : Bool
  btb : Bool
  icache : Bool
  highVectors : Bool
  l2 : Bool
deriving DecidableEq, Repr

/-- Fault Status Register (11 R89). -/
structure Fsr where
  x : Bool
  d : Bool
  domain : BitVec 4
  status : BitVec 4
deriving DecidableEq, Repr

/-- Data Breakpoint Control Register (11 R126). -/
structure Dbcon where
  mask : Bool
  e1 : BitVec 2
  e0 : BitVec 2
deriving DecidableEq, Repr

/-- The CP15 registers (11 R77). `ttBase` is TTBASE[31:14], `pid` is PID[31:25]. `mmuUsed` says that the MMU has been
enabled since reset, after which CTRL.L2 may not be set (70 R978, U22). -/
structure Cp15 where
  ctrl : Ctrl
  auxOC : BitVec 2
  auxIC : BitVec 2
  auxP : Bool
  ttBase : BitVec 18
  ttOC : BitVec 2
  ttP : Bool
  dacr : Word
  fsr : Fsr
  far : Word
  pid : BitVec 7
  ibr0 : Word
  ibr1 : Word
  dbr0 : Word
  dbr1 : Word
  dbcon : Dbcon
  dcLock : Bool
  cpar : BitVec 14
  mmuUsed : Bool
deriving DecidableEq, Repr

/-- The performance monitor (12 R141 to R146); `phase` counts the clocks of a CCNT increment under PMNC.D. -/
structure Pmu where
  enable : Bool
  divide : Bool
  disable : Bool
  ccnt : Word
  phase : BitVec 6
  pmn : Vector Word 4
  inten : BitVec 5
  flag : BitVec 5
  evtsel : Word
deriving DecidableEq, Repr

/-- Clock and power registers (12 R151, R152). -/
structure Clk where
  cclkcfg : BitVec 4
  pwrmode : BitVec 4
deriving DecidableEq, Repr

/-- Debug Control and Status Register (12 R154); DCSR.B reads the break input. -/
structure Dcsr where
  ge : Bool
  h : Bool
  tf : Bool
  ti : Bool
  td : Bool
  ta : Bool
  ts : Bool
  tu : Bool
  tr : Bool
  tt : Bool
  sa : Bool
  moe : BitVec 3
  m : Bool
  e : Bool
deriving DecidableEq, Repr

/-- The debug unit: DCSR, TXRXCTRL (rr, ov, dl, txr), TX, RX, the checkpoints, and the hidden state of 61 R883. -/
structure Debug where
  dcsr : Dcsr
  rr : Bool
  ov : Bool
  dl : Bool
  txr : Bool
  tx : Word
  rx : Word
  chkpt0 : Word
  chkpt1 : Word
  sds : Bool
  fromSram : Bool
  jtagBreak : Bool
  holdReset : Bool
  tbFull : Bool
deriving DecidableEq, Repr

/-- The trace buffer (61 R940 to R944). `ckptDue`: a half of the lap waits for its checkpoint; `ckptAt0`, `ckptAt1`:
where the headers of the two last checkpointed messages stand, while they stand (92 D36, log 29). -/
structure Trace where
  buffer : Vector Byte 256
  tp : BitVec 8
  count : BitVec 4
  written : Nat
  ckptDue : Bool
  ckptAt0 : Option (BitVec 8)
  ckptAt1 : Option (BitVec 8)
deriving DecidableEq, Repr

/-- The JTAG instruction register: IDCODE, whose opcode the spec does not give, or an opcode (61 R920). -/
inductive JtagIr where
  | idcode
  | opcode (op : BitVec 7)
deriving DecidableEq, Repr

/-- The JTAG side of the debug unit (61 R920 to R935) and the Debug SRAM (61 R930) as 512 words. `captured`: the
last action was a DBGTX capture of TR = 1; `stale`: the reset pin has been released and `ir` not been loaded since (61 R929
step 6); `loading`: the line and next word of a Load Debug SRAM; `spoiled`: a packet of
that load had a wrong parity bit (U78). -/
structure Jtag where
  ir : JtagIr
  sr : BitVec 36
  ldSr1 : BitVec 33
  ldReg : BitVec 33
  ldSr2 : BitVec 33
  idSr : Word
  tdo : Bool
  captured : Bool
  stale : Bool
  requested : Bool
  ready : Bool
  loading : Option (BitVec 6 × BitVec 3)
  spoiled : Bool
  sram : Vector Word 512
deriving DecidableEq, Repr

/-- The CP7 error log (12 R171 to R174). -/
structure ErrLog where
  log : BitVec 8
  adrL : Word
  adrU : BitVec 4
deriving DecidableEq, Repr

/-- The kinds of translation a TLB entry holds (21 R253, R257, R258). -/
inductive PageKind where
  | sect | supersection | large | small | extSmall | tiny
deriving DecidableEq, Repr

/-- A TLB entry (21 R251). `mva` is any address of the page, `base` the physical base, `ap` AP3 to AP0, `oc` and `ic` the
LLR attributes of AUXCTRL when the entry was walked (11 R85). -/
structure TlbEntry where
  locked : Bool
  kind : PageKind
  mva : Word
  base : PAddr
  domain : BitVec 4
  ap : BitVec 8
  tex : BitVec 3
  c : Bool
  b : Bool
  s : Bool
  p : Bool
  oc : BitVec 2
  ic : BitVec 2
deriving DecidableEq, Repr

/-- A TLB (21 R251, R290, R291). -/
structure Tlb where
  entries : Vector (Option TlbEntry) 32
  rr : Fin 32
  lockptr : Fin 32
deriving DecidableEq, Repr

/-- The ITLB and the DTLB. -/
structure Tlbs where
  i : Tlb
  d : Tlb
deriving DecidableEq, Repr

/-- Replacement state of an L1 set: the three pseudo-LRU bits (22 R314) and the ways by last use, newest first. -/
structure Lru where
  pair : Bool
  first : Bool
  second : Bool
  recent : List (Fin 4)
deriving DecidableEq, Repr

/-- An I-cache line (22 R311): `line` is MVA[31:5], `parity` marks the words with a parity error. -/
structure ILine where
  line : BitVec 27
  locked : Bool
  data : BitVec 256
  parity : BitVec 8
deriving DecidableEq, Repr

/-- The I-cache and the two fetch buffers (22 R311, R316); lines are keyed by 4 * set + way. -/
structure ICache where
  lines : List (Nat × ILine)
  lru : List (Nat × Lru)
  buffers : Vector (Option (BitVec 27 × BitVec 256)) 2
  nextBuffer : Fin 2
deriving DecidableEq, Repr

/-- An L1 D-cache line (22 R330): `line` is MVA[31:5], `pline` PA[35:5], `known` the bytes whose value is
determined (22 R337, U58), `outer` and `shared` the attributes its write-back uses, `parity` the bytes with a parity
error. -/
structure DLine where
  line : BitVec 27
  pline : BitVec 31
  dirty : Bool
  locked : Bool
  outer : Bool
  shared : Bool
  data : BitVec 256
  known : BitVec 32
  parity : BitVec 32
deriving DecidableEq, Repr

/-- The L1 D-cache; lines are keyed by 4 * set + way. -/
structure DCache where
  lines : List (Nat × DLine)
  lru : List (Nat × Lru)
deriving DecidableEq, Repr

/-- A BTB entry (22 R320): tag bits 31:9 and 1, target bits 31:1, history, and whether the branch is a Thumb one. `pa` and
`code` are the MODEL's own: where the branch stood and its bits (those of `Fetched.bits`), by which code modified since is
told from code that is not (22 R326, U52). -/
structure BtbEntry where
  tag : BitVec 24
  target : BitVec 31
  history : BitVec 2
  thumb : Bool
  pa : PAddr
  code : Word
deriving DecidableEq, Repr

/-- A store waiting in the memory buffer (22 R345). `mvas` is the MODEL's own: the lines of the MVAs that its stores named, by
which a page whose cacheability has changed is told from another mapping of the same memory (U24, log 20). `origin` is the address
of the transaction: that of its one store, and none where several have been merged (12 R173, log 24). -/
structure BufEntry where
  pline : BitVec 31
  data : BitVec 256
  mask : BitVec 32
  outer : Bool
  shared : Bool
  mvas : List (BitVec 27)
  origin : Option PAddr
deriving DecidableEq, Repr

/-- The memory buffer, oldest entry first, and the time-out counter of the oldest (22 R346). -/
structure MemBuf where
  entries : List BufEntry
  age : Nat
deriving DecidableEq, Repr

/-- The valid states of an L2 line (22 R350). -/
inductive Moesi where
  | modified | owned | exclusive | shared
deriving DecidableEq, Repr

/-- The L2 errors of 22 R368. -/
inductive L2Error where
  | singleBit | doubleBit | state | tag
deriving DecidableEq, Repr

/-- An L2 line (22 R350), with the bytes whose value is determined and the errors it has now. `mvas` is the MODEL's own: the
lines of the MVAs by which fetches, loads, stores and locks have cached it; table walks and pushes add none (U24, log 20). -/
structure L2Line where
  pline : BitVec 31
  state : Moesi
  locked : Bool
  data : BitVec 256
  known : BitVec 32
  errors : List L2Error
  mvas : List (BitVec 27)
deriving DecidableEq, Repr

/-- The L2 (22 R350): lines keyed by 8 * set + way, Used bits by set. `leaving`: the lines that a clean by set and way has
read out and that memory does not have yet, oldest first (22 R369, 45 R684). -/
structure L2 where
  lines : List (Nat × L2Line)
  used : List (Nat × BitVec 8)
  leaving : List (BitVec 31 × BitVec 256)
deriving DecidableEq, Repr

/-- The caches and buffers of 22. -/
structure Caches where
  i : ICache
  d : DCache
  btb : List (Nat × BtbEntry)
  buf : MemBuf
  l2 : L2
deriving DecidableEq, Repr

/-- The system bus errors of ERRLOG bits 5 to 3 (12 R171). -/
inductive BusErrorKind where
  | dataAbort | explicitAddress | implicitAddress
deriving DecidableEq, Repr

/-- Inputs of the core (60 R850, R851, 61 R900, 70 R961) and the platform: the answers of the bus accesses to come, each
the list of errors of one access, and after the last of them no error (92 D23, log 24); and the pending imprecise abort
status (10 R38). -/
structure External where
  irq : Bool
  fiq : Bool
  socBreak : Bool
  resetPin : Bool
  inReset : Bool
  busErrors : List (List BusErrorKind)
  pendingAbort : Option (BitVec 5)
deriving DecidableEq, Repr

/-- What the debugger does at the TAP (61 R920). -/
inductive JtagAction where
  | reset
  | loadIr (op : BitVec 7)
  | loadIdcode
  | captureDr
  | shiftDr (tdi : Bool)
  | updateDr
deriving DecidableEq, Repr

/-- What the outside world does at an instruction boundary, or between the words of a multiple transfer (log 16, 49).
`tick` ends the actions of one boundary or gap. -/
inductive EnvAction where
  | tick
  | irq (level : Bool)
  | fiq (level : Bool)
  | socBreak (level : Bool)
  | resetPin (level : Bool)
  | busWrite (pa : PAddr) (bytes : List Byte) (coherent : Bool)
  | busRead (pline : BitVec 31)
  | push (pline : BitVec 31) (data : BitVec 256) (toThisCore : Bool)
  | busError (answers : List (List BusErrorKind))
  | asyncBusError
  | externalAbort
  | icacheParity (line : BitVec 27) (word : BitVec 3)
  | dcacheParity (line : BitVec 27) (byte : BitVec 5)
  | l2Error (pline : BitVec 31) (error : L2Error)
  | drain
  | l2Settle
  | fetchAhead (va : Word)
  | wake
  | jtag (a : JtagAction)
deriving DecidableEq, Repr

/-- How the last instruction left the pc: a B or BL, another branch or write of the pc, or an exception. -/
inductive Flow where
  | sequential
  | direct (taken : Bool)
  | indirect (taken : Bool)
  | exception
deriving DecidableEq, Repr

/-- The MODEL's own fields: the free-value counter, the queue of outside actions, and what the current step leaves
for its end: flow of control, PMU events, data breakpoint matched, a load to the pc; `userTransfer` is 2 after a
user-bank transfer and 1 during the instruction after it (U63). -/
structure Run where
  free : Nat
  env : List EnvAction
  flow : Flow
  events : List (BitVec 8)
  dataBreak : Bool
  userTransfer : Nat
  pcLoad : Bool
deriving DecidableEq, Repr

/-- Main memory: the listed bytes of the physical address space, addresses rising; an unlisted byte reads 0 (log 7). -/
abbrev Memory := List Host.Cell

/-- The machine. `regs` holds the 32 physical general registers: 0 to 14 R0 to R14 of User mode, 15 to 21 R8_fiq
to R14_fiq, then R13 and R14 of irq, svc, abt, und and dbg (10 R21); `spsr` fiq, irq, svc, abt, und, dbg (10 R33).
`pc` is the address of the next instruction to execute (10 R23). -/
structure State where
  regs : Vector Word 32
  pc : Word
  cpsr : Psr
  spsr : Vector Psr 6
  acc0 : BitVec 40
  cp15 : Cp15
  pmu : Pmu
  clk : Clk
  dbg : Debug
  trace : Trace
  jtag : Jtag
  errlog : ErrLog
  mem : Memory
  tlbs : Tlbs
  caches : Caches
  ext : External
  run : Run
  cfg : Config
deriving DecidableEq, Repr

/-! Setters, one for each field: `Laws/State.lean` has a lemma for each field under each of them. -/

/-- The state with another `regs`. -/
def State.setRegs (s : State) (x : Vector Word 32) : State := { s with regs := x }

/-- The state with another `pc`. -/
def State.setPc (s : State) (x : Word) : State := { s with pc := x }

/-- The state with another `cpsr`. -/
def State.setCpsr (s : State) (x : Psr) : State := { s with cpsr := x }

/-- The state with another `spsr`. -/
def State.setSpsr (s : State) (x : Vector Psr 6) : State := { s with spsr := x }

/-- The state with another `acc0`. -/
def State.setAcc0 (s : State) (x : BitVec 40) : State := { s with acc0 := x }

/-- The state with another `cp15`. -/
def State.setCp15 (s : State) (x : Cp15) : State := { s with cp15 := x }

/-- The state with another `pmu`. -/
def State.setPmu (s : State) (x : Pmu) : State := { s with pmu := x }

/-- The state with another `clk`. -/
def State.setClk (s : State) (x : Clk) : State := { s with clk := x }

/-- The state with another `debug`. -/
def State.setDebug (s : State) (x : Debug) : State := { s with dbg := x }

/-- The state with another `trace`. -/
def State.setTrace (s : State) (x : Trace) : State := { s with trace := x }

/-- The state with another `jtag`. -/
def State.setJtag (s : State) (x : Jtag) : State := { s with jtag := x }

/-- The state with another `errlog`. -/
def State.setErrlog (s : State) (x : ErrLog) : State := { s with errlog := x }

/-- The state with another `mem`. -/
def State.setMem (s : State) (x : Memory) : State := { s with mem := x }

/-- The state with another `tlbs`. -/
def State.setTlbs (s : State) (x : Tlbs) : State := { s with tlbs := x }

/-- The state with another `caches`. -/
def State.setCaches (s : State) (x : Caches) : State := { s with caches := x }

/-- The state with another `ext`. -/
def State.setExt (s : State) (x : External) : State := { s with ext := x }

/-- The state with another `run`. -/
def State.setRun (s : State) (x : Run) : State := { s with run := x }


/-- A status register with every field zero (log 1). -/
def Psr.zero : Psr := ⟨false, false, false, false, false, false, false, false, 0⟩

/-- An empty TLB: all invalid and unlocked, pointers 31 and 0 (21 R293). -/
def Tlb.empty : Tlb := ⟨Vector.replicate 32 none, 31, 0⟩

/-- The caches and buffers after reset: invalid, unlocked, empty (22 R372). -/
def Caches.empty : Caches where
  i := ⟨[], [], Vector.replicate 2 none, 0⟩
  d := ⟨[], []⟩
  btb := []
  buf := ⟨[], 0⟩
  l2 := ⟨[], [], []⟩

/-- The machine right after reset (70 R961 to R968), both kinds of reset done (92 D16). Values the spec does not
give are zero (log 1 to 6). -/
def State.reset : State where
  regs := Vector.replicate 32 0
  pc := 0
  cpsr := { Psr.zero with i := true, f := true, m := 0b10011 }
  spsr := Vector.replicate 6 Psr.zero
  acc0 := 0
  cp15 := {
    ctrl := ⟨false, false, false, false, false, false, false, false, false, false⟩
    auxOC := 0, auxIC := 0, auxP := false, ttBase := 0, ttOC := 0, ttP := false, dacr := 0
    fsr := ⟨false, false, 0, 0⟩, far := 0, pid := 0, ibr0 := 0, ibr1 := 0, dbr0 := 0, dbr1 := 0
    dbcon := ⟨false, 0, 0⟩, dcLock := false, cpar := 0, mmuUsed := false }
  pmu := {
    enable := false, divide := false, disable := false, ccnt := 0, phase := 0, pmn := Vector.replicate 4 0
    inten := 0, flag := 0, evtsel := 0 }
  clk := ⟨0, 0⟩
  dbg := {
    dcsr := ⟨false, false, false, false, false, false, false, false, false, false, false, 0, false, false⟩
    rr := false, ov := false, dl := false, txr := false, tx := 0, rx := 0, chkpt0 := 0, chkpt1 := 0
    sds := false, fromSram := false, jtagBreak := false, holdReset := false, tbFull := false }
  trace := ⟨Vector.replicate 256 0, 0, 0, 0, false, none, none⟩
  jtag := {
    ir := .idcode, sr := 0, ldSr1 := 0, ldReg := 0, ldSr2 := 0, idSr := 0, tdo := false, captured := false, stale := false
    requested := false, ready := false, loading := none, spoiled := false, sram := Vector.replicate 512 0 }
  errlog := ⟨0, 0, 0⟩
  mem := []
  tlbs := ⟨Tlb.empty, Tlb.empty⟩
  caches := Caches.empty
  ext := ⟨false, false, false, false, false, [], none⟩
  run := ⟨0, [], .sequential, [], false, 0, false⟩
  cfg := {}

end Sys2Proof.Machine
end

