-- ==== Sys2Proof/Machine/Assoc.lean ====
section
/-! DEFINITION. Keyed lists with rising keys (caches, TLB-like tables, main memory) and main memory as bytes at
36-bit physical addresses (spec 20 R210, R195). -/

namespace Sys2Proof.Machine

/-- The entry at a key. -/
def lookupKey {α : Type} (k : Nat) : List (Nat × α) → Option α
  | [] => none
  | (k', v) :: t => if k' = k then some v else lookupKey k t

/-- Sets the entry at a key, keeping the keys rising. -/
def insertKey {α : Type} (k : Nat) (v : α) : List (Nat × α) → List (Nat × α)
  | [] => [(k, v)]
  | (k', v') :: t =>
    if k < k' then (k, v) :: (k', v') :: t
    else if k' = k then (k, v) :: t
    else (k', v') :: insertKey k v t

/-- Removes the entry at a key. -/
def eraseKey {α : Type} (k : Nat) : List (Nat × α) → List (Nat × α)
  | [] => []
  | (k', v') :: t => if k' = k then t else (k', v') :: eraseKey k t

/-- Rewrites every entry, dropping those that become `none`. -/
def mapKeys {α : Type} (f : Nat → α → Option α) : List (Nat × α) → List (Nat × α)
  | [] => []
  | (k, v) :: t =>
    match f k v with
    | some v' => (k, v') :: mapKeys f t
    | none => mapKeys f t

/-- The keys rise strictly. -/
def risingKeys {α : Type} : List (Nat × α) → Bool
  | [] => true
  | [_] => true
  | (k, _) :: (k', v') :: t => k < k' && risingKeys ((k', v') :: t)

/-- The canonical form of memory: addresses strictly rising and below 2^36, no entry holding the value 0 that an
unlisted byte reads as (log 7). -/
def Memory.wf (m : Memory) : Bool := risingKeys m && m.all (fun c => c.1 < 2 ^ 36 && c.2 != 0)

/-- What an unlisted byte reads as (log 7: DESIGN CHOICE). -/
def Memory.blank : Byte := 0

/-- The byte at a physical address. -/
def Memory.read (m : Memory) (a : PAddr) : Byte := (lookupKey a.toNat m).getD Memory.blank

/-- Stores a byte, keeping the canonical form. -/
def Memory.write (m : Memory) (a : PAddr) (b : Byte) : Memory :=
  if b = Memory.blank then eraseKey a.toNat m else insertKey a.toNat b m

/-- `n` bytes from an address up, the first in the low bits (20 R195, the little-endian view). -/
def Memory.readBytes (m : Memory) (a : PAddr) : (n : Nat) → BitVec (8 * n)
  | 0 => 0#0
  | n + 1 => (m.readBytes (a + 1) n ++ m.read a : BitVec (8 * n + 8))

/-- Stores `n` bytes from an address up, the low bits first, those the mask selects. -/
def Memory.writeBytes (m : Memory) (a : PAddr) : (n : Nat) → BitVec (8 * n) → BitVec n → Memory
  | 0, _, _ => m
  | n + 1, v, mask =>
    let m' := if mask.getLsbD 0 then m.write a (v.setWidth 8) else m
    m'.writeBytes (a + 1) n (v.extractLsb' 8 (8 * n)) (mask.extractLsb' 1 n)

/-- A list of bytes stored from an address up. -/
def Memory.writeList (m : Memory) (a : PAddr) : List Byte → Memory
  | [] => m
  | b :: t => (m.write a b).writeList (a + 1) t

/-- The address of a physical line. -/
def lineAddr (pline : BitVec 31) : PAddr := pline ++ 0#5

/-- The line of a physical address. -/
def lineOf (pa : PAddr) : BitVec 31 := pa.extractLsb' 5 31

end Sys2Proof.Machine
end

