-- ==== Sys2Proof/Syntax.lean ====
section
/-! DEFINITION. The instruction set as syntax. Each row of spec/opcode_table.json is a constructor of `Instr`,
or, where a mnemonic has several operand forms, a form of its constructor's operand type (Lean's compiler admits
at most 245 constructors with fields, and the table has 314 rows). The fields of a row are the fields here, the
should-be-zero, should-be-one and don't-care fields among them, so that no bit of an encoding is dropped. -/

namespace Sys2Proof

/-- The condition field (30 R383); 0b1111 is no condition. -/
inductive Cond where
  | eq | ne | cs | cc | mi | pl | vs | vc | hi | ls | ge | lt | gt | le | al
deriving DecidableEq, Repr

/-- The shift type of a register operand (30 R386). -/
inductive ShiftType where
  | lsl | lsr | asr | ror
deriving DecidableEq, Repr

/-- The sixteen data-processing operations (30 R385). -/
inductive DpOp where
  | and | eor | sub | rsb | add | adc | sbc | rsc | tst | teq | cmp | cmn | orr | mov | bic | mvn
deriving DecidableEq, Repr

/-- The shifter operand of a data-processing instruction (30 R386, R387). -/
inductive ShifterOperand where
  | imm (rot : BitVec 4) (imm8 : BitVec 8)
  | shiftImm (amount : BitVec 5) (sh : ShiftType) (rm : Reg)
  | shiftReg (rs : Reg) (sh : ShiftType) (rm : Reg)
deriving DecidableEq, Repr

/-- The offset of a word or unsigned-byte transfer (30 R391). -/
inductive Offset2 where
  | imm (off12 : BitVec 12)
  | reg (amount : BitVec 5) (sh : ShiftType) (rm : Reg)
deriving DecidableEq, Repr

/-- The offset of a halfword, signed-byte or doubleword transfer (30 R392). -/
inductive Offset3 where
  | imm (immH : BitVec 4) (immL : BitVec 4)
  | reg (sbz : BitVec 4) (rm : Reg)
deriving DecidableEq, Repr

/-- The operands of a Thumb shift (46 R721 to R723, R734 to R736). -/
inductive ThumbShift where
  | imm (imm5 : BitVec 5) (rm : LowReg) (rd : LowReg)
  | reg (rm : LowReg) (rd : LowReg)
deriving DecidableEq, Repr

/-- The operands of a Thumb ADD or SUB on low registers (46 R724 to R727, R730, R731). -/
inductive ThumbAddSub where
  | reg (rm : LowReg) (rn : LowReg) (rd : LowReg)
  | imm3 (imm3 : BitVec 3) (rn : LowReg) (rd : LowReg)
  | imm8 (rd : LowReg) (imm8 : BitVec 8)
deriving DecidableEq, Repr

/-- The operands of a Thumb CMP on low registers (46 R729, R743). -/
inductive ThumbCompare where
  | imm8 (rn : LowReg) (imm8 : BitVec 8)
  | reg (rm : LowReg) (rd : LowReg)
deriving DecidableEq, Repr

/-- The address of a Thumb byte or halfword transfer (46 R760 to R772). -/
inductive ThumbAddress where
  | reg (rm : LowReg) (rn : LowReg)
  | imm (imm5 : BitVec 5) (rn : LowReg)
deriving DecidableEq, Repr

/-- The address of a Thumb STR (46 R759, R767, R773). -/
inductive ThumbStoreAddress where
  | reg (rm : LowReg) (rn : LowReg)
  | imm (imm5 : BitVec 5) (rn : LowReg)
  | sp (imm8 : BitVec 8)
deriving DecidableEq, Repr

/-- The address of a Thumb LDR (46 R742, R763, R768, R774). -/
inductive ThumbLoadAddress where
  | pc (imm8 : BitVec 8)
  | reg (rm : LowReg) (rn : LowReg)
  | imm (imm5 : BitVec 5) (rn : LowReg)
  | sp (imm8 : BitVec 8)
deriving DecidableEq, Repr

/-- The undefined Thumb patterns (46 R781), by their fixed bits. -/
inductive ThumbUndefined where
  | perm (any : BitVec 8)
  | blxOdd (any : BitVec 10)
  | b0001 (any : BitVec 8)
  | b001x (any : BitVec 9)
  | b011x (any : BitVec 9)
  | b10xx (any : BitVec 10)
  | b1111 (any : BitVec 8)
deriving DecidableEq, Repr

/-- Every instruction: ARM rows first, Thumb rows (names beginning with `t`) after them. -/
inductive Instr where
  | and (c : Cond) (sf : Bool) (rn : Reg) (rd : Reg) (op : ShifterOperand)  -- AND, R440
  | eor (c : Cond) (sf : Bool) (rn : Reg) (rd : Reg) (op : ShifterOperand)  -- EOR, R441
  | sub (c : Cond) (sf : Bool) (rn : Reg) (rd : Reg) (op : ShifterOperand)  -- SUB, R442
  | rsb (c : Cond) (sf : Bool) (rn : Reg) (rd : Reg) (op : ShifterOperand)  -- RSB, R443
  | add (c : Cond) (sf : Bool) (rn : Reg) (rd : Reg) (op : ShifterOperand)  -- ADD, R444
  | adc (c : Cond) (sf : Bool) (rn : Reg) (rd : Reg) (op : ShifterOperand)  -- ADC, R445
  | sbc (c : Cond) (sf : Bool) (rn : Reg) (rd : Reg) (op : ShifterOperand)  -- SBC, R446
  | rsc (c : Cond) (sf : Bool) (rn : Reg) (rd : Reg) (op : ShifterOperand)  -- RSC, R447
  | tst (c : Cond) (rn : Reg) (sbz : BitVec 4) (op : ShifterOperand)  -- TST, R448
  | teq (c : Cond) (rn : Reg) (sbz : BitVec 4) (op : ShifterOperand)  -- TEQ, R449
  | cmp (c : Cond) (rn : Reg) (sbz : BitVec 4) (op : ShifterOperand)  -- CMP, R450
  | cmn (c : Cond) (rn : Reg) (sbz : BitVec 4) (op : ShifterOperand)  -- CMN, R451
  | orr (c : Cond) (sf : Bool) (rn : Reg) (rd : Reg) (op : ShifterOperand)  -- ORR, R452
  | mov (c : Cond) (sf : Bool) (sbz : BitVec 4) (rd : Reg) (op : ShifterOperand)  -- MOV, R453
  | bic (c : Cond) (sf : Bool) (rn : Reg) (rd : Reg) (op : ShifterOperand)  -- BIC, R454
  | mvn (c : Cond) (sf : Bool) (sbz : BitVec 4) (rd : Reg) (op : ShifterOperand)  -- MVN, R455
  | clz (c : Cond) (sbo : BitVec 4) (rd : Reg) (sbo2 : BitVec 4) (rm : Reg)  -- CLZ, R456
  | mul (c : Cond) (sf : Bool) (rd : Reg) (sbz : BitVec 4) (rs : Reg) (rm : Reg)  -- MUL, R485
  | mla (c : Cond) (sf : Bool) (rd : Reg) (rn : Reg) (rs : Reg) (rm : Reg)  -- MLA, R486
  | umull (c : Cond) (sf : Bool) (rdHi : Reg) (rdLo : Reg) (rs : Reg) (rm : Reg)  -- UMULL, R487
  | umlal (c : Cond) (sf : Bool) (rdHi : Reg) (rdLo : Reg) (rs : Reg) (rm : Reg)  -- UMLAL, R488
  | smull (c : Cond) (sf : Bool) (rdHi : Reg) (rdLo : Reg) (rs : Reg) (rm : Reg)  -- SMULL, R489
  | smlal (c : Cond) (sf : Bool) (rdHi : Reg) (rdLo : Reg) (rs : Reg) (rm : Reg)  -- SMLAL, R490
  | smulxy (c : Cond) (rd : Reg) (sbz : BitVec 4) (rs : Reg) (y : Bool) (x : Bool) (rm : Reg)  -- SMUL<x><y>, R495
  | smulwy (c : Cond) (rd : Reg) (sbz : BitVec 4) (rs : Reg) (y : Bool) (rm : Reg)  -- SMULW<y>, R496
  | smlaxy (c : Cond) (rd : Reg) (rn : Reg) (rs : Reg) (y : Bool) (x : Bool) (rm : Reg)  -- SMLA<x><y>, R497
  | smlawy (c : Cond) (rd : Reg) (rn : Reg) (rs : Reg) (y : Bool) (rm : Reg)  -- SMLAW<y>, R498
  | smlalxy (c : Cond) (rdHi : Reg) (rdLo : Reg) (rs : Reg) (y : Bool) (x : Bool) (rm : Reg)  -- SMLAL<x><y>, R499
  | qadd (c : Cond) (rn : Reg) (rd : Reg) (sbz : BitVec 4) (rm : Reg)  -- QADD, R502
  | qsub (c : Cond) (rn : Reg) (rd : Reg) (sbz : BitVec 4) (rm : Reg)  -- QSUB, R503
  | qdadd (c : Cond) (rn : Reg) (rd : Reg) (sbz : BitVec 4) (rm : Reg)  -- QDADD, R504
  | qdsub (c : Cond) (rn : Reg) (rd : Reg) (sbz : BitVec 4) (rm : Reg)  -- QDSUB, R505
  | ldr (c : Cond) (p : Bool) (u : Bool) (w : Bool) (rn : Reg) (rd : Reg) (off : Offset2)  -- LDR, R540
  | ldrb (c : Cond) (p : Bool) (u : Bool) (w : Bool) (rn : Reg) (rd : Reg) (off : Offset2)  -- LDRB, R541
  | str (c : Cond) (p : Bool) (u : Bool) (w : Bool) (rn : Reg) (rd : Reg) (off : Offset2)  -- STR, R542
  | strb (c : Cond) (p : Bool) (u : Bool) (w : Bool) (rn : Reg) (rd : Reg) (off : Offset2)  -- STRB, R543
  | ldrt (c : Cond) (u : Bool) (rn : Reg) (rd : Reg) (off : Offset2)  -- LDRT, R544
  | ldrbt (c : Cond) (u : Bool) (rn : Reg) (rd : Reg) (off : Offset2)  -- LDRBT, R545
  | strt (c : Cond) (u : Bool) (rn : Reg) (rd : Reg) (off : Offset2)  -- STRT, R546
  | strbt (c : Cond) (u : Bool) (rn : Reg) (rd : Reg) (off : Offset2)  -- STRBT, R547
  | ldrh (c : Cond) (p : Bool) (u : Bool) (w : Bool) (rn : Reg) (rd : Reg) (off : Offset3)  -- LDRH, R548
  | ldrsh (c : Cond) (p : Bool) (u : Bool) (w : Bool) (rn : Reg) (rd : Reg) (off : Offset3)  -- LDRSH, R549
  | ldrsb (c : Cond) (p : Bool) (u : Bool) (w : Bool) (rn : Reg) (rd : Reg) (off : Offset3)  -- LDRSB, R550
  | strh (c : Cond) (p : Bool) (u : Bool) (w : Bool) (rn : Reg) (rd : Reg) (off : Offset3)  -- STRH, R551
  | ldrd (c : Cond) (p : Bool) (u : Bool) (w : Bool) (rn : Reg) (rd : Reg) (off : Offset3)  -- LDRD, R552
  | strd (c : Cond) (p : Bool) (u : Bool) (w : Bool) (rn : Reg) (rd : Reg) (off : Offset3)  -- STRD, R553
  | pld (u : Bool) (rn : Reg) (off : Offset2)  -- PLD, R554
  | ldm (c : Cond) (p : Bool) (u : Bool) (w : Bool) (rn : Reg) (regs : BitVec 16)  -- LDM, R560
  | ldmUser (c : Cond) (p : Bool) (u : Bool) (sbz : Bool) (rn : Reg) (regs : BitVec 15)  -- LDM, R561
  | ldmReturn (c : Cond) (p : Bool) (u : Bool) (w : Bool) (rn : Reg) (regs : BitVec 15)  -- LDM, R562
  | stm (c : Cond) (p : Bool) (u : Bool) (w : Bool) (rn : Reg) (regs : BitVec 16)  -- STM, R563
  | stmUser (c : Cond) (p : Bool) (u : Bool) (sbz : Bool) (rn : Reg) (regs : BitVec 16)  -- STM, R564
  | swp (c : Cond) (rn : Reg) (rd : Reg) (sbz : BitVec 4) (rm : Reg)  -- SWP, R570
  | swpb (c : Cond) (rn : Reg) (rd : Reg) (sbz : BitVec 4) (rm : Reg)  -- SWPB, R571
  | b (c : Cond) (imm24 : BitVec 24)  -- B, R590
  | bl (c : Cond) (imm24 : BitVec 24)  -- BL, R591
  | blxImm (h : Bool) (imm24 : BitVec 24)  -- BLX, R592
  | blxReg (c : Cond) (sbo : BitVec 4) (sbo2 : BitVec 4) (sbo3 : BitVec 4) (rm : Reg)  -- BLX, R593
  | bx (c : Cond) (sbo : BitVec 4) (sbo2 : BitVec 4) (sbo3 : BitVec 4) (rm : Reg)  -- BX, R594
  | mrs (c : Cond) (r : Bool) (sbo : BitVec 4) (rd : Reg) (sbz : BitVec 4) (sbz2 : BitVec 4)  -- MRS, R605
  | msrImm (c : Cond) (r : Bool) (mask : BitVec 4) (sbo : BitVec 4) (rot : BitVec 4) (imm8 : BitVec 8)  -- MSR, R606
  | msrReg (c : Cond) (r : Bool) (mask : BitVec 4) (sbo : BitVec 4) (sbz : BitVec 4) (rm : Reg)  -- MSR, R606
  | swi (c : Cond) (imm24 : BitVec 24)  -- SWI, R610
  | bkpt (immHi : BitVec 12) (immLo : BitVec 4)  -- BKPT, R611
  | cdp (c : Cond) (opc1 : BitVec 4) (crn : BitVec 4) (crd : BitVec 4) (cp : BitVec 4) (opc2 : BitVec 3) (crm : BitVec 4)  -- CDP, R621
  | mcr (c : Cond) (opc1 : BitVec 3) (crn : BitVec 4) (rd : Reg) (cp : BitVec 4) (opc2 : BitVec 3) (crm : BitVec 4)  -- MCR, R625
  | mrc (c : Cond) (opc1 : BitVec 3) (crn : BitVec 4) (rd : Reg) (cp : BitVec 4) (opc2 : BitVec 3) (crm : BitVec 4)  -- MRC, R626
  | ldc (c : Cond) (p : Bool) (u : Bool) (n : Bool) (w : Bool) (rn : Reg) (crd : BitVec 4) (cp : BitVec 4) (off8 : BitVec 8)  -- LDC, R627
  | stc (c : Cond) (p : Bool) (u : Bool) (n : Bool) (w : Bool) (rn : Reg) (crd : BitVec 4) (cp : BitVec 4) (off8 : BitVec 8)  -- STC, R627
  | mcrr (c : Cond) (rn : Reg) (rd : Reg) (cp : BitVec 4) (opc : BitVec 4) (crm : BitVec 4)  -- MCRR, R629
  | mrrc (c : Cond) (rn : Reg) (rd : Reg) (cp : BitVec 4) (opc : BitVec 4) (crm : BitVec 4)  -- MRRC, R629
  | cdp2 (opc1 : BitVec 4) (crn : BitVec 4) (crd : BitVec 4) (cp : BitVec 4) (opc2 : BitVec 3) (crm : BitVec 4)  -- CDP2, R630
  | mcr2 (opc1 : BitVec 3) (crn : BitVec 4) (rd : Reg) (cp : BitVec 4) (opc2 : BitVec 3) (crm : BitVec 4)  -- MCR2, R630
  | mrc2 (opc1 : BitVec 3) (crn : BitVec 4) (rd : Reg) (cp : BitVec 4) (opc2 : BitVec 3) (crm : BitVec 4)  -- MRC2, R630
  | ldc2 (p : Bool) (u : Bool) (n : Bool) (w : Bool) (rn : Reg) (crd : BitVec 4) (cp : BitVec 4) (off8 : BitVec 8)  -- LDC2, R630
  | stc2 (p : Bool) (u : Bool) (n : Bool) (w : Bool) (rn : Reg) (crd : BitVec 4) (cp : BitVec 4) (off8 : BitVec 8)  -- STC2, R630
  | undefinedSpace (c : Cond) (any : BitVec 20) (any2 : BitVec 4)  -- UNDEFINED, R631
  | mia (c : Cond) (rs : Reg) (acc : BitVec 3) (rm : Reg)  -- MIA, R642
  | miaph (c : Cond) (rs : Reg) (acc : BitVec 3) (rm : Reg)  -- MIAPH, R643
  | miabb (c : Cond) (rs : Reg) (acc : BitVec 3) (rm : Reg)  -- MIABB, R645
  | miabt (c : Cond) (rs : Reg) (acc : BitVec 3) (rm : Reg)  -- MIABT, R646
  | miatb (c : Cond) (rs : Reg) (acc : BitVec 3) (rm : Reg)  -- MIATB, R651
  | miatt (c : Cond) (rs : Reg) (acc : BitVec 3) (rm : Reg)  -- MIATT, R652
  | mar (c : Cond) (rdHi : Reg) (rdLo : Reg) (acc : BitVec 3)  -- MAR, R647
  | mra (c : Cond) (rdHi : Reg) (rdLo : Reg) (acc : BitVec 3)  -- MRA, R648
  | mrcMainId (c : Cond) (rd : Reg)  -- MRC_p15__0__Rd__c0__c0__0___read_Main_ID, R71
  | mrcL2Id (c : Cond) (rd : Reg)  -- MRC_p15__1__Rd__c0__c0__0___read_L2_System_ID, R72
  | mrcCacheType (c : Cond) (rd : Reg)  -- MRC_p15__0__Rd__c0__c0__1___read_Cache_Type, R73
  | mrcL2CacheType (c : Cond) (rd : Reg)  -- MRC_p15__1__Rd__c0__c0__1___read_L2_Cache_Type, R74
  | mcrControl (c : Cond) (rd : Reg)  -- MCR_p15__0__Rd__c1__c0__0___Control_Register, R78
  | mrcControl (c : Cond) (rd : Reg)  -- MRC_p15__0__Rd__c1__c0__0___Control_Register, R78
  | mcrAuxControl (c : Cond) (rd : Reg)  -- MCR_p15__0__Rd__c1__c0__1___Auxiliary_Control_Register, R84
  | mrcAuxControl (c : Cond) (rd : Reg)  -- MRC_p15__0__Rd__c1__c0__1___Auxiliary_Control_Register, R84
  | mcrTtBase (c : Cond) (rd : Reg)  -- MCR_p15__0__Rd__c2__c0__0___Translation_Table_Base_Regis, R86
  | mrcTtBase (c : Cond) (rd : Reg)  -- MRC_p15__0__Rd__c2__c0__0___Translation_Table_Base_Regis, R86
  | mcrDacr (c : Cond) (rd : Reg)  -- MCR_p15__0__Rd__c3__c0__0___Domain_Access_Control_Regist, R87
  | mrcDacr (c : Cond) (rd : Reg)  -- MRC_p15__0__Rd__c3__c0__0___Domain_Access_Control_Regist, R87
  | mcrFsr (c : Cond) (rd : Reg)  -- MCR_p15__0__Rd__c5__c0__0___Fault_Status_Register, R89
  | mrcFsr (c : Cond) (rd : Reg)  -- MRC_p15__0__Rd__c5__c0__0___Fault_Status_Register, R89
  | mcrFar (c : Cond) (rd : Reg)  -- MCR_p15__0__Rd__c6__c0__0___Fault_Address_Register, R90
  | mrcFar (c : Cond) (rd : Reg)  -- MRC_p15__0__Rd__c6__c0__0___Fault_Address_Register, R90
  | mcrDcLock (c : Cond) (rd : Reg)  -- MCR_p15__0__Rd__c9__c6__0___Data_Cache_Lock_Register, R698
  | mrcDcLock (c : Cond) (rd : Reg)  -- MRC_p15__0__Rd__c9__c6__0___Data_Cache_Lock_Register, R698
  | mcrDcLockLegacy (c : Cond) (rd : Reg)  -- MCR_p15__0__Rd__c9__c2__0___Data_Cache_Lock_Register__le, R698
  | mrcDcLockLegacy (c : Cond) (rd : Reg)  -- MRC_p15__0__Rd__c9__c2__0___Data_Cache_Lock_Register__le, R698
  | mcrPid (c : Cond) (rd : Reg)  -- MCR_p15__0__Rd__c13__c0__0___Process_ID_Register, R120
  | mrcPid (c : Cond) (rd : Reg)  -- MRC_p15__0__Rd__c13__c0__0___Process_ID_Register, R120
  | mcrIbr0 (c : Cond) (rd : Reg)  -- MCR_p15__0__Rd__c14__c8__0___IBR0, R122
  | mrcIbr0 (c : Cond) (rd : Reg)  -- MRC_p15__0__Rd__c14__c8__0___IBR0, R122
  | mcrIbr1 (c : Cond) (rd : Reg)  -- MCR_p15__0__Rd__c14__c9__0___IBR1, R123
  | mrcIbr1 (c : Cond) (rd : Reg)  -- MRC_p15__0__Rd__c14__c9__0___IBR1, R123
  | mcrDbr0 (c : Cond) (rd : Reg)  -- MCR_p15__0__Rd__c14__c0__0___DBR0, R124
  | mrcDbr0 (c : Cond) (rd : Reg)  -- MRC_p15__0__Rd__c14__c0__0___DBR0, R124
  | mcrDbr1 (c : Cond) (rd : Reg)  -- MCR_p15__0__Rd__c14__c3__0___DBR1, R125
  | mrcDbr1 (c : Cond) (rd : Reg)  -- MRC_p15__0__Rd__c14__c3__0___DBR1, R125
  | mcrDbcon (c : Cond) (rd : Reg)  -- MCR_p15__0__Rd__c14__c4__0___DBCON, R126
  | mrcDbcon (c : Cond) (rd : Reg)  -- MRC_p15__0__Rd__c14__c4__0___DBCON, R126
  | mcrCpar (c : Cond) (rd : Reg)  -- MCR_p15__0__Rd__c15__c1__0___Coprocessor_Access_Register, R133
  | mrcCpar (c : Cond) (rd : Reg)  -- MRC_p15__0__Rd__c15__c1__0___Coprocessor_Access_Register, R133
  | invIcacheBtb (c : Cond) (rd : Reg)  -- MCR_p15__0__Rd__c7__c5__0___Invalidate_I_cache___BTB, R664
  | invIcacheLine (c : Cond) (rd : Reg)  -- MCR_p15__0__Rd__c7__c5__1___Invalidate_I_cache_line, R665
  | invBtb (c : Cond) (rd : Reg)  -- MCR_p15__0__Rd__c7__c5__6___Invalidate_BTB, R666
  | invDcache (c : Cond) (rd : Reg)  -- MCR_p15__0__Rd__c7__c6__0___Invalidate_D_cache, R667
  | invDcacheLine (c : Cond) (rd : Reg)  -- MCR_p15__0__Rd__c7__c6__1___Invalidate_D_cache_line, R668
  | invCachesBtb (c : Cond) (rd : Reg)  -- MCR_p15__0__Rd__c7__c7__0___Invalidate_I_D_cache___BTB, R669
  | cleanDcacheMva (c : Cond) (rd : Reg)  -- MCR_p15__0__Rd__c7__c10__1___Clean_D_cache_line_by_MVA, R670
  | cleanDcacheSetWay (c : Cond) (rd : Reg)  -- MCR_p15__0__Rd__c7__c10__2___Clean_D_cache_line_by_set_w, R671
  | cleanInvDcacheMva (c : Cond) (rd : Reg)  -- MCR_p15__0__Rd__c7__c14__1___Clean___Invalidate_D_cache, R672
  | cleanInvDcacheSetWay (c : Cond) (rd : Reg)  -- MCR_p15__0__Rd__c7__c14__2___Clean___Invalidate_D_cache, R673
  | prefetchFlush (c : Cond) (rd : Reg)  -- MCR_p15__0__Rd__c7__c5__4___Prefetch_Flush__PF, R676
  | dataWriteBarrier (c : Cond) (rd : Reg)  -- MCR_p15__0__Rd__c7__c10__4___Data_Write_Barrier__DWB, R677
  | dataMemoryBarrier (c : Cond) (rd : Reg)  -- MCR_p15__0__Rd__c7__c10__5___Data_Memory_Barrier__DMB, R678
  | invL2Mva (c : Cond) (rd : Reg)  -- MCR_p15__1__Rd__c7__c7__1___Invalidate_L2_cache_line_by, R680
  | cleanL2Mva (c : Cond) (rd : Reg)  -- MCR_p15__1__Rd__c7__c11__1___Clean_L2_cache_line_by_MVA, R681
  | cleanL2SetWay (c : Cond) (rd : Reg)  -- MCR_p15__1__Rd__c7__c11__2___Clean_L2_cache_line_by_set, R682
  | cleanInvL2SetWay (c : Cond) (rd : Reg)  -- MCR_p15__1__Rd__c7__c15__2___Clean___Invalidate_L2_cache, R683
  | allocDcacheLine (c : Cond) (rd : Reg)  -- MCR_p15__0__Rd__c7__c2__5___Data_Cache_Line_Allocate, R685
  | invTlbs (c : Cond) (rd : Reg)  -- MCR_p15__0__Rd__c8__c7__0___Invalidate_I_D_TLB, R690
  | invItlb (c : Cond) (rd : Reg)  -- MCR_p15__0__Rd__c8__c5__0___Invalidate_I_TLB, R691
  | invItlbEntry (c : Cond) (rd : Reg)  -- MCR_p15__0__Rd__c8__c5__1___Invalidate_I_TLB_entry, R692
  | invDtlb (c : Cond) (rd : Reg)  -- MCR_p15__0__Rd__c8__c6__0___Invalidate_D_TLB, R693
  | invDtlbEntry (c : Cond) (rd : Reg)  -- MCR_p15__0__Rd__c8__c6__1___Invalidate_D_TLB_entry, R694
  | lockIcacheLine (c : Cond) (rd : Reg)  -- MCR_p15__0__Rd__c9__c5__0___Fetch_and_Lock_I_cache_line, R696
  | lockIcacheLineLegacy (c : Cond) (rd : Reg)  -- MCR_p15__0__Rd__c9__c1__0___Fetch_and_Lock_I_cache_line, R696
  | unlockIcache (c : Cond) (rd : Reg)  -- MCR_p15__0__Rd__c9__c5__1___Unlock_I_cache, R697
  | unlockIcacheLegacy (c : Cond) (rd : Reg)  -- MCR_p15__0__Rd__c9__c1__1___Unlock_I_cache__legacy_encod, R697
  | unlockDcache (c : Cond) (rd : Reg)  -- MCR_p15__0__Rd__c9__c6__1___Unlock_D_cache, R699
  | unlockDcacheLegacy (c : Cond) (rd : Reg)  -- MCR_p15__0__Rd__c9__c2__1___Unlock_D_cache__legacy_encod, R699
  | lockL2Line (c : Cond) (rd : Reg)  -- MCR_p15__1__Rd__c9__c5__0___Fetch_and_Lock_L2_cache_line, R700
  | allocLockL2Line (c : Cond) (rd : Reg)  -- MCR_p15__1__Rd__c9__c5__2___Allocate_and_Lock_L2_cache_l, R701
  | unlockL2 (c : Cond) (rd : Reg)  -- MCR_p15__1__Rd__c9__c5__1___Unlock_L2_cache, R702
  | lockItlbEntry (c : Cond) (rd : Reg)  -- MCR_p15__0__Rd__c10__c4__0___Translate_and_Lock_I_TLB_en, R704
  | unlockItlb (c : Cond) (rd : Reg)  -- MCR_p15__0__Rd__c10__c4__1___Unlock_I_TLB, R705
  | lockDtlbEntry (c : Cond) (rd : Reg)  -- MCR_p15__0__Rd__c10__c8__0___Translate_and_Lock_D_TLB_en, R706
  | unlockDtlb (c : Cond) (rd : Reg)  -- MCR_p15__0__Rd__c10__c8__1___Unlock_D_TLB, R707
  | mcrPmnc (c : Cond) (rd : Reg)  -- MCR_p14__0__Rd__c0__c1__0___PMNC, R141
  | mrcPmnc (c : Cond) (rd : Reg)  -- MRC_p14__0__Rd__c0__c1__0___PMNC, R141
  | mcrCcnt (c : Cond) (rd : Reg)  -- MCR_p14__0__Rd__c1__c1__0___CCNT, R142
  | mrcCcnt (c : Cond) (rd : Reg)  -- MRC_p14__0__Rd__c1__c1__0___CCNT, R142
  | mcrInten (c : Cond) (rd : Reg)  -- MCR_p14__0__Rd__c4__c1__0___INTEN, R143
  | mrcInten (c : Cond) (rd : Reg)  -- MRC_p14__0__Rd__c4__c1__0___INTEN, R143
  | mcrFlag (c : Cond) (rd : Reg)  -- MCR_p14__0__Rd__c5__c1__0___FLAG, R144
  | mrcFlag (c : Cond) (rd : Reg)  -- MRC_p14__0__Rd__c5__c1__0___FLAG, R144
  | mcrEvtsel (c : Cond) (rd : Reg)  -- MCR_p14__0__Rd__c8__c1__0___EVTSEL, R145
  | mrcEvtsel (c : Cond) (rd : Reg)  -- MRC_p14__0__Rd__c8__c1__0___EVTSEL, R145
  | mcrPmn0 (c : Cond) (rd : Reg)  -- MCR_p14__0__Rd__c0__c2__0___PMN0, R146
  | mrcPmn0 (c : Cond) (rd : Reg)  -- MRC_p14__0__Rd__c0__c2__0___PMN0, R146
  | mcrPmn1 (c : Cond) (rd : Reg)  -- MCR_p14__0__Rd__c1__c2__0___PMN1, R146
  | mrcPmn1 (c : Cond) (rd : Reg)  -- MRC_p14__0__Rd__c1__c2__0___PMN1, R146
  | mcrPmn2 (c : Cond) (rd : Reg)  -- MCR_p14__0__Rd__c2__c2__0___PMN2, R146
  | mrcPmn2 (c : Cond) (rd : Reg)  -- MRC_p14__0__Rd__c2__c2__0___PMN2, R146
  | mcrPmn3 (c : Cond) (rd : Reg)  -- MCR_p14__0__Rd__c3__c2__0___PMN3, R146
  | mrcPmn3 (c : Cond) (rd : Reg)  -- MRC_p14__0__Rd__c3__c2__0___PMN3, R146
  | mcrCclkcfg (c : Cond) (rd : Reg)  -- MCR_p14__0__Rd__c6__c0__0___CCLKCFG, R152
  | mrcCclkcfg (c : Cond) (rd : Reg)  -- MRC_p14__0__Rd__c6__c0__0___CCLKCFG, R152
  | mcrPwrmode (c : Cond) (rd : Reg)  -- MCR_p14__0__Rd__c7__c0__0___PWRMODE, R151
  | mrcPwrmode (c : Cond) (rd : Reg)  -- MRC_p14__0__Rd__c7__c0__0___PWRMODE, R151
  | mcrTx (c : Cond) (rd : Reg)  -- MCR_p14__0__Rd__c8__c0__0___TX, R157
  | mrcRx (c : Cond) (rd : Reg)  -- MRC_p14__0__Rd__c9__c0__0___RX, R158
  | mcrDcsr (c : Cond) (rd : Reg)  -- MCR_p14__0__Rd__c10__c0__0___DCSR, R154
  | mrcDcsr (c : Cond) (rd : Reg)  -- MRC_p14__0__Rd__c10__c0__0___DCSR, R154
  | mrcTbreg (c : Cond) (rd : Reg)  -- MRC_p14__0__Rd__c11__c0__0___TBREG, R159
  | mcrChkpt0 (c : Cond) (rd : Reg)  -- MCR_p14__0__Rd__c12__c0__0___CHKPT0, R160
  | mrcChkpt0 (c : Cond) (rd : Reg)  -- MRC_p14__0__Rd__c12__c0__0___CHKPT0, R160
  | mcrChkpt1 (c : Cond) (rd : Reg)  -- MCR_p14__0__Rd__c13__c0__0___CHKPT1, R160
  | mrcChkpt1 (c : Cond) (rd : Reg)  -- MRC_p14__0__Rd__c13__c0__0___CHKPT1, R160
  | mcrTxrxctrl (c : Cond) (rd : Reg)  -- MCR_p14__0__Rd__c14__c0__0___TXRXCTRL, R156
  | mrcTxrxctrl (c : Cond) (rd : Reg)  -- MRC_p14__0__Rd__c14__c0__0___TXRXCTRL, R156
  | ldcP14 (c : Cond) (p : Bool) (u : Bool) (n : Bool) (w : Bool) (rn : Reg) (crd : BitVec 4) (off8 : BitVec 8)  -- LDC_p14__c_N____addressing_mode, R162
  | stcP14 (c : Cond) (p : Bool) (u : Bool) (n : Bool) (w : Bool) (rn : Reg) (crd : BitVec 4) (off8 : BitVec 8)  -- STC_p14__c_N____addressing_mode, R162
  | mcrErrlog (c : Cond) (rd : Reg)  -- MCR_p7__0__Rd__c0__c2__0___ERRLOG, R171
  | mrcErrlog (c : Cond) (rd : Reg)  -- MRC_p7__0__Rd__c0__c2__0___ERRLOG, R171
  | mcrErradrl (c : Cond) (rd : Reg)  -- MCR_p7__0__Rd__c1__c2__0___ERRADRL, R173
  | mrcErradrl (c : Cond) (rd : Reg)  -- MRC_p7__0__Rd__c1__c2__0___ERRADRL, R173
  | mcrErradru (c : Cond) (rd : Reg)  -- MCR_p7__0__Rd__c2__c2__0___ERRADRU, R174
  | mrcErradru (c : Cond) (rd : Reg)  -- MRC_p7__0__Rd__c2__c2__0___ERRADRU, R174
  | tLsl (op : ThumbShift)  -- LSL, R721, R734
  | tLsr (op : ThumbShift)  -- LSR, R722, R735
  | tAsr (op : ThumbShift)  -- ASR, R723, R736
  | tAdd (op : ThumbAddSub)  -- ADD, R724, R726, R730
  | tSub (op : ThumbAddSub)  -- SUB, R725, R727, R731
  | tMovImm8 (rd : LowReg) (imm8 : BitVec 8)  -- MOV, R728
  | tCmp (op : ThumbCompare)  -- CMP, R729, R743
  | tAnd (rm : LowReg) (rd : LowReg)  -- AND, R732
  | tEor (rm : LowReg) (rd : LowReg)  -- EOR, R733
  | tAdc (rm : LowReg) (rd : LowReg)  -- ADC, R737
  | tSbc (rm : LowReg) (rd : LowReg)  -- SBC, R738
  | tRorReg (rm : LowReg) (rd : LowReg)  -- ROR, R739
  | tTst (rm : LowReg) (rd : LowReg)  -- TST, R740
  | tNeg (rm : LowReg) (rd : LowReg)  -- NEG, R741
  | tCmn (rm : LowReg) (rd : LowReg)  -- CMN, R744
  | tOrr (rm : LowReg) (rd : LowReg)  -- ORR, R745
  | tMul (rm : LowReg) (rd : LowReg)  -- MUL, R746
  | tBic (rm : LowReg) (rd : LowReg)  -- BIC, R747
  | tMvn (rm : LowReg) (rd : LowReg)  -- MVN, R748
  | tAddHi (h1 : Bool) (h2 : Bool) (rm : LowReg) (rd : LowReg)  -- ADD, R749
  | tCmpHi (h1 : Bool) (h2 : Bool) (rm : LowReg) (rn : LowReg)  -- CMP, R750
  | tMovHi (h1 : Bool) (h2 : Bool) (rm : LowReg) (rd : LowReg)  -- MOV, R751
  | tBx (h2 : Bool) (rm : LowReg) (sbz : BitVec 3)  -- BX, R752
  | tBlxReg (h2 : Bool) (rm : LowReg) (sbz : BitVec 3)  -- BLX, R753
  | tLdr (rd : LowReg) (addr : ThumbLoadAddress)  -- LDR, R742, R763, R768, R774
  | tStr (rd : LowReg) (addr : ThumbStoreAddress)  -- STR, R759, R767, R773
  | tStrh (rd : LowReg) (addr : ThumbAddress)  -- STRH, R760, R771
  | tStrb (rd : LowReg) (addr : ThumbAddress)  -- STRB, R761, R769
  | tLdrsbReg (rm : LowReg) (rn : LowReg) (rd : LowReg)  -- LDRSB, R762
  | tLdrh (rd : LowReg) (addr : ThumbAddress)  -- LDRH, R764, R772
  | tLdrb (rd : LowReg) (addr : ThumbAddress)  -- LDRB, R765, R770
  | tLdrshReg (rm : LowReg) (rn : LowReg) (rd : LowReg)  -- LDRSH, R766
  | tAddPc (rd : LowReg) (imm8 : BitVec 8)  -- ADD, R758
  | tAddSp (rd : LowReg) (imm8 : BitVec 8)  -- ADD, R756
  | tIncSp (imm7 : BitVec 7)  -- ADD, R754
  | tDecSp (imm7 : BitVec 7)  -- SUB, R755
  | tPush (r : Bool) (regs : BitVec 8)  -- PUSH, R775
  | tPop (r : Bool) (regs : BitVec 8)  -- POP, R776
  | tBkpt (imm8 : BitVec 8)  -- BKPT, R779
  | tStmia (rn : LowReg) (regs : BitVec 8)  -- STMIA, R777
  | tLdmia (rn : LowReg) (regs : BitVec 8)  -- LDMIA, R778
  | tBCond (c : Cond) (imm8 : BitVec 8)  -- B, R780
  | tUndefined (pat : ThumbUndefined)  -- UNDEFINED, R781
  | tSwi (imm8 : BitVec 8)  -- SWI, R782
  | tB (imm11 : BitVec 11)  -- B, R783
  | tBlxSuffix (imm10 : BitVec 10)  -- BLX, R791
  | tBlPrefix (imm11 : BitVec 11)  -- BL_BLX_prefix, R790
  | tBlSuffix (imm11 : BitVec 11)  -- BL, R790
deriving DecidableEq, Repr

end Sys2Proof
end

