-- ==== Sys2Proof/Machine/Flags.lean ====
section
/-! DEFINITION. Flag computations, conditions, the barrel shifter and the arithmetic of the data-processing and
multiply instructions (spec 30 R383, 40 R430 to R433, 41 R480 to R482). -/

namespace Sys2Proof.Machine

/-- The condition of an instruction holds (30 R383). -/
def Psr.holds (p : Psr) : Cond → Bool
  | .eq => p.z
  | .ne => !p.z
  | .cs => p.c
  | .cc => !p.c
  | .mi => p.n
  | .pl => !p.n
  | .vs => p.v
  | .vc => !p.v
  | .hi => p.c && !p.z
  | .ls => !p.c || p.z
  | .ge => p.n == p.v
  | .lt => p.n != p.v
  | .gt => !p.z && p.n == p.v
  | .le => p.z || p.n != p.v
  | .al => true

/-- N and Z from a result (40 R432). -/
def Psr.withNZ (p : Psr) (r : Word) : Psr := { p with n := r.msb, z := r == 0 }

/-- N and Z from a result, C and V given. -/
def Psr.withNZCV (p : Psr) (r : Word) (c v : Bool) : Psr := { p with n := r.msb, z := r == 0, c := c, v := v }

/-- N and Z from a 64-bit result (41 R487). -/
def Psr.withNZ64 (p : Psr) (r : BitVec 64) : Psr := { p with n := r.msb, z := r == 0 }

/-- Q becomes 1 where the condition holds, and stays otherwise (41 R481). -/
def Psr.stickyQ (p : Psr) (sat : Bool) : Psr := { p with q := p.q || sat }

/-- A result with the carry and overflow it leaves. -/
structure AluResult where
  value : Word
  carry : Bool
  overflow : Bool
deriving DecidableEq, Repr

/-- The sum of two words and a carry, exact, then narrowed (40 R433 `AddWithCarry`). -/
def addWithCarry (x y : Word) (c : Bool) : AluResult :=
  let u := x.toNat + y.toNat + c.toNat
  let r := BitVec.ofNat 32 u
  ⟨r, decide (2 ^ 32 ≤ u), decide (x.toInt + y.toInt + c.toNat ≠ r.toInt)⟩

/-- A shift by an amount that is not zero (40 R431): the value and the bit shifted out last. -/
def shiftBy (sh : ShiftType) (x : Word) (n : Nat) : Word × Bool :=
  match sh with
  | .lsl => (x <<< n, n ≤ 32 && x.getLsbD (32 - n))
  | .lsr => (x >>> n, x.getLsbD (n - 1))
  | .asr => (x.sshiftRight n, if n ≤ 32 then x.getLsbD (n - 1) else x.msb)
  | .ror => (x.rotateRight (n % 32), x.getLsbD ((n - 1) % 32))

/-- A shift by an immediate (40 R431): a zero amount means 32 for LSR and ASR and RRX for ROR. -/
def shiftImm (sh : ShiftType) (x : Word) (amount : BitVec 5) (c : Bool) : Word × Bool :=
  if amount ≠ 0 then shiftBy sh x amount.toNat
  else match sh with
    | .lsl => (x, c)
    | .lsr => shiftBy .lsr x 32
    | .asr => shiftBy .asr x 32
    | .ror => ((x >>> 1) ||| (if c then 0x80000000 else 0), x.getLsbD 0)

/-- A shift by the low byte of a register (40 R431). -/
def shiftReg (sh : ShiftType) (x : Word) (amount : Byte) (c : Bool) : Word × Bool :=
  if amount = 0 then (x, c) else shiftBy sh x amount.toNat

/-- An 8-bit immediate rotated right by twice the rotate field (40 R431). -/
def rotatedImm (rot : BitVec 4) (imm8 : BitVec 8) : Word := (imm8.setWidth 32).rotateRight (2 * rot.toNat)

/-- The result of a data-processing operation (40 R440 to R455): `a` the first operand, `b` the shifter operand
with carry-out `k`. Logical operations leave V and take C from the shifter. -/
def dpResult (op : DpOp) (p : Psr) (a b : Word) (k : Bool) : AluResult :=
  match op with
  | .and | .tst => ⟨a &&& b, k, p.v⟩
  | .eor | .teq => ⟨a ^^^ b, k, p.v⟩
  | .sub | .cmp => addWithCarry a (~~~b) true
  | .rsb => addWithCarry b (~~~a) true
  | .add | .cmn => addWithCarry a b false
  | .adc => addWithCarry a b p.c
  | .sbc => addWithCarry a (~~~b) p.c
  | .rsc => addWithCarry b (~~~a) p.c
  | .orr => ⟨a ||| b, k, p.v⟩
  | .mov => ⟨b, k, p.v⟩
  | .bic => ⟨a &&& ~~~b, k, p.v⟩
  | .mvn => ⟨~~~b, k, p.v⟩

/-- The leading zeros of a word, 32 for zero (40 R456). -/
def countLeadingZeros (x : Word) : Word := BitVec.ofNat 32 (if x = 0 then 32 else 31 - x.toNat.log2)

/-- An integer saturated to 32 bits, and whether it was (41 R480 `SignedSat`). -/
def signedSat (x : Int) : Word × Bool :=
  if 2 ^ 31 - 1 < x then (0x7FFFFFFF, true)
  else if x < -(2 ^ 31) then (0x80000000, true)
  else (BitVec.ofInt 32 x, false)

/-- The top or bottom half of a word (41 R495). -/
def halfOf (x : Word) (top : Bool) : Half := if top then x.extractLsb' 16 16 else x.extractLsb' 0 16

/-- A sum of signed words, narrowed, with whether it left the signed range (41 R497). -/
def addSigned (x y : Int) : Word × Bool :=
  let r := BitVec.ofInt 32 (x + y)
  (r, decide (r.toInt ≠ x + y))

end Sys2Proof.Machine
end

