-- ==== Sys2Proof/Machine/Trace.lean ====
section
/-! DEFINITION. Free values (log 10), PMU event notes, and the trace buffer (spec 61 R940 to R946). -/

namespace Sys2Proof.Machine

/-- A fresh free value of a width, and the state that has drawn it (93 treatment `any value`). -/
def State.draw (w : Nat) (s : State) : BitVec w × State :=
  (Config.freeBits w s.run.free, s.setRun { s.run with free := s.run.free + 1 })

/-- Notes an occurrence of a PMU event (12 R150) in the current step. -/
def State.note (s : State) (event : BitVec 8) : State := s.setRun { s.run with events := event :: s.run.events }

/-- Records how the instruction left the pc. -/
def State.withFlow (s : State) (f : Flow) : State := s.setRun { s.run with flow := f }

/-- The trace buffer is enabled (61 R940). -/
def State.tracing (s : State) : Bool := s.dbg.dcsr.e && s.dbg.dcsr.ge

/-- A checkpoint place, forgotten when its slot is rewritten or read out (92 D36). -/
def forgetSlot (slot : BitVec 8) (o : Option (BitVec 8)) : Option (BitVec 8) := if o = some slot then none else o

/-- `tp` passes entry 0 or entry 128 now (92 D36). -/
def Trace.passes (t : Trace) : Bool := t.tp == 0 || t.tp == 128

/-- The buffer after one entry stored at `tp` (61 R940 `trace_write`). -/
def Trace.put (t : Trace) (b : Byte) : Trace where
  buffer := t.buffer.set t.tp.toNat b t.tp.isLt
  tp := t.tp + 1
  count := t.count
  written := min (t.written + 1) 256
  ckptDue := t.ckptDue || t.passes
  ckptAt0 := forgetSlot t.tp t.ckptAt0
  ckptAt1 := forgetSlot t.tp t.ckptAt1

/-- One trace entry, and the trace-buffer-full request of fill-once mode (61 R941), ignored in Special Debug State
(61 R894 item 2). -/
def State.traceWrite (s : State) (b : Byte) : State :=
  let s' := s.setTrace (s.trace.put b)
  if s.dbg.dcsr.m && s.trace.written == 255 && !s.dbg.sds then s'.setDebug { s'.dbg with tbFull := true } else s'

/-- Sets the incremental instruction count (61 R943). -/
def State.setCount (s : State) (n : BitVec 4) : State := s.setTrace { s.trace with count := n }

/-- An exception message with a given count (61 R942). -/
def State.traceException (s : State) (vector : BitVec 3) (count : BitVec 4) : State :=
  if s.tracing then (s.traceWrite (0#1 ++ vector ++ count)).setCount 0 else s

/-- The count field of a precise data abort's message: the aborting instruction included, unless it loads the pc
(61 R943); where that would be 16, the field and a roll-over before it are free (U82, log 32). -/
def State.traceDataAbort (s : State) : State :=
  if !s.tracing then s
  else if s.run.pcLoad then s.traceException 0b100 s.trace.count
  else if s.trace.count != 15 then s.traceException 0b100 (s.trace.count + 1)
  else
    let (any, s') := s.draw 5
    let s'' := if any.getLsbD 4 then s'.traceWrite 0xFF else s'
    s''.traceException 0b100 (any.setWidth 4)

/-- The address recorded for a branch target: bit 0 tells Thumb when DCSR.TT is set (61 R945). -/
def State.traceTarget (s : State) : Word :=
  (s.pc &&& 0xFFFFFFFE) ||| (if s.dbg.dcsr.tt && s.cpsr.t then 1 else 0)

/-- The header of a branch message, the first since `tp` passed entry 0 or 128, checkpointed unless the message
checkpointed two checkpoints earlier still stands (61 R944, 92 D36). Either way the half lap waits no more: no later
message of it is checkpointed; DESIGN CHOICE (log 29). -/
def State.traceHeader (s : State) (kind : BitVec 4) : State :=
  if !s.trace.ckptDue then s.traceWrite (kind ++ s.trace.count)
  else
    let t := s.trace
    let s1 := s.setTrace { t with ckptDue := false }
    if (forgetSlot t.tp t.ckptAt1).isSome then s1.traceWrite (kind ++ t.count)
    else
      let s2 := s1.setDebug { s.dbg with chkpt1 := s.dbg.chkpt0, chkpt0 := s.traceTarget }
      let s3 := s2.traceWrite ((kind ||| 0b0100) ++ t.count)
      s3.setTrace { s3.trace with ckptAt1 := s3.trace.ckptAt0, ckptAt0 := some t.tp }

/-- A direct branch message (61 R942). -/
def State.traceDirect (s : State) : State := (s.traceHeader 0b1000).setCount 0

/-- An indirect branch message: the target, most significant byte first, then the header (61 R942). -/
def State.traceIndirect (s : State) : State :=
  let a := s.traceTarget
  let s1 := (((s.traceWrite (a.extractLsb' 24 8)).traceWrite (a.extractLsb' 16 8)).traceWrite
    (a.extractLsb' 8 8)).traceWrite (a.extractLsb' 0 8)
  (s1.traceHeader 0b1001).setCount 0

/-- An instruction that writes no message: counted, with a roll-over after the sixteenth (61 R943). -/
def State.traceCount (s : State) : State :=
  if s.trace.count = 15 then (s.traceWrite 0xFF).setCount 0 else s.setCount (s.trace.count + 1)

/-- What a completed instruction leaves in the trace, for the way it left the pc (61 R942, R943). An exception
wrote its message at its entry. -/
def State.traceRetire (s : State) : State :=
  match s.run.flow with
  | .sequential => s.traceCount
  | .direct true => s.traceDirect
  | .direct false => s.traceCount
  | .indirect true => s.traceIndirect
  | .indirect false => s.traceCount
  | .exception => s

/-- TBREG read: pops the oldest entry and clears it (61 R940). -/
def State.popTrace (s : State) : Byte × State :=
  let t := s.trace
  (t.buffer[t.tp.toNat]'t.tp.isLt,
   s.setTrace { t with
     buffer := t.buffer.set t.tp.toNat 0 t.tp.isLt
     tp := t.tp + 1
     ckptDue := t.ckptDue || t.passes
     ckptAt0 := forgetSlot t.tp t.ckptAt0
     ckptAt1 := forgetSlot t.tp t.ckptAt1 })

/-- The trace buffer after an access the manual calls unpredictable: contents and pointers free (U81). -/
def State.scrambleTrace (s : State) : State :=
  let (bytes, s1) := s.draw 2048
  let (ptrs, s2) := s1.draw 14
  s2.setTrace { s2.trace with
    buffer := Vector.ofFn (fun i : Fin 256 => bytes.extractLsb' (8 * i.val) 8)
    tp := ptrs.extractLsb' 0 8
    count := ptrs.extractLsb' 8 4
    ckptDue := ptrs.getLsbD 12 }

end Sys2Proof.Machine
end

