-- ==== Sys2Proof/Machine/Ops.lean ====
section
/-! DEFINITION. The operations every meaning is built from: how an instruction can end early, registers and banks,
the status registers, writes of the pc, taking an exception (spec 60 R824 to R843, 61 R892 to R896) and returning
from one (60 R827), and the frame that runs a meaning as an instruction. -/

namespace Sys2Proof.Machine

/-- A precise data abort (60 R841): FS[10,3:0]; the domain and the FAR where Table 13 calls them valid. -/
structure DataAbort where
  status : BitVec 5
  domain : Option (BitVec 4)
  far : Option Word
deriving DecidableEq, Repr

/-- How an instruction ends before its effect is complete; `reset`: the reset pin was asserted between its words (70
R961). -/
inductive Stop where
  | abort (a : DataAbort)
  | undefined
  | refuse (r : Refusal)
  | reset
deriving DecidableEq, Repr

/-- The body of a meaning: it changes the state and may stop early, leaving the state it has reached. -/
abbrev M := EStateM Stop State

/-- The state now. -/
def M.state : M State := fun s => .ok s s

/-- Changes the state. -/
def M.update (f : State → State) : M Unit := fun s => .ok () (f s)

/-- Ends the instruction. -/
def M.stop {α : Type} (e : Stop) : M α := fun s => .error e s

/-- Ends the instruction with no successor state. -/
def M.refuse {α : Type} (r : Refusal) : M α := M.stop (.refuse r)

/-- Refuses unless a condition holds. -/
def M.require (c : Bool) (r : Refusal) : M Unit := if c then pure () else M.refuse r

/-- Raises Undefined Instruction unless a condition holds. -/
def M.defined (c : Bool) : M Unit := if c then pure () else M.stop .undefined

/-- A fresh free value. -/
def M.draw (w : Nat) : M (BitVec w) := fun s => let (v, s') := s.draw w; .ok v s'

/-- Runs a body and answers whether it raised a data abort, keeping what it has done. -/
def M.tryAbort {α : Type} (m : M α) : M (Except DataAbort α) := fun s =>
  match m s with
  | .ok a s' => .ok (.ok a) s'
  | .error (.abort a) s' => .ok (.error a) s'
  | .error e s' => .error e s'

/-- A bit of a register is free to read (11 R79). -/
def anyBits (v mask : Word) : M Word := do
  let f ← M.draw 32
  pure ((v &&& ~~~mask) ||| (f &&& mask))

/-- The write-as-zero bits of a written value are 0 (11 R79, U21). -/
def zeroBits (v mask : Word) : M Unit := M.require (v &&& mask == 0) .reservedBitWritten

/-- Runs an action over a list, collecting the results. -/
def M.each {α β : Type} (f : α → M β) : List α → M (List β)
  | [] => pure []
  | a :: t => do
    let b ← f a
    let bs ← M.each f t
    pure (b :: bs)

/-! ## Modes, registers, status registers -/

/-- The mode encodings (10 R31, R35). -/
def modeUsr : BitVec 5 := 0b10000
/-- FIQ mode. -/
def modeFiq : BitVec 5 := 0b10001
/-- IRQ mode. -/
def modeIrq : BitVec 5 := 0b10010
/-- Supervisor mode. -/
def modeSvc : BitVec 5 := 0b10011
/-- Abort mode. -/
def modeAbt : BitVec 5 := 0b10111
/-- Undefined mode. -/
def modeUnd : BitVec 5 := 0b11011
/-- System mode. -/
def modeSys : BitVec 5 := 0b11111
/-- DEBUG mode. -/
def modeDbg : BitVec 5 := 0b10101

/-- One of the eight modes (93 U12). -/
def legalMode (m : BitVec 5) : Bool :=
  m == modeUsr || m == modeFiq || m == modeIrq || m == modeSvc || m == modeAbt || m == modeUnd || m == modeSys ||
    m == modeDbg

/-- Every mode but User is privileged (10 R30). -/
def State.privileged (s : State) : Bool := s.cpsr.m != modeUsr

/-- User or System mode, which have no SPSR (10 R33). -/
def State.noSpsr (s : State) : Bool := s.cpsr.m == modeUsr || s.cpsr.m == modeSys

/-- The physical register of a general register R0 to R14 in a mode (10 R21; 92 D8 for R13 of DEBUG mode). -/
def bankedRegister (bankR13Dbg : Bool) (m : BitVec 5) (r : Reg) : Fin 32 :=
  let n := r.toNat
  if n < 8 then Fin.ofNat 32 n
  else if m = modeFiq then Fin.ofNat 32 (n + 7)
  else if n < 13 then Fin.ofNat 32 n
  else if m = modeIrq then Fin.ofNat 32 (n + 9)
  else if m = modeSvc then Fin.ofNat 32 (n + 11)
  else if m = modeAbt then Fin.ofNat 32 (n + 13)
  else if m = modeUnd then Fin.ofNat 32 (n + 15)
  else if m = modeDbg && (n == 14 || bankR13Dbg) then Fin.ofNat 32 (n + 17)
  else Fin.ofNat 32 n

/-- The bank of the current mode. -/
def State.bank (s : State) (r : Reg) : Fin 32 := bankedRegister s.cfg.debugBanksR13 s.cpsr.m r

/-- The address of the current instruction plus 8 in ARM state, plus 4 in Thumb state: R15 as read (10 R24). -/
def State.pcRead (s : State) : Word := if s.cpsr.t then s.pc + 4 else s.pc + 8

/-- A register of the current mode as an instruction reads it (10 R20, R24). -/
def State.readReg (s : State) (r : Reg) : Word := if r = 15 then s.pcRead else s.regs[s.bank r]

/-- A register of a mode, R0 to R14. -/
def State.readBank (s : State) (m : BitVec 5) (r : Reg) : Word := s.regs[bankedRegister s.cfg.debugBanksR13 m r]

/-- The state with a general register R0 to R14 of a mode written. -/
def State.writeBank (s : State) (m : BitVec 5) (r : Reg) (v : Word) : State :=
  s.setRegs (s.regs.set (bankedRegister s.cfg.debugBanksR13 m r) v)

/-- The state with a general register R0 to R14 of the current mode written. -/
def State.writeReg (s : State) (r : Reg) (v : Word) : State := s.setRegs (s.regs.set (s.bank r) v)

/-- The register is banked in the current mode: another one than User mode's (10 R21). That U63 speaks of these, so of R8 to
R12 in FIQ mode only, is a DESIGN CHOICE (log 37). -/
def State.isBanked (s : State) (r : Reg) : Bool := r != 15 && (s.bank r).val != r.toNat

/-- The instruction stands right after a transfer of User registers, where none may read a banked register (U63). -/
def State.afterUserTransfer (s : State) : Bool := s.run.userTransfer = 1

/-- Reads a register; after a user-bank transfer a banked one may not be read (U63). -/
def reg (r : Reg) : M Word := fun s =>
  if s.afterUserTransfer && s.isBanked r then .error (.refuse .bankedAfterUserTransfer) s else .ok (s.readReg r) s

/-- Writes a register R0 to R14. -/
def setReg (r : Reg) (v : Word) : M Unit := M.update (·.writeReg r v)

/-- The register a store stores: R15 stores the instruction's address plus 12 (92 D9, log 14). -/
def storedReg (r : Reg) : M Word := fun s => if r = 15 then .ok (s.pc + 12) s else reg r s

/-- Which SPSR a mode has (10 R33). -/
def spsrOf (m : BitVec 5) : Option (Fin 6) :=
  if m = modeFiq then some 0
  else if m = modeIrq then some 1
  else if m = modeSvc then some 2
  else if m = modeAbt then some 3
  else if m = modeUnd then some 4
  else if m = modeDbg then some 5
  else none

/-- A status register as a word: bits 26:8 read as zero (10 R27, R34). -/
def Psr.toWord (p : Psr) : Word :=
  BitVec.ofBool p.n ++ BitVec.ofBool p.z ++ BitVec.ofBool p.c ++ BitVec.ofBool p.v ++ BitVec.ofBool p.q ++ 0#19 ++
    BitVec.ofBool p.i ++ BitVec.ofBool p.f ++ BitVec.ofBool p.t ++ p.m

/-- A word as a status register (10 R27, R34). -/
def Psr.ofWord (w : Word) : Psr where
  n := w.getLsbD 31
  z := w.getLsbD 30
  c := w.getLsbD 29
  v := w.getLsbD 28
  q := w.getLsbD 27
  i := w.getLsbD 7
  f := w.getLsbD 6
  t := w.getLsbD 5
  m := w.extractLsb' 0 5

/-- Changes the CPSR. -/
def State.mapCpsr (s : State) (f : Psr → Psr) : State := s.setCpsr (f s.cpsr)

/-! ## The pc -/

/-- The size of an instruction in the current state. -/
def State.size (s : State) : Word := if s.cpsr.t then 2 else 4

/-- The pc at the next instruction in sequence. -/
def State.advance (s : State) : State := s.setPc (s.pc + s.size)

/-- The instruction ends; execution goes on in sequence. -/
def next : M Unit := M.update State.advance

/-- A branch, recorded as a way of leaving the pc. -/
def State.jump (s : State) (target : Word) (f : Flow) : State := (s.setPc target).withFlow f

/-- Writes the pc as data processing without S does: bits 1:0 must be 0 (40 R434, U62). -/
def writePc (v : Word) : M Unit := do
  M.require (v.extractLsb' 0 2 == 0) .misalignedPc
  M.update (·.jump v (.indirect true))

/-- Writes the pc and the T bit from bit 0 (10 R24, 42 R534): an ARM target must be word aligned (U62). -/
def writePcInterworking (v : Word) : M Unit := do
  M.require (v.extractLsb' 0 2 != 2) .misalignedPc
  M.update fun s =>
    (s.mapCpsr ({ · with t := v.getLsbD 0 })).jump (v &&& 0xFFFFFFFE) (.indirect true)

/-- Writes a destination register of an instruction that may name R15. -/
def writeDest (r : Reg) (v : Word) : M Unit :=
  if r = 15 then writePc v else do
    setReg r v
    next

/-! ## Debug exceptions (61 R890 to R896) -/

/-- The base of the vector table (60 R826). -/
def State.vectorBase (s : State) : Word := if s.cp15.ctrl.highVectors then 0xFFFF0000 else 0

/-- Changes the debug unit. -/
def State.mapDebug (s : State) (f : Debug → Debug) : State := s.setDebug (f s.dbg)

/-- Changes CP15. -/
def State.mapCp15 (s : State) (f : Cp15 → Cp15) : State := s.setCp15 (f s.cp15)

/-- What every debug exception does to the debug unit: the trace buffer off, the method of entry, no pending
break (61 R892, R893, R899). -/
def State.debugEvent (s : State) (moe : BitVec 3) : State :=
  s.mapDebug fun d => { d with dcsr := { d.dcsr with e := false, moe := moe }, jtagBreak := false, tbFull := false }

/-- Sets FSR.D; the other fields are then unpredictable (61 R897, 11 R89). -/
def State.setFsrDebug (s : State) : State :=
  let (v, s') := s.draw 9
  s'.mapCp15 fun c => { c with fsr := ⟨v.getLsbD 8, true, v.extractLsb' 4 4, v.extractLsb' 0 4⟩ }

/-- The part every exception entry shares (60 R824): the mode, its R14 and SPSR, T and I, F where set, the pc. -/
def State.enterMode (s : State) (m : BitVec 5) (link : Word) (setF : Bool) (target : Word) : State :=
  let old := s.cpsr
  let s1 := s.setCpsr { old with m := m, t := false, i := true, f := old.f || setF }
  let s2 := s1.writeBank m 14 link
  let s3 := match spsrOf m with
    | some k => s2.setSpsr (s2.spsr.set k old)
    | none => s2
  (s3.setPc target).setRun { s3.run with flow := .exception, userTransfer := 0 }

/-- `DebugEntryHalt` (61 R893): Halt Mode, and the SOC debug break in either mode. -/
def State.debugEntryHalt (s : State) (moe : BitVec 3) (link : Word) : State :=
  let s1 := s.debugEvent moe
  if s1.dbg.dcsr.h then
    (s1.mapDebug ({ · with sds := true, fromSram := true })).enterMode modeDbg link true 0
  else
    ((s1.mapDebug ({ · with sds := true })).setFsrDebug).enterMode modeDbg link true s1.vectorBase

/-- `DebugEntryMonitor` (61 R892): as a prefetch abort or as a data abort. -/
def State.debugEntryMonitor (s : State) (moe : BitVec 3) (link : Word) (prefetch : Bool) : State :=
  ((s.debugEvent moe).setFsrDebug).enterMode modeAbt link false (s.vectorBase + (if prefetch then 0x0C else 0x10))

/-- A debug exception that is not the SOC debug break (61 R890). -/
def State.debugEntry (s : State) (moe : BitVec 3) (link : Word) (prefetch : Bool) : State :=
  if s.dbg.dcsr.h then s.debugEntryHalt moe link else s.debugEntryMonitor moe link prefetch

/-! ## Exceptions (60 R824 to R843) -/

/-- The exceptions with a vector, but Reset (60 R820). -/
inductive Exc where
  | undefined | swi | prefetchAbort | dataAbort | irq | fiq
deriving DecidableEq, Repr

/-- The target mode (60 R825). -/
def Exc.mode : Exc → BitVec 5
  | .undefined => modeUnd
  | .swi => modeSvc
  | .prefetchAbort => modeAbt
  | .dataAbort => modeAbt
  | .irq => modeIrq
  | .fiq => modeFiq

/-- Bits 4:2 of the vector offset (60 R826, 61 R942). -/
def Exc.vector : Exc → BitVec 3
  | .undefined => 1
  | .swi => 2
  | .prefetchAbort => 3
  | .dataAbort => 4
  | .irq => 6
  | .fiq => 7

/-- The DCSR trap bit (61 R896). -/
def Exc.trapped (x : Exc) (d : Dcsr) : Bool :=
  match x with
  | .undefined => d.tu
  | .swi => d.ts
  | .prefetchAbort => d.ta
  | .dataAbort => d.td
  | .irq => d.ti
  | .fiq => d.tf

/-- The address of an exception's vector. -/
def State.vectorAddress (s : State) (x : Exc) : Word := s.vectorBase + (x.vector ++ 0#2).setWidth 32

/-- TAKING AN EXCEPTION (60 R824): the entry in full, then the vector trap of Halt Mode (61 R896). -/
def State.takeException (s : State) (x : Exc) (link : Word) : State :=
  let s1 := if x = .dataAbort then s else s.traceException x.vector s.trace.count
  let s2 := s1.enterMode x.mode link (x == .fiq) (s.vectorAddress x)
  if s.dbg.dcsr.h && s.dbg.dcsr.ge && !s.dbg.sds && x.trapped s.dbg.dcsr then
    s2.debugEntryHalt 0b101 (s.vectorAddress x + 4)
  else s2

/-- FSR after an abort (60 R832, R841; 92 D13): a domain that is not valid is any value. -/
def State.setFaultStatus (s : State) (status : BitVec 5) (domain : Option (BitVec 4)) : State :=
  match domain with
  | some d => s.mapCp15 fun c => { c with fsr := ⟨status.getLsbD 4, false, d, status.extractLsb' 0 4⟩ }
  | none =>
    let (v, s') := s.draw 4
    s'.mapCp15 fun c => { c with fsr := ⟨status.getLsbD 4, false, v, status.extractLsb' 0 4⟩ }

/-- FAR after a data abort: an address that is not valid is any value (60 R841). -/
def State.setFaultAddress (s : State) (far : Option Word) : State :=
  match far with
  | some a => s.mapCp15 ({ · with far := a })
  | none =>
    let (v, s') := s.draw 32
    s'.mapCp15 ({ · with far := v })

/-- A prefetch abort of the instruction at `pc` (60 R832). -/
def State.prefetchAbort (s : State) (status : BitVec 5) : State :=
  (s.setFaultStatus status none).takeException .prefetchAbort (s.pc + 4)

/-- The data breakpoint that an earlier access of the instruction matched is lost (61 R907). -/
def State.loseBreak (s : State) : State := s.setRun { s.run with dataBreak := false }

/-- A precise data abort of the instruction at `pc` (60 R841); in Special Debug State only FSR, FAR and DCSR.SA
change and execution goes on with the next instruction (61 R894, log 45). -/
def State.dataAbort (s0 : State) (a : DataAbort) : State :=
  let s := s0.loseBreak
  let s1 := (s.setFaultStatus a.status a.domain).setFaultAddress a.far
  if s.dbg.sds then (s1.mapDebug fun d => { d with dcsr := { d.dcsr with sa := true } }).advance
  else (s1.traceDataAbort).takeException .dataAbort (s.pc + 8)

/-- An imprecise data abort at an instruction boundary, `pc` the next instruction (60 R843). -/
def State.impreciseAbort (s : State) (status : BitVec 5) : State :=
  let s1 := ((s.setExt { s.ext with pendingAbort := none }).setFaultStatus status none).setFaultAddress none
  (s1.traceException 0b100 s1.trace.count).takeException .dataAbort (s.pc + 4)

/-- Undefined Instruction at `pc` (60 R825, R831). -/
def State.undefinedInstruction (s : State) : State := s.takeException .undefined (s.pc + s.size)

/-- SWI at `pc` (60 R825, R833). -/
def State.softwareInterrupt (s : State) : State := s.takeException .swi (s.pc + s.size)

/-- The SPSR of the current mode as an instruction reads it: User and System mode have none (U13), and like every banked
register it may not be read right after a transfer of User registers (U63, log 37). -/
def readSpsr : M Psr := fun s =>
  match spsrOf s.cpsr.m with
  | none => .error (.refuse .noSpsr) s
  | some k => if s.afterUserTransfer then .error (.refuse .bankedAfterUserTransfer) s else .ok s.spsr[k] s

/-- RETURNING FROM AN EXCEPTION (60 R827): CPSR from the SPSR of the current mode, Special Debug State left
(61 R894). No SPSR, or a mode that is none, refuses. -/
def restoreCpsr : M Unit := do
  let p ← readSpsr
  M.require (legalMode p.m) .illegalMode
  M.update fun s => (s.setCpsr p).mapDebug ({ · with sds := false, fromSram := false })

/-- The pc of a CPSR restore by data processing: the low bits must be 0 for the restored state (40 R434). -/
def returnTo (v : Word) : M Unit := do
  restoreCpsr
  let s ← M.state
  M.require (if s.cpsr.t then !v.getLsbD 0 else v.extractLsb' 0 2 == 0) .misalignedPc
  M.update (·.jump v (.indirect true))

/-! ## Running a meaning -/

/-- The outcome of a step on this machine. -/
abbrev Outcome := Host.Outcome State Fault Refusal

/-- The outcome of an instruction's body: an abort or Undefined Instruction is taken, a refusal stops; a reset asserted
inside the instruction ends it, and the next step finds the machine in reset. -/
def finish (m : M Unit) (s : State) : Outcome :=
  match m s with
  | .ok _ s' => .next s'
  | .error (.abort a) s' => .next (s'.dataAbort a)
  | .error .undefined s' => if s'.dbg.sds then .refused .sdsUndefined else .next s'.undefinedInstruction
  | .error (.refuse r) _ => .refused r
  | .error .reset s' => .next (s'.withFlow .exception)

/-- A conditional ARM instruction (00 R12): a failed condition only advances the pc. -/
def runIf (c : Cond) (m : M Unit) (s : State) : Outcome :=
  if s.cpsr.holds c then finish m s else .next s.advance

/-- A conditional ARM branch: a failed condition is recorded as a branch not taken. -/
def runBranch (c : Cond) (notTaken : Flow) (m : M Unit) (s : State) : Outcome :=
  if s.cpsr.holds c then finish m s else .next (s.advance.withFlow notTaken)

/-- A conditional instruction that writes the pc where `toPc` says: then a failed condition is a change of the pc not
made, which event 0x0E counts (12 R150). -/
def runToPc (toPc : Bool) (c : Cond) (m : M Unit) (s : State) : Outcome :=
  if toPc then runBranch c (.indirect false) m s else runIf c m s

/-- The operand restrictions of an instruction (93 U61). -/
def allowed (c : Bool) : M Unit := M.require c .operandRestriction

end Sys2Proof.Machine
end

