-- ==== Sys2Proof/Machine/Bus.lean ====
section
/-! DEFINITION. The system bus with its errors and their log (spec 12 R171 to R174, 20 R204), the L2 cache (22 R350
to R370) and the memory buffer (22 R345, R346). -/

namespace Sys2Proof.Machine

/-- Changes the external side. -/
def State.mapExt (s : State) (f : External → External) : State := s.setExt (f s.ext)

/-- Changes the caches. -/
def State.mapCaches (s : State) (f : Caches → Caches) : State := s.setCaches (f s.caches)

/-- FS of an imprecise external data abort (60 R840). -/
def fsExternal : BitVec 5 := 0b10110

/-- FS of a cache parity error (60 R832, R840). -/
def fsParity : BitVec 5 := 0b11000

/-- Makes an imprecise data abort pending. Of two, the one of higher priority is reported: an external abort stays, and
takes the place of a parity error (60 R843, 20 R203). -/
def State.pendAbort (s : State) (status : BitVec 5) : State :=
  s.mapExt fun e => { e with pendingAbort := some (if e.pendingAbort = some fsExternal then fsExternal else status) }

/-- Logs errors of ERRLOG bits 5:0 that occur together: the first ones set their bits, and for an address error the
address; later ones set only OV (12 R171, R172). -/
def State.logErrors (s : State) (bits : BitVec 8) (address : Option PAddr) : State :=
  let e := s.errlog
  if bits = 0 then s
  else if e.log.extractLsb' 0 6 != 0 then s.setErrlog { e with log := e.log ||| 0x40 }
  else match address with
    | some a => s.setErrlog ⟨e.log ||| bits, a.extractLsb' 0 32, a.extractLsb' 32 4⟩
    | none => s.setErrlog { e with log := e.log ||| bits }

/-- The ERRLOG bit of a bus error (12 R171). -/
def BusErrorKind.bit : BusErrorKind → BitVec 8
  | .dataAbort => 0x20
  | .explicitAddress => 0x10
  | .implicitAddress => 0x08

/-- The ERRLOG bits of the bus errors of one access. -/
def busBits (kinds : List BusErrorKind) : BitVec 8 := kinds.foldl (fun b k => b ||| k.bit) 0

/-- The byte lane of an access under CTRL.B (20 R195): a byte at `a xor 3`, a halfword at `a xor 2`. Applied to a lane it gives
the address back. -/
def State.lane (s : State) (pa : PAddr) (n : Nat) : PAddr :=
  if s.cp15.ctrl.bigEndian then (if n = 1 then pa ^^^ 3 else if n = 2 then pa ^^^ 2 else pa) else pa

/-- The address of a transaction on a line: that of its access; of a write merged from several stores, which the spec does not
state, any of the line (12 R173, log 24). -/
def transactionAddress (pline : BitVec 31) (origin : Option PAddr) : M PAddr :=
  match origin with
  | some a => pure a
  | none => do
    let k ← M.draw 5
    pure (pline ++ k)

/-- The bus answers one access: whether it erred, by the next answer of the oracle (92 D23, log 24), which is logged, of an
address error with the address of the transaction (12 R171 to R173). -/
def busAnswer (pline : BitVec 31) (origin : Option PAddr) : M Bool := do
  let s ← M.state
  match s.ext.busErrors with
  | [] => pure false
  | kinds :: t => do
    M.update (·.mapExt ({ · with busErrors := t }))
    if kinds.any (· != .dataAbort) then do
      let a ← transactionAddress pline origin
      M.update (·.logErrors (busBits kinds) (some a))
    else M.update (·.logErrors (busBits kinds) none)
    pure (!kinds.isEmpty)

/-- A bus read of `n` bytes and whether it erred; the data of an error is any value. -/
def busRead (pa : PAddr) (n : Nat) : M (BitVec (8 * n) × Bool) := do
  let s ← M.state
  if ← busAnswer (lineOf pa) (some (s.lane pa n)) then do
    let v ← M.draw (8 * n)
    pure (v, true)
  else pure (s.mem.readBytes pa n, false)

/-- A bus write of the masked bytes, as it reaches memory; an error is an imprecise abort, and whether the bytes changed is
free. -/
def busPut (origin : Option PAddr) (pa : PAddr) (n : Nat) (v : BitVec (8 * n)) (mask : BitVec n) : M Unit := do
  if ← busAnswer (lineOf pa) origin then do
    M.update (·.pendAbort fsExternal)
    let k ← M.draw 1
    if k = 1 then M.update fun s => s.setMem (s.mem.writeBytes pa n v mask) else pure ()
  else M.update fun s => s.setMem (s.mem.writeBytes pa n v mask)

/-- Each bit of a byte mask as a byte. -/
def byteMask : (n : Nat) → BitVec n → BitVec (8 * n)
  | 0, _ => 0#0
  | n + 1, m => (byteMask n (m.extractLsb' 1 n) ++ (if m.getLsbD 0 then 0xFF#8 else 0#8) : BitVec (8 * n + 8))

/-- The bytes of `new` where the mask is set, those of `old` elsewhere. -/
def mergeLine (old new : BitVec 256) (mask : BitVec 32) : BitVec 256 :=
  let bm : BitVec 256 := byteMask 32 mask
  (old &&& ~~~bm) ||| (new &&& bm)

/-- The whole-line mask. -/
def fullMask : BitVec 32 := BitVec.allOnes 32

/-- The contents of a line as read now: a byte that is not known is any value (U58). -/
def settle (data : BitVec 256) (known : BitVec 32) : M (BitVec 256) :=
  if known = fullMask then pure data else do
    let v ← M.draw 256
    pure (mergeLine v data known)

/-! ## L2 -/

/-- The product has an L2. -/
def State.l2Present (s : State) : Bool := s.cfg.l2 != .absent

/-- The L2 caches: present, enabled, and the MMU on (22 R353, 21 R284). -/
def State.l2On (s : State) : Bool := s.l2Present && s.cp15.ctrl.l2 && s.cp15.ctrl.mmu

/-- The set of a physical line (22 R350). -/
def State.l2Set (s : State) (pline : BitVec 31) : Nat :=
  match s.cfg.l2 with
  | .kb512 => (pline.extractLsb' 0 11).toNat
  | _ => (pline.extractLsb' 0 10).toNat

/-- The first of some ways whose line satisfies a test. -/
def findWay {α : Type} (lines : List (Nat × α)) (base : Nat) (p : α → Bool) : List Nat → Option (Nat × α)
  | [] => none
  | w :: t =>
    match lookupKey (base + w) lines with
    | some l => if p l then some (w, l) else findWay lines base p t
    | none => findWay lines base p t

/-- The first of some ways that is empty. -/
def firstEmpty {α : Type} (lines : List (Nat × α)) (base : Nat) : List Nat → Option Nat
  | [] => none
  | w :: t => if (lookupKey (base + w) lines).isNone then some w else firstEmpty lines base t

/-- The ways of an L2 set. -/
def l2Ways : List Nat := [0, 1, 2, 3, 4, 5, 6, 7]

/-- The L2 line of a physical line, with its way (22 R352). -/
def State.l2Find (s : State) (pline : BitVec 31) : Option (Nat × L2Line) :=
  findWay s.caches.l2.lines (8 * s.l2Set pline) (·.pline == pline) l2Ways

/-- Changes the L2. -/
def State.mapL2 (s : State) (f : L2 → L2) : State := s.mapCaches fun c => { c with l2 := f c.l2 }

/-- Marks a way used; when that would make every way used, only this one stays so (22 R358). -/
def State.l2Touch (s : State) (set way : Nat) : State :=
  s.mapL2 fun l =>
    let u := (lookupKey set l.used).getD 0
    let bit : BitVec 8 := BitVec.ofNat 8 (2 ^ way)
    let u' := if u ||| bit = 0xFF then bit else u ||| bit
    { l with used := insertKey set u' l.used }

/-- The way to replace (22 R358): the first invalid one, else the first not used and not locked. Where every way that is
not locked is used, the first that is not locked: DESIGN CHOICE (log 33), the rule names none. -/
def State.l2Victim (s : State) (set : Nat) : Nat :=
  let l := s.caches.l2
  let u := (lookupKey set l.used).getD 0
  match firstEmpty l.lines (8 * set) l2Ways with
  | some w => w
  | none =>
    match findWay l.lines (8 * set) (fun x => !x.locked) (l2Ways.filter fun w => !u.getLsbD w) with
    | some (w, _) => w
    | none =>
      match findWay l.lines (8 * set) (fun x => !x.locked) l2Ways with
      | some (w, _) => w
      | none => 0

/-- Puts a line in a way. -/
def State.l2Put (s : State) (set way : Nat) (x : L2Line) : State :=
  s.mapL2 fun l => { l with lines := insertKey (8 * set + way) x l.lines }

/-- Removes the line of a way; the way is then unlocked (22 R365). That its Used bit stays as it was is a DESIGN CHOICE (22 R358,
log 33). -/
def State.l2Drop (s : State) (set way : Nat) : State :=
  s.mapL2 fun l => { l with lines := eraseKey (8 * set + way) l.lines }

/-- A line whose data memory does not have (22 R355). -/
def L2Line.dirty (x : L2Line) : Bool := x.state == .modified || x.state == .owned

/-- Changes the lines on their way to memory. -/
def State.setLeaving (s : State) (x : List (BitVec 31 × BitVec 256)) : State := s.mapL2 ({ · with leaving := x })

/-- The lines that a clean by set and way has read out reach memory (45 R684). -/
def settleLeaving : M Unit := do
  let s ← M.state
  if s.caches.l2.leaving.isEmpty then pure ()
  else do
    M.update (·.setLeaving [])
    let _ ← M.each (fun x => busPut (some (lineAddr x.1)) (lineAddr x.1) 32 x.2 fullMask) s.caches.l2.leaving
    pure ()

/-- The oldest of them does. -/
def settleOldest : M Unit := do
  let s ← M.state
  match s.caches.l2.leaving with
  | [] => pure ()
  | x :: t => do
    M.update (·.setLeaving t)
    busPut (some (lineAddr x.1)) (lineAddr x.1) 32 x.2 fullMask

/-- Writes of one line reach memory in order: what has left the L2 for it goes first (log 34). -/
def settleFor (pline : BitVec 31) : M Unit := do
  let s ← M.state
  if s.caches.l2.leaving.any (·.1 == pline) then settleLeaving else pure ()

/-- A bus write of the masked bytes of a line. -/
def busWrite (origin : Option PAddr) (pa : PAddr) (n : Nat) (v : BitVec (8 * n)) (mask : BitVec n) : M Unit := do
  settleFor (lineOf pa)
  busPut origin pa n v mask

/-- The ERRLOG bit of an error that is not corrected (12 R171). -/
def L2Error.bit : L2Error → BitVec 8
  | .singleBit => 0
  | .doubleBit => 0x04
  | .state => 0x02
  | .tag => 0x01

/-- A single-bit error of a line is corrected and logged in SBE (22 R368). -/
def l2Correct (set way : Nat) (x : L2Line) : M L2Line :=
  if x.errors.contains .singleBit then do
    let y := { x with errors := x.errors.filter (· != .singleBit) }
    M.update fun s => (s.setErrlog { s.errlog with log := s.errlog.log ||| 0x80 }).l2Put set way y
    pure y
  else pure x

/-- The error checks of an access to a line (22 R368): those of the tag and the state, and where `data` says so those of
the data. It answers the line with a single-bit error corrected, and whether an error is left to report; all that are
found are logged together (12 R172). -/
def l2Check (set way : Nat) (x : L2Line) (data : Bool) : M (L2Line × Bool) := do
  let y ← if data then l2Correct set way x else pure x
  let bits := y.errors.foldl (fun b e => if e == .doubleBit && !data then b else b ||| e.bit) (0 : BitVec 8)
  M.update (·.logErrors bits none)
  pure (y, bits != 0)

/-- A tag of the set is in error. -/
def State.l2BadTags (s : State) (set : Nat) : Bool := l2Ways.any fun w =>
  match lookupKey (8 * set + w) s.caches.l2.lines with
  | some x => x.errors.contains .tag
  | none => false

/-- On a miss the tags of all eight ways are checked (22 R368). -/
def l2CheckTags (set : Nat) : M Bool := do
  let s ← M.state
  let bad := s.l2BadTags set
  M.update (·.logErrors (if bad then 0x01 else 0) none)
  pure bad

/-- The data of a line read out of the L2 for memory. One with an error is an imprecise abort; what is read out is then any
value, or nothing (log 33). -/
def l2ReadOut (set way : Nat) (x : L2Line) : M (Option (BitVec 256)) := do
  let (y, bad) ← l2Check set way x true
  if bad then do
    M.update (·.pendAbort fsExternal)
    let k ← M.draw 1
    let v ← M.draw 256
    pure (if k = 1 then some v else none)
  else do
    let v ← settle y.data y.known
    pure (some v)

/-- Writes a line's data to memory. -/
def l2WriteBack (set way : Nat) (x : L2Line) : M Unit := do
  match ← l2ReadOut set way x with
  | some v => busWrite (some (lineAddr x.pline)) (lineAddr x.pline) 32 v fullMask
  | none => pure ()

/-- A cache function finds its line in the L2, whose tag and state are checked, or misses, where the tags of the set are (22
R368); an error is logged and is an imprecise abort (45 R709, log 33). It answers whether there is one. -/
def l2Seen (set : Nat) (line : Option (Nat × L2Line)) : M Bool := do
  let bad ← match line with
    | some (way, x) => do
      let (_, bad) ← l2Check set way x false
      pure bad
    | none => l2CheckTags set
  if bad then M.update (·.pendAbort fsExternal) else pure ()
  pure bad

/-- Allocates a line in its set, writing a dirty victim back (22 R355, R356). -/
def l2Allocate (x : L2Line) : M Unit := do
  let s ← M.state
  let set := s.l2Set x.pline
  let way := s.l2Victim set
  match lookupKey (8 * set + way) s.caches.l2.lines with
  | some old => if old.dirty then l2WriteBack set way old else pure ()
  | none => pure ()
  M.update fun s => (s.l2Put set way x).l2Touch set way

/-- A write or a swap hits only in M or E: for a line in O or S a bus transaction claims it, a miss for the performance
monitor (22 R352). It answers the line as then held, and whether the transaction erred, which leaves the line claimed all
the same; DESIGN CHOICE (log 33). -/
def l2Claim (x : L2Line) : M (L2Line × Bool) :=
  if x.state == .owned || x.state == .shared then do
    M.update (·.note 0x23)
    let err ← busAnswer x.pline (some (lineAddr x.pline))
    pure ({ x with state := if x.dirty then .modified else .exclusive }, err)
  else pure (x, false)

/-- The fill state of a shared line is any of M, O, E, S, I (22 R358, log 33); `none` is I: such a line displaces no victim and
sets no Used bit, DESIGN CHOICE (22 R354, log 33). -/
def fillState (shared : Bool) : M (Option Moesi) :=
  if shared then do
    let k ← M.draw 3
    pure (if k = 0 then none else if k = 1 then some .modified else if k = 2 then some .owned
      else if k = 3 then some .shared else some .exclusive)
  else pure (some .exclusive)

/-- Some MVA lines with those of one more access (log 20). -/
def joinMvas (old new : List (BitVec 27)) : List (BitVec 27) := old ++ new.filter fun l => !old.contains l

/-- An L2 read of a line (22 R352, R355), by the MVA lines `mvas`, none for a table walk: its data, the known bytes, and whether
it erred. A swap needs M or E. The line that a swap brings in is Exclusive, also in shared memory, where 22 R358 leaves the state
to the situation: DESIGN CHOICE (log 33). -/
def l2Read (pline : BitVec 31) (shared swap : Bool) (mvas : List (BitVec 27)) : M (BitVec 256 × BitVec 32 × Bool) := do
  M.update (·.note 0x20)
  let s ← M.state
  let set := s.l2Set pline
  match s.l2Find pline with
  | some (way, x) =>
    let (y, bad) ← l2Check set way x true
    let (z, err) ← if swap then l2Claim y else pure (y, false)
    M.update fun s => (s.l2Put set way { z with mvas := joinMvas z.mvas mvas }).l2Touch set way
    if bad || err then do
      let v ← M.draw 256
      pure (v, x.known, true)
    else pure (x.data, x.known, false)
  | none =>
    M.update (·.note 0x23)
    let bad ← l2CheckTags set
    if bad then do
      let v ← M.draw 256
      pure (v, fullMask, true)
    else do
      let (v, err) ← busRead (lineAddr pline) 32
      if err then pure (v, fullMask, true)
      else do
        match ← fillState (shared && !swap) with
        | some st => l2Allocate ⟨pline, st, false, v, fullMask, [], mvas⟩
        | none => pure ()
        pure (v, fullMask, false)

/-- The errors a line keeps when bytes of it are written: the tag's, and a double-bit one unless every byte is written. That a
write makes the state bits anew and so clears an error of them is a DESIGN CHOICE (22 R368, log 33). -/
def L2Line.errorsAfter (x : L2Line) (mask : BitVec 32) : List L2Error :=
  x.errors.filter fun e => e == .tag || (e == .doubleBit && mask != fullMask)

/-- An L2 write (22 R352, R356) by the MVA lines `mvas`: write-back, write-allocate; a whole line is allocated without a fill. An
error that is not corrected is logged and is an imprecise abort; that the bytes are written on a hit with one, and the line
allocated on a miss with a tag error, is a DESIGN CHOICE (22 R368, log 33). So is that a line whose fill errs is allocated with
any bytes around those written (log 33). -/
def l2Write (pline : BitVec 31) (data : BitVec 256) (mask : BitVec 32) (mvas : List (BitVec 27)) : M Unit := do
  M.update (·.note 0x20)
  let s ← M.state
  let set := s.l2Set pline
  match s.l2Find pline with
  | some (way, x) =>
    let (y, bad) ← l2Check set way x (mask != fullMask)
    let (z, err) ← l2Claim y
    if bad || err then M.update (·.pendAbort fsExternal) else pure ()
    M.update fun s => (s.l2Put set way { z with
      state := .modified
      data := mergeLine z.data data mask
      known := z.known ||| mask
      errors := z.errorsAfter mask
      mvas := joinMvas z.mvas mvas }).l2Touch set way
  | none =>
    M.update (·.note 0x23)
    let bad ← l2CheckTags set
    let (v, err) ← if mask = fullMask then pure (0, false) else busRead (lineAddr pline) 32
    if bad || err then M.update (·.pendAbort fsExternal) else pure ()
    l2Allocate ⟨pline, .modified, false, mergeLine v data mask, fullMask, [], mvas⟩

/-! ## The memory buffer and the next level of memory -/

/-- Changes the memory buffer. -/
def State.mapBuf (s : State) (f : MemBuf → MemBuf) : State := s.mapCaches fun c => { c with buf := f c.buf }

/-- The L2 in use holds a physical line that one of these MVA lines has cached there (log 20). -/
def State.l2CachedBy (s : State) (pline : BitVec 31) (mvas : List (BitVec 27)) : Bool :=
  s.l2On && match s.l2Find pline with
    | some (_, x) => mvas.any x.mvas.contains
    | none => false

/-- An access past the L2, by some MVA lines. Where the L2 in use holds its line and one of these MVAs has cached it there, the
page's cacheability has changed with the line held: it refuses (20 R206, U24). Any other line is passed (22 R351): one that only
table walks or pushes have brought in, as where a store goes to an uncached table that walks cache (21 R261), or that another
MVA of the same memory has (20 R232, log 20). -/
def l2Bypass (pline : BitVec 31) (mvas : List (BitVec 27)) : M Unit := do
  let s ← M.state
  M.require (!s.l2CachedBy pline mvas) .cacheabilityChanged

/-- A store past the L2 asks so as well, behind the stores of its line that waited before it. -/
def BufEntry.mayPass (e : BufEntry) : M Unit := if e.outer then pure () else l2Bypass e.pline e.mvas

/-- A store leaves for the L2 or for memory (22 R351). -/
def writeNext (e : BufEntry) : M Unit := do
  let s ← M.state
  if s.l2On && e.outer then l2Write e.pline e.data e.mask e.mvas
  else busWrite e.origin (lineAddr e.pline) 32 e.data e.mask

/-- Drains the memory buffer in order, as a swap does (22 R346). -/
def drainAll : M Unit := do
  let s ← M.state
  if s.caches.buf.entries.isEmpty then pure ()
  else do
    M.update (·.mapBuf fun _ => ⟨[], 0⟩)
    let _ ← M.each writeNext s.caches.buf.entries
    pure ()

/-- DMB and DWB, which an access to strongly ordered memory and a swap of shared memory imply (20 R227, R228): what has left
the L2 reaches memory, and the memory buffer drains (22 R346, 45 R677, R678, R684). -/
def barrier : M Unit := do
  settleLeaving
  drainAll

/-- Drains the oldest store; the next one's time starts at zero (22 R346). -/
def drainOldest : M Unit := do
  let s ← M.state
  match s.caches.buf.entries with
  | [] => pure ()
  | e :: t =>
    M.update (·.mapBuf fun _ => ⟨t, 0⟩)
    writeNext e

/-- Before a line is read, or written past the buffer: its buffered stores go first (20 R222). -/
def drainFor (pline : BitVec 31) : M Unit := do
  let s ← M.state
  if s.caches.buf.entries.any (·.pline == pline) then drainAll else pure ()

/-- Merges a store into a waiting one (22 R345). -/
def coalesceInto (e : BufEntry) : List BufEntry → Option (List BufEntry)
  | [] => none
  | x :: t =>
    if x.pline = e.pline && x.outer == e.outer && x.shared == e.shared then
      some ({ x with
        data := mergeLine x.data e.data e.mask, mask := x.mask ||| e.mask, mvas := joinMvas x.mvas e.mvas
        origin := none } :: t)
    else (coalesceInto e t).map (x :: ·)

/-- A store to the next level (22 R345, R346): a coalescable one waits in the buffer, at most two of them. -/
def storeNext (coalesce : Bool) (e : BufEntry) : M Unit := do
  if coalesce then do
    let s ← M.state
    match coalesceInto e s.caches.buf.entries with
    | some l => do
      e.mayPass
      M.update (·.mapBuf fun b => { b with entries := l })
    | none =>
      drainFor e.pline
      e.mayPass
      M.update (·.mapBuf fun b => { b with entries := b.entries ++ [e] })
      let s ← M.state
      if 2 < s.caches.buf.entries.length then drainOldest else pure ()
  else do
    drainFor e.pline
    e.mayPass
    writeNext e

/-- A line read from the next level for an access by an MVA of `line`: data, known bytes, error (22 R341, R351). -/
def readNext (line : BitVec 27) (pline : BitVec 31) (outer shared swap : Bool) : M (BitVec 256 × BitVec 32 × Bool) := do
  let s ← M.state
  if s.l2On && outer then l2Read pline shared swap [line]
  else do
    l2Bypass pline [line]
    let (v, err) ← busRead (lineAddr pline) 32
    pure (v, fullMask, err)

/-! ## The newest contents of a line -/

/-- A line of main memory. -/
def State.memoryLine (s : State) (pline : BitVec 31) : BitVec 256 := s.mem.readBytes (lineAddr pline) 32

/-- The newest contents of a physical line, wherever it stands, and the bytes of it whose value is determined: a dirty line
of the L1 data cache, a dirty line of the L2, one that has left the L2, or memory; then the stores that wait. An instruction
fetch and a table walk may see older ones (93 U43, U50). -/
def State.newestLine (s : State) (pline : BitVec 31) : BitVec 256 × BitVec 32 :=
  let c := s.caches
  let held : BitVec 256 × BitVec 32 :=
    match c.d.lines.find? (fun x => x.2.pline == pline && x.2.dirty) with
    | some (_, x) => (x.data, x.known)
    | none =>
      match c.l2.lines.find? (fun x => x.2.pline == pline && x.2.dirty) with
      | some (_, x) => (x.data, x.known)
      | none =>
        match c.l2.leaving.reverse.find? (·.1 == pline) with
        | some (_, v) => (v, fullMask)
        | none => (s.memoryLine pline, fullMask)
  c.buf.entries.foldl (fun h e => if e.pline == pline then (mergeLine h.1 e.data e.mask, h.2 ||| e.mask) else h) held

end Sys2Proof.Machine
end

