-- ==== Sys2Proof/Machine/Mmu.lean ====
section
/-! DEFINITION. Address translation: table walks, TLBs, domain and permission checks, memory attributes (spec 21). -/

namespace Sys2Proof.Machine

/-- What an access does, for the permission check (21 R250, R275); a swap reads and writes (20 R200). -/
inductive AccessKind where
  | read | write | swap | fetch
deriving DecidableEq, Repr

/-- A fault of a translation (21 R276): FS[10,3:0] and the domain where it is valid. -/
structure MmuFault where
  status : BitVec 5
  domain : Option (BitVec 4)
deriving DecidableEq, Repr

/-- The memory types of 20 R221. -/
inductive MemType where
  | normal | deviceShared | deviceNonShared | stronglyOrdered
deriving DecidableEq, Repr

/-- The attributes of an access (21 R280), as its page gives them. -/
structure Attr where
  icache : Bool
  dcache : Bool
  writeBack : Bool
  outer : Bool
  coalesce : Bool
  shared : Bool
  llr : Bool
  type : MemType
deriving DecidableEq, Repr

/-! ## Descriptors -/

/-- The size of a page as a number of address bits (21 R259). -/
def PageKind.bits : PageKind → Nat
  | .sect => 20
  | .supersection => 24
  | .large => 16
  | .small => 12
  | .extSmall => 12
  | .tiny => 10

/-- Faults on the first level, on sections and on supersections have the Section codes (21 R276, R255). -/
def PageKind.isSection (k : PageKind) : Bool := k == .sect || k == .supersection

/-- The entry covers an address (21 R251). -/
def TlbEntry.covers (e : TlbEntry) (mva : Word) : Bool := mva >>> e.kind.bits == e.mva >>> e.kind.bits

/-- The physical address (21 R259). -/
def TlbEntry.pa (e : TlbEntry) (mva : Word) : PAddr :=
  let mask : Word := BitVec.ofNat 32 (2 ^ e.kind.bits - 1)
  e.base ||| (mva &&& mask).setWidth 36

/-- The AP field that governs an address: large and small pages have sub-pages (21 R260, 92 D26). -/
def TlbEntry.apAt (e : TlbEntry) (mva : Word) : BitVec 2 :=
  let index : BitVec 2 := match e.kind with
    | .large => mva.extractLsb' 14 2
    | .small => mva.extractLsb' 10 2
    | _ => 0
  e.ap.extractLsb' (2 * index.toNat) 2

/-- The address of the first-level descriptor (21 R252). -/
def Cp15.l1Address (c : Cp15) (mva : Word) : PAddr := 0#4 ++ c.ttBase ++ mva.extractLsb' 20 12 ++ 0#2

/-- A section or supersection entry (21 R253, R255). -/
def sectionEntry (desc mva : Word) : TlbEntry :=
  let sup := desc.getLsbD 18
  { locked := false
    kind := if sup then .supersection else .sect
    mva := mva
    base := if sup then desc.extractLsb' 20 4 ++ desc.extractLsb' 24 8 ++ 0#24 else 0#4 ++ desc.extractLsb' 20 12 ++ 0#20
    domain := if sup then 0 else desc.extractLsb' 5 4
    ap := 0#6 ++ desc.extractLsb' 10 2
    tex := desc.extractLsb' 12 3
    c := desc.getLsbD 3
    b := desc.getLsbD 2
    s := desc.getLsbD 16
    p := desc.getLsbD 9
    oc := 0
    ic := 0 }

/-- The address of the second-level descriptor (21 R256). -/
def l2Address (l1 mva : Word) : PAddr :=
  if l1.getLsbD 1 then 0#4 ++ l1.extractLsb' 12 20 ++ mva.extractLsb' 10 10 ++ 0#2
  else 0#4 ++ l1.extractLsb' 10 22 ++ mva.extractLsb' 12 8 ++ 0#2

/-- A second-level entry (21 R257, R258); `none` is the fault type. -/
def pageEntry (l1 desc mva : Word) : Option TlbEntry :=
  let e : TlbEntry := {
    locked := false, kind := .small, mva := mva, base := 0, domain := l1.extractLsb' 5 4
    ap := desc.extractLsb' 4 8, tex := 0, c := desc.getLsbD 3, b := desc.getLsbD 2, s := false, p := l1.getLsbD 9
    oc := 0, ic := 0 }
  match desc.getLsbD 1, desc.getLsbD 0 with
  | false, false => none
  | false, true => some { e with
      kind := .large, base := 0#4 ++ desc.extractLsb' 16 16 ++ 0#16, tex := desc.extractLsb' 12 3, s := desc.getLsbD 15 }
  | true, false => some { e with base := 0#4 ++ desc.extractLsb' 12 20 ++ 0#12 }
  | true, true =>
    let one : BitVec 8 := 0#6 ++ desc.extractLsb' 4 2
    if l1.getLsbD 1 then some { e with
      kind := .tiny, base := 0#4 ++ desc.extractLsb' 10 22 ++ 0#10, tex := desc.extractLsb' 6 3, ap := one }
    else some { e with
      kind := .extSmall, base := 0#4 ++ desc.extractLsb' 12 20 ++ 0#12, tex := desc.extractLsb' 6 3, ap := one
      s := desc.getLsbD 9 }

/-! ## Walks -/

/-- Walks go through the L2 (21 R261). -/
def State.walkInL2 (s : State) : Bool := s.l2On && s.cp15.ttOC == 3

/-- A word of a 32-byte line. -/
def lineWord (line : BitVec 256) (index : Nat) : Word := line.extractLsb' (32 * index) 32

/-- The word of a line that an address names. -/
def wordIndex (pa : PAddr) : Nat := (pa.extractLsb' 2 3).toNat

/-- A descriptor in the newest contents of memory. -/
def newestWord (pa : PAddr) : M (Option Word) := do
  let s ← M.state
  let (v, known) := s.newestLine (lineOf pa)
  let line ← settle v known
  pure (some (lineWord line (wordIndex pa)))

/-- A descriptor read as `w`: while a newer one waits anywhere, the walk sees the old or the new one, freely (20 R235,
U50). -/
def oldOrNewWord (pa : PAddr) (w : Word) : M (Option Word) := do
  let s ← M.state
  let (v, known) := s.newestLine (lineOf pa)
  if known = fullMask && lineWord v (wordIndex pa) == w then pure (some w)
  else do
    let k ← M.draw 1
    if k = 1 then newestWord pa else pure (some w)

/-- The access of a walk to a descriptor, through the L2 or past it; `none` is an external abort (21 R261 to R263). -/
def walkAccess (pa : PAddr) : M (Option Word) := do
  let s ← M.state
  if s.walkInL2 then do
    let (line, known, err) ← l2Read (lineOf pa) false false []
    let line ← settle line known
    pure (if err then none else some (lineWord line (wordIndex pa)))
  else do
    let (w, err) ← busRead pa 4
    pure (if err then none else some w)

/-- A walk's read of a descriptor; a P bit that the ASSP gives a meaning refuses (21 R261). -/
def walkRead (pa : PAddr) : M (Option Word) := do
  let s ← M.state
  M.require (s.cp15.ttOC != 1) .reservedAttribute
  M.require (!(s.cfg.pBitUsed && (s.cp15.ttP || s.cp15.auxP))) .asspDefined
  match ← walkAccess pa with
  | none => pure none
  | some w => oldOrNewWord pa w

/-- A descriptor as a walk would find it, without making the access. -/
def State.peekWord (s : State) (pa : PAddr) : Word :=
  match if s.walkInL2 then s.l2Find (lineOf pa) else none with
  | some (_, x) => lineWord x.data (wordIndex pa)
  | none => s.mem.readBytes pa 4

/-- The sixteen copies of a supersection descriptor agree, where `word` looks (21 R255). -/
def State.copiesIn (s : State) (word : PAddr → Word) (mva desc : Word) : Bool :=
  (List.range 16).all fun i =>
    word (s.cp15.l1Address ((mva &&& 0xFF0FFFFF) ||| BitVec.ofNat 32 (i * 2 ^ 20))) == desc

/-- The sixteen copies of a supersection descriptor agree, where walks read them or in the newest contents of memory (21
R255, U45). -/
def State.copiesAgree (s : State) (mva desc : Word) : Bool :=
  s.copiesIn s.peekWord mva desc ||
    s.copiesIn (fun pa => lineWord (s.newestLine (lineOf pa)).1 (wordIndex pa)) mva desc

/-- An entry with the LLR attributes that AUXCTRL gives now (11 R85). -/
def TlbEntry.withLlr (e : TlbEntry) (c : Cp15) : TlbEntry := { e with oc := c.auxOC, ic := c.auxIC }

/-- The table walk (21 R252 to R264), with a way of reading descriptors. -/
def tableWalkWith (read : PAddr → M (Option Word)) (mva : Word) : M (Except MmuFault TlbEntry) := do
  let s ← M.state
  match ← read (s.cp15.l1Address mva) with
  | none => pure (.error ⟨0b01100, none⟩)
  | some l1 =>
    match l1.getLsbD 1, l1.getLsbD 0 with
    | false, false => pure (.error ⟨0b00101, none⟩)
    | true, false => do
      M.require (!l1.getLsbD 18 || s.copiesAgree mva l1) .supersectionCopiesDiffer
      pure (.ok ((sectionEntry l1 mva).withLlr s.cp15))
    | _, true =>
      let dom := l1.extractLsb' 5 4
      match ← read (l2Address l1 mva) with
      | none => pure (.error ⟨0b01110, some dom⟩)
      | some l2 =>
        match pageEntry l1 l2 mva with
        | none => pure (.error ⟨0b00111, some dom⟩)
        | some e => pure (.ok (e.withLlr s.cp15))

/-- The table walk as the MMU makes it. -/
def tableWalk (mva : Word) : M (Except MmuFault TlbEntry) := tableWalkWith walkRead mva

/-! ## TLBs -/

/-- The entry of a TLB that covers an address. Where several do, which the manual does not describe, the lowest-numbered
one answers: DESIGN CHOICE (21 R251, log 50). -/
def Tlb.lookup (t : Tlb) (mva : Word) : Option TlbEntry :=
  t.entries.toList.findSome? fun o => o.bind fun e => if e.covers mva then some e else none

/-- The entry a walk found, at the round-robin pointer (21 R290). -/
def Tlb.insert (t : Tlb) (e : TlbEntry) : Tlb where
  entries := t.entries.set t.rr (some { e with locked := false })
  rr := if t.rr = 31 then t.lockptr else t.rr + 1
  lockptr := t.lockptr

/-- A locked entry, at the lock pointer (21 R291). -/
def Tlb.lock (t : Tlb) (e : TlbEntry) : Tlb :=
  if t.lockptr < 31 then ⟨t.entries.set t.lockptr (some { e with locked := true }), 31, t.lockptr + 1⟩
  else ⟨t.entries.set (31 : Fin 32) (some { e with locked := false }), 31, t.lockptr⟩

/-- Every entry that is not locked becomes invalid (21 R292). -/
def Tlb.invalidate (t : Tlb) : Tlb :=
  { t with entries := t.entries.map fun o => o.bind fun e => if e.locked then some e else none }

/-- The entry that covers an address becomes invalid (45 R692, R694): where several do, all of them, a DESIGN CHOICE (log 50). -/
def Tlb.invalidateAt (t : Tlb) (mva : Word) : Tlb :=
  { t with entries := t.entries.map fun o => o.bind fun e => if e.covers mva then none else some e }

/-- No entry locked, the lock pointer at 0 (45 R705). -/
def Tlb.unlock (t : Tlb) : Tlb :=
  { t with entries := t.entries.map fun o => o.map ({ · with locked := false }), lockptr := 0 }

/-- The side of the MMU an access uses (21 R251). -/
def State.tlbFor (s : State) (kind : AccessKind) : Tlb := if kind = .fetch then s.tlbs.i else s.tlbs.d

/-- Inserts a walked entry on the side of an access. -/
def State.tlbInsert (s : State) (kind : AccessKind) (e : TlbEntry) : State :=
  if kind = .fetch then s.setTlbs { s.tlbs with i := s.tlbs.i.insert e }
  else s.setTlbs { s.tlbs with d := s.tlbs.d.insert e }

/-- A TLB entry is what the translation table, TTBASE and AUXCTRL give its address now. -/
def State.entryCurrent (s : State) (e : TlbEntry) (mva : Word) : Bool :=
  match tableWalkWith newestWord mva s with
  | .ok (.ok e') s' => s'.run.free == s.run.free && { e' with locked := e.locked, mva := e.mva } == e
  | _ => false

/-- The translation by an entry that a TLB holds: while another one holds now, the old or the new one, freely (21 R292,
U50). -/
def heldEntry (e : TlbEntry) (mva : Word) : M (Except MmuFault TlbEntry) := do
  let s ← M.state
  if s.entryCurrent e mva then pure (.ok e)
  else do
    let k ← M.draw 1
    if k = 1 then tableWalkWith newestWord mva else pure (.ok e)

/-- The entry for an address: from the TLB, or walked and inserted (21 R250). -/
def findEntry (mva : Word) (kind : AccessKind) : M (Except MmuFault TlbEntry) := do
  let s ← M.state
  match (s.tlbFor kind).lookup mva with
  | some e => heldEntry e mva
  | none => do
    M.update (·.note (if kind = .fetch then 0x03 else 0x04))
    match ← tableWalk mva with
    | .error f => pure (.error f)
    | .ok e => do
      M.update (·.tlbInsert kind e)
      pure (.ok e)

/-! ## Checks -/

/-- The DACR field of a domain (21 R274). -/
def dacrField (dacr : Word) (domain : BitVec 4) : BitVec 2 := dacr.extractLsb' (2 * domain.toNat) 2

/-- Read and write permission (21 R275); `none` is the reserved setting. -/
def permission (ap : BitVec 2) (user s r : Bool) : Option (Bool × Bool) :=
  match ap.toNat with
  | 0 => if s && r then none else some (if user then r else s || r, false)
  | 1 => some (!user, !user)
  | 2 => some (true, !user)
  | _ => some (true, true)

/-- The permission an access needs. -/
def AccessKind.permits (k : AccessKind) (p : Bool × Bool) : Bool :=
  match k with
  | .read | .fetch => p.1
  | .write => p.2
  | .swap => p.1 && p.2

/-- Domain and permission checks on an entry (21 R274, R275); reserved DACR fields fault (U46). -/
def checkEntry (e : TlbEntry) (mva : Word) (kind : AccessKind) (user : Bool) : M (Except MmuFault Unit) := do
  let s ← M.state
  match (dacrField s.cp15.dacr e.domain).toNat with
  | 1 =>
    match permission (e.apAt mva) user s.cp15.ctrl.system s.cp15.ctrl.rom with
    | none => M.refuse .reservedPermission
    | some p =>
      if kind.permits p then pure (.ok ())
      else pure (.error ⟨if e.kind.isSection then 0b01101 else 0b01111, some e.domain⟩)
  | 3 => pure (.ok ())
  | _ => pure (.error ⟨if e.kind.isSection then 0b01001 else 0b01011, some e.domain⟩)

/-- Translation with its checks (21 R250). -/
def translate (mva : Word) (kind : AccessKind) (user : Bool) : M (Except MmuFault (PAddr × TlbEntry)) := do
  match ← findEntry mva kind with
  | .error f => pure (.error f)
  | .ok e =>
    match ← checkEntry e mva kind user with
    | .error f => pure (.error f)
    | .ok _ => pure (.ok (e.pa mva, e))

/-! ## Attributes -/

/-- Uncached attributes of a type. -/
def Attr.uncached (type : MemType) (coalesce outer shared : Bool) : Attr :=
  ⟨false, false, false, outer, coalesce, shared, false, type⟩

/-- The attributes of every data access with the MMU off (20 R194). -/
def Attr.stronglyOrdered : Attr := .uncached .stronglyOrdered false false true

/-- Cached normal memory: inner policy, outer cacheability, S (21 R280, R285). `outerOn` says that the L2 is there,
enabled, and the page L2 cacheable: with S the D-cache is then write-through, else it does not cache. -/
def Attr.cached (writeBack outer outerOn s llr : Bool) : Attr :=
  ⟨true, !s || outerOn, writeBack && !s, outer, true, s, llr, .normal⟩

/-- The attribute table (21 R280, R286, R287); `none` is a reserved encoding (R281). -/
def State.attr (s : State) (e : TlbEntry) : Option Attr :=
  let cached (wb outer llr : Bool) : Option Attr :=
    some (.cached wb outer (outer && s.l2Present && s.cp15.ctrl.l2) e.s llr)
  let plain (outer : Bool) : Option Attr := some (.uncached .normal true outer e.s)
  if e.tex.getLsbD 2 then
    let outer := e.tex.getLsbD 0
    match e.c, e.b with
    | false, false => plain outer
    | true, false => cached false outer false
    | _, true => cached true outer false
  else
    match e.tex.toNat, e.c, e.b with
    | 0, false, false => some .stronglyOrdered
    | 0, false, true => plain false
    | 0, true, false => cached false false false
    | 0, true, true => cached true true false
    | 1, false, false => plain false
    | 1, false, true => some (.uncached .deviceShared false false true)
    | 1, true, false =>
      if e.oc.getLsbD 1 then none
      else cached (e.ic != 2) (e.oc == 1) true
    | 1, true, true => cached true true false
    | 2, false, false => some (.uncached .deviceNonShared false false e.s)
    | _, _, _ => none

/-- A translation with S = 1 refuses on a product without coherence support (21 R282, U48). -/
def sharable (e : TlbEntry) : M Unit := do
  let s ← M.state
  M.require (!e.s || s.cfg.coherency) .sharedWithoutCoherence

/-- The attributes of an access; a reserved encoding, S on a product without coherence (U47, U48), or a P bit that the ASSP
gives a meaning (`P_PBIT_MEANING`) refuses. -/
def attributes (e : TlbEntry) : M Attr := do
  sharable e
  let s ← M.state
  M.require (!(s.cfg.pBitUsed && e.p)) .asspDefined
  match s.attr e with
  | some a => pure a
  | none => M.refuse .reservedAttribute

/-- The PID remap (20 R191). -/
def State.remap (s : State) (va : Word) : Word :=
  if va.extractLsb' 25 7 = 0 then s.cp15.pid ++ va.extractLsb' 0 25 else va

end Sys2Proof.Machine
end

