-- ==== Sys2Proof/Machine/Cache.lean ====
section
/-! DEFINITION. The L1 caches: replacement, the data cache (spec 22 R330 to R343), the instruction cache and the
fetch buffers (22 R311 to R318). -/

namespace Sys2Proof.Machine

/-- The set of a virtual line: MVA[12:5] (22 R311, R330). -/
def l1Set (line : BitVec 27) : Nat := (line.extractLsb' 0 8).toNat

/-- The line of an MVA. -/
def mvaLine (mva : Word) : BitVec 27 := mva.extractLsb' 5 27

/-- The ways of an L1 set in the order first fills take them (22 R314). -/
def l1Ways : List Nat := [0, 2, 1, 3]

/-- The replacement state of a set never used. -/
def Lru.fresh : Lru := ⟨false, false, false, []⟩

/-- The replacement state of a set. -/
def lruAt (l : List (Nat × Lru)) (set : Nat) : Lru := (lookupKey set l).getD Lru.fresh

/-- An access to a way (22 R314): the other pair, and the other way of its own pair, become the older. -/
def Lru.touch (l : Lru) (way : Nat) : Lru where
  pair := way < 2
  first := if way < 2 then way == 0 else l.first
  second := if way < 2 then l.second else way == 2
  recent := Fin.ofNat 4 way :: l.recent.filter (· != Fin.ofNat 4 way)

/-- The replacement state that points at a way, the next victim of either algorithm (22 R314, 45 R665): of the ways by last
use it alone is absent. -/
def Lru.point (l : Lru) (way : Nat) : Lru where
  pair := !(way < 2)
  first := if way < 2 then way != 0 else l.first
  second := if way < 2 then l.second else way != 2
  recent :=
    let kept := l.recent.filter (· != Fin.ofNat 4 way)
    kept ++ ((l1Ways.map (Fin.ofNat 4)).filter fun v => v != Fin.ofNat 4 way && !kept.contains v).reverse

/-- The pseudo-LRU victim (22 R314). -/
def Lru.victim (l : Lru) : Nat :=
  if l.pair then (if l.second then 3 else 2) else (if l.first then 1 else 0)

/-- The least recently used of some ways: one never used first, else the oldest (22 R314 true LRU, log 18). -/
def Lru.oldest (l : Lru) (ways : List Nat) : Nat :=
  match ways.find? (fun w => !l.recent.contains (Fin.ofNat 4 w)) with
  | some w => w
  | none => ((l.recent.reverse.find? (fun w => ways.contains w.val)).map (·.val)).getD 0

/-- The way a fill takes: way 0 for LLR; for a lock one of ways 1 to 3 that is not locked, else way 0; true LRU
where the set has a locked line, else pseudo-LRU (22 R314, R318, R332, R337). -/
def Lru.choose (l : Lru) (locked : Nat → Bool) (lock llr : Bool) : Nat :=
  if llr then 0
  else if lock then
    match [1, 2, 3].filter (fun w => !locked w) with
    | [] => 0
    | ways => l.oldest ways
  else if l1Ways.any locked then l.oldest (l1Ways.filter fun w => !locked w)
  else l.victim

/-! ## Data cache -/

/-- Changes the D-cache. -/
def State.mapD (s : State) (f : DCache → DCache) : State := s.mapCaches fun c => { c with d := f c.d }

/-- The D-cache line of an MVA, with its way. -/
def State.dFind (s : State) (line : BitVec 27) : Option (Nat × DLine) :=
  findWay s.caches.d.lines (4 * l1Set line) (·.line == line) l1Ways

/-- Puts a D-cache line in a way. -/
def State.dPut (s : State) (set way : Nat) (x : DLine) : State :=
  s.mapD fun d => { d with lines := insertKey (4 * set + way) x d.lines }

/-- Removes the D-cache line of a way. -/
def State.dDrop (s : State) (set way : Nat) : State :=
  s.mapD fun d => { d with lines := eraseKey (4 * set + way) d.lines }

/-- An access to a way of the D-cache. -/
def State.dTouch (s : State) (set way : Nat) : State :=
  s.mapD fun d => { d with lru := insertKey set ((lruAt d.lru set).touch way) d.lru }

/-- The D-cache serves an access (22 R331): cacheable and enabled; the MMU is on where the attributes say so. -/
def State.dCaches (s : State) (a : Attr) : Bool := a.dcache && s.cp15.ctrl.dcache

/-- The PMU notes without the L2 requests and misses that a body made (12 R150). -/
def State.withoutL2Notes (s' s : State) : State :=
  let made := s'.run.events.take (s'.run.events.length - s.run.events.length)
  s'.setRun { s'.run with events := made.filter (fun e => e != 0x20 && e != 0x23) ++ s.run.events }

/-- A body whose L2 requests belong to a cache operation, which events 0x20 and 0x23 leave out (12 R150). -/
def uncounted {α : Type} (m : M α) : M α := fun s =>
  match m s with
  | .ok a s' => .ok a (s'.withoutL2Notes s)
  | .error e s' => .error e (s'.withoutL2Notes s)

/-- Writes a dirty line to the next level (22 R341, 45 R662); `counted` says that its L2 request is no cache operation. A
line with a parity error is an imprecise abort, and its updates are lost (22 R343, log 51). -/
def dWriteBack (x : DLine) (counted : Bool) : M Unit :=
  if x.parity != 0 then M.update (·.pendAbort fsParity)
  else do
    M.update (·.note 0x0C)
    let v ← settle x.data x.known
    let e : BufEntry := ⟨x.pline, v, fullMask, x.outer, x.shared, [x.line], some (lineAddr x.pline)⟩
    if counted then storeNext false e
    else do
      drainFor x.pline
      e.mayPass
      uncounted (writeNext e)

/-- Allocates a line, evicting a dirty victim (22 R341, R336, R337); locking shared or LLR data leaves the lock bit
free (22 R338, U54). That any other fill in lock mode counts as made by the locking routine of the Software Design Guide, which
the spec does not have (91 N49), and so locks as R337 says, is a DESIGN CHOICE (R338, log 19). So is that the L2 request of the
victim's write-back counts for 0x20 and 0x23, also where Data Cache Line Allocate evicts it (12 R150, log 27). -/
def dAllocate (line : BitVec 27) (pline : BitVec 31) (a : Attr) (data : BitVec 256) (known : BitVec 32) : M Unit := do
  let s ← M.state
  let set := l1Set line
  let isLocked (w : Nat) : Bool := ((lookupKey (4 * set + w) s.caches.d.lines).map (·.locked)).getD false
  let lock := s.cp15.dcLock
  let way := (lruAt s.caches.d.lru set).choose isLocked lock a.llr
  match lookupKey (4 * set + way) s.caches.d.lines with
  | some old => if old.dirty then dWriteBack old true else pure ()
  | none => pure ()
  let locked ← if lock && (a.shared || a.llr) then do
      let k ← M.draw 1
      pure (k == 1)
    else pure (lock && way != 0)
  M.update fun s => (s.dPut set way ⟨line, pline, false, locked, a.outer, a.shared, data, known, 0⟩).dTouch set way

/-- The place of an access in its line. -/
def lineOffset (pa : PAddr) : Nat := (pa.extractLsb' 0 5).toNat

/-- `n` bytes of a line. -/
def lineBytes (line : BitVec 256) (off n : Nat) : BitVec (8 * n) := line.extractLsb' (8 * off) (8 * n)

/-- The mask of `n` bytes in a line. -/
def lineMask (off n : Nat) : BitVec 32 := BitVec.ofNat 32 ((2 ^ n - 1) * 2 ^ off)

/-- Bytes at their place in a line. -/
def lineData (off n : Nat) (v : BitVec (8 * n)) : BitVec 256 := v.setWidth 256 <<< (8 * off)

/-- A line of the D-cache hit by a read of the masked bytes (22 R331). A parity error in one of them is an imprecise abort,
and a byte with a parity error is any value (22 R343). -/
def dHit (set way : Nat) (x : DLine) (mask : BitVec 32) : M (BitVec 256) := do
  M.update (·.dTouch set way)
  if x.parity &&& mask = 0 then pure () else M.update (·.pendAbort fsParity)
  settle x.data (x.known &&& ~~~x.parity)

/-- A line read into the D-cache, or past it when it erred (22 R341, 60 R843); whether an error of a preload is
reported is free (42 R554). A byte outside `held` is not determined, whatever the next level has. -/
def dFill (line : BitVec 27) (pline : BitVec 31) (a : Attr) (swap report : Bool) (held : BitVec 32) : M (BitVec 256) := do
  drainFor pline
  let (v, known, err) ← readNext line pline a.outer a.shared swap
  if err then do
    let k ← if report then pure 1 else M.draw 1
    if k = 1 then M.update (·.pendAbort fsExternal) else pure ()
    pure v
  else do
    dAllocate line pline a v (known &&& held)
    settle v (known &&& held)

/-- A read of `n` bytes from the next level, past the D-cache (22 R355); an error is an imprecise abort. -/
def readPast (line : BitVec 27) (pa : PAddr) (a : Attr) (n : Nat) (swap : Bool) : M (BitVec (8 * n)) := do
  let s ← M.state
  if s.l2On && a.outer then do
    let (v, known, err) ← readNext line (lineOf pa) a.outer a.shared swap
    if err then M.update (·.pendAbort fsExternal) else pure ()
    let v ← settle v known
    pure (lineBytes v (lineOffset pa) n)
  else do
    l2Bypass (lineOf pa) [line]
    let (v, err) ← busRead pa n
    if err then M.update (·.pendAbort fsExternal) else pure ()
    pure v

/-- An access that the D-cache does not serve finds its line resident: with the cache enabled the page's cacheability has
changed (U24), with the cache disabled nothing of the line is determined any more (22 R333, U53). -/
def strayAccess (set way : Nat) (x : DLine) : M Unit := do
  let s ← M.state
  M.require (!s.cp15.ctrl.dcache) .cacheabilityChanged
  M.update (·.dPut set way { x with known := 0 })

/-- With the L2 in use, a line of the D-cache answers only an access whose page has the L2 cacheability that it had at the
fill: another one has changed with the line held (20 R206, U24, log 20). -/
def DLine.sameOuter (x : DLine) (a : Attr) : M Unit := do
  let s ← M.state
  M.require (!s.l2On || x.outer == a.outer) .cacheabilityChanged

/-- A read of `n` bytes (22 R331, R341, R355). A swap of coherent memory misses (22 R361): that a resident line is dropped
first, and filled again into whichever way replacement picks, is a DESIGN CHOICE (log 58); the bytes of an allocated line that
nobody has written stay any value (R361, U58). A read with the cache
disabled of a line it still holds is any value (22 R333, U53). An access to strongly ordered memory is a DMB first (20
R228). -/
def dRead (mva : Word) (pa : PAddr) (a : Attr) (n : Nat) (swap : Bool) : M (BitVec (8 * n)) := do
  let s ← M.state
  let line := mvaLine mva
  let set := l1Set line
  M.update (·.note 0x0A)
  if a.type = .stronglyOrdered then barrier else pure ()
  if s.dCaches a then
    match s.dFind line with
    | some (way, x) => do
      x.sameOuter a
      if swap && a.shared then do
        M.update fun s => (s.dDrop set way).note 0x0B
        let v ← dFill line (lineOf pa) a swap true x.known
        pure (lineBytes v (lineOffset pa) n)
      else do
        let v ← dHit set way x (lineMask (lineOffset pa) n)
        pure (lineBytes v (lineOffset pa) n)
    | none => do
      M.update (·.note 0x0B)
      let v ← dFill line (lineOf pa) a swap true fullMask
      pure (lineBytes v (lineOffset pa) n)
  else do
    M.update (·.note 0x0B)
    drainFor (lineOf pa)
    match s.dFind line with
    | some (way, x) => do
      strayAccess set way x
      let _ ← readPast line pa a n swap
      M.draw (8 * n)
    | none => readPast line pa a n swap

/-- A write of `n` bytes (22 R331, R334, R342): a hit updates the line, write-through and misses go to the next
level. A write with the cache disabled to a line it still holds leaves the line's bytes undetermined (U53). An access to
strongly ordered memory is a DMB first (20 R228). -/
def dWrite (mva : Word) (pa : PAddr) (a : Attr) (n : Nat) (v : BitVec (8 * n)) : M Unit := do
  let s ← M.state
  let line := mvaLine mva
  let set := l1Set line
  let mask := lineMask (lineOffset pa) n
  let data := lineData (lineOffset pa) n v
  let store : BufEntry := ⟨lineOf pa, data, mask, a.outer, a.shared, [line], some (s.lane pa n)⟩
  M.update (·.note 0x0A)
  if a.type = .stronglyOrdered then barrier else pure ()
  match s.dFind line with
  | some (way, x) =>
    if s.dCaches a then do
      x.sameOuter a
      M.update fun s => (s.dPut set way { x with
        data := mergeLine x.data data mask, known := x.known ||| mask, dirty := x.dirty || a.writeBack
        parity := x.parity &&& ~~~mask }).dTouch set way
      if a.writeBack then pure () else storeNext a.coalesce store
    else do
      M.update (·.note 0x0B)
      strayAccess set way x
      storeNext a.coalesce store
  | none => do
    M.update (·.note 0x0B)
    storeNext a.coalesce store

/-! ## Instruction cache -/

/-- Changes the instruction side. -/
def State.mapI (s : State) (f : ICache → ICache) : State := s.mapCaches fun c => { c with i := f c.i }

/-- The I-cache line of an MVA, with its way. -/
def State.iFind (s : State) (line : BitVec 27) : Option (Nat × ILine) :=
  findWay s.caches.i.lines (4 * l1Set line) (·.line == line) l1Ways

/-- Puts an I-cache line in a way and marks the way used. -/
def State.iPut (s : State) (set way : Nat) (x : ILine) : State :=
  s.mapI fun i => { i with
    lines := insertKey (4 * set + way) x i.lines
    lru := insertKey set ((lruAt i.lru set).touch way) i.lru }

/-- The way an I-cache fill takes. -/
def State.iVictim (s : State) (set : Nat) (lock : Bool) : Nat :=
  (lruAt s.caches.i.lru set).choose
    (fun w => ((lookupKey (4 * set + w) s.caches.i.lines).map (·.locked)).getD false) lock false

/-- The fetch buffers emptied (22 R316). -/
def State.emptyBuffers (s : State) : State := s.mapI ({ · with buffers := Vector.replicate 2 none })

/-- A line that a fetch buffer holds (22 R316). -/
def State.bufferFind (s : State) (line : BitVec 27) : Option (BitVec 256) :=
  match s.caches.i.buffers[0] with
  | some (l, v) => if l = line then some v else bufferSecond s line
  | none => bufferSecond s line
where
  /-- The second fetch buffer. -/
  bufferSecond (s : State) (line : BitVec 27) : Option (BitVec 256) :=
    match s.caches.i.buffers[1] with
    | some (l, v) => if l = line then some v else none
    | none => none

/-- Fills a fetch buffer, the two in turn (22 R316, log 22). -/
def State.bufferFill (s : State) (line : BitVec 27) (v : BitVec 256) : State :=
  s.mapI fun i => { i with
    buffers := i.buffers.set i.nextBuffer (some (line, v))
    nextBuffer := if i.nextBuffer = 0 then 1 else 0 }

/-- A miss that a fetch buffer only stages: the buffer next in turn is allocated, and invalid again when the line has moved
into the cache or the fetch has erred (22 R312 steps 1 and 6, R316). -/
def State.bufferPass (s : State) : State :=
  s.mapI fun i => { i with
    buffers := i.buffers.set i.nextBuffer none
    nextBuffer := if i.nextBuffer = 0 then 1 else 0 }

/-- A line as the instruction side holds or reads it (22 R312, R313, R316): a hit in the I-cache, enabled or not, or in a
fetch buffer, else read from the next level by way of a fetch buffer. That a buffer also serves a fetch with the I-cache
enabled, which then fills no line, is a DESIGN CHOICE (R316, log 22). So is that event 0x00 counts every read past them, also one
that the L2 serves, with the I-cache off, or of a page that is not cacheable (12 R150, log 27). A parity error or bus error answers its fault status. -/
def iLine (mva : Word) (pa : PAddr) (cacheable outer shared : Bool) : M (Except (BitVec 5) (BitVec 256)) := do
  let s ← M.state
  let line := mvaLine mva
  let set := l1Set line
  match s.iFind line with
  | some (way, x) => do
    M.update (·.iPut set way x)
    pure (if x.parity.getLsbD (wordIndex pa) then .error fsParity else .ok x.data)
  | none =>
    match s.bufferFind line with
    | some v => pure (.ok v)
    | none => do
      M.update (·.note 0x00)
      let (v, known, err) ← readNext line (lineOf pa) outer shared false
      if err then do
        M.update State.bufferPass
        pure (.error fsExternal)
      else do
        let v ← settle v known
        M.update fun s =>
          if cacheable && s.cp15.ctrl.icache then s.bufferPass.iPut set (s.iVictim set false) ⟨line, false, v, 0⟩
          else s.bufferFill line v
        pure (.ok v)

/-- A line for a fetch: while newer contents of it wait anywhere, the old or the new ones, freely at each fetch (20 R232,
U43). -/
def iRead (mva : Word) (pa : PAddr) (cacheable outer shared : Bool) : M (Except (BitVec 5) (BitVec 256)) := do
  match ← iLine mva pa cacheable outer shared with
  | .error e => pure (.error e)
  | .ok v => do
    let s ← M.state
    let (w, known) := s.newestLine (lineOf pa)
    if known = fullMask && w == v then pure (.ok v)
    else do
      let k ← M.draw 1
      if k = 1 then do
        let w ← settle w known
        pure (.ok w)
      else pure (.ok v)

end Sys2Proof.Machine
end

