-- ==== Sys2Proof/Machine/Access.lean ====
section
/-! DEFINITION. The data access pipeline (spec 20 R190 to R203), the swap and preload accesses, and instruction fetch
(20 R208, R209). -/

namespace Sys2Proof.Machine

/-- Where an access goes. -/
structure Located where
  mva : Word
  pa : PAddr
  attr : Attr
deriving DecidableEq, Repr

/-- The access is a User access (21 R275). -/
def State.userMode (s : State) : Bool := s.cpsr.m == modeUsr

/-! ## Data breakpoints (61 R904 to R906) -/

/-- The breakpoint enable covers the access. -/
def breakKind (e : BitVec 2) (store : Bool) : Bool := e == 2 || (e == 1 && store) || (e == 3 && !store)

/-- A byte from `a0` up, of `n`, matches an address under a mask. -/
def breakBytes (a0 : Word) (n : Nat) (address mask : Word) : Bool :=
  (List.range n).any fun i => (a0 + BitVec.ofNat 32 i) &&& ~~~mask == address &&& ~~~mask

/-- A data breakpoint matches an access of `n` bytes at an MVA (61 R904). -/
def State.dataBreakAt (s : State) (mva : Word) (n : Nat) (store : Bool) : Bool :=
  let c := s.cp15
  let a0 := mva &&& ~~~(BitVec.ofNat 32 (n - 1))
  s.dbg.dcsr.ge && !s.dbg.sds &&
    ((breakKind c.dbcon.e0 store && breakBytes a0 n c.dbr0 (if c.dbcon.mask then c.dbr1 else 0)) ||
      (!c.dbcon.mask && breakKind c.dbcon.e1 store && breakBytes a0 n c.dbr1 0))

/-- Notes a data breakpoint match: it is taken after the instruction; a swap counts as a
store (20 R202, 61 R905, R907). -/
def State.noteBreak (s : State) (mva : Word) (n : Nat) (store : Bool) : State :=
  if s.dataBreakAt mva n store then s.setRun { s.run with dataBreak := true } else s

/-! ## Locating an access -/

/-- The alignment abort (20 R192): the status bit `x` is free (U41). -/
def alignmentAbort {α : Type} (mva : Word) : M α := do
  let x ← M.draw 1
  M.stop (.abort ⟨0#3 ++ x ++ 1#1, none, some mva⟩)

/-- Alignment (20 R192, R193): `n` bytes need an address that is a multiple of `n`. With CTRL.A the access aborts;
without it a word is aligned down, and halfwords and doublewords abort as well, the effect that R193 offers for a row
it calls UNPREDICTABLE (U42, log 46). -/
def checkAlign (mva : Word) (n : Nat) : M Word := do
  if mva.toNat % n = 0 then pure mva
  else do
    let s ← M.state
    if s.cp15.ctrl.align || n != 4 then alignmentAbort mva
    else pure (mva &&& 0xFFFFFFFC)

/-- The fault of a translation as a data abort (60 R840). -/
def MmuFault.toAbort (f : MmuFault) (mva : Word) : DataAbort := ⟨f.status, f.domain, some mva⟩

/-- Translates a data access (20 R190, R194). -/
def locateMva (mva : Word) (kind : AccessKind) (user : Bool) : M Located := do
  let s ← M.state
  if s.cp15.ctrl.mmu then
    match ← translate mva kind user with
    | .error f => M.stop (.abort (f.toAbort mva))
    | .ok (pa, e) => do
      let a ← attributes e
      pure ⟨mva, pa, a⟩
  else pure ⟨mva, mva.setWidth 36, .stronglyOrdered⟩

/-- The steps of an access before it is made (20 R190): remap, alignment, translation, breakpoint. -/
def locate (va : Word) (n : Nat) (kind : AccessKind) (user : Bool) : M Located := do
  let s ← M.state
  let mva ← checkAlign (s.remap va) n
  let l ← locateMva mva kind user
  M.update (·.noteBreak mva n (kind != .read))
  pure l

/-- `MemRead` (20 R190), checked as User where `user` says (R198). -/
def memRead (va : Word) (n : Nat) (user : Bool) : M (BitVec (8 * n)) := do
  let l ← locate va n .read user
  let s ← M.state
  dRead l.mva (s.lane l.pa n) l.attr n false

/-- `MemWrite` (20 R190). -/
def memWrite (va : Word) (n : Nat) (v : BitVec (8 * n)) (user : Bool) : M Unit := do
  let l ← locate va n .write user
  let s ← M.state
  dWrite l.mva (s.lane l.pa n) l.attr n v

/-- A word as a load reads it with CTRL.A = 0: rotated by the low address bits (20 R193). -/
def rotateLoad (va : Word) (w : Word) : Word := w.rotateRight (8 * (va.extractLsb' 0 2).toNat)

/-- A word load (20 R193). -/
def loadWord (va : Word) (user : Bool) : M Word := do
  let w ← memRead va 4 user
  pure (rotateLoad va w)

/-- The mode's own privilege. -/
def asUser : M Bool := fun s => .ok s.userMode s

/-- A swap of `n` bytes (20 R200, R227): one location, both permissions, read then write; the write leaves the buffer
at once, and a shared location is a DMB after it. -/
def memSwap (va : Word) (n : Nat) (v : BitVec (8 * n)) : M (BitVec (8 * n)) := do
  let user ← asUser
  let l ← locate va n .swap user
  let s ← M.state
  let pa := s.lane l.pa n
  let old ← dRead l.mva pa l.attr n true
  dWrite l.mva pa l.attr n v
  if l.attr.shared then barrier else drainAll
  pure old

/-- PLD (20 R199): a walk and a fill of the L1D where the page is cacheable and the line not there; it reports nothing. Where
the translation succeeds it counts as an access, and as a miss unless its line is resident; with the MMU off it counts as
none: DESIGN CHOICE (12 R150, log 27). So is that a page which the L1D does not cache does nothing, also where the L2 caches
it (log 55). -/
def preload (va : Word) : M Unit := do
  let s ← M.state
  if s.cp15.ctrl.mmu then do
    let mva := s.remap va
    match ← translate mva .read s.userMode with
    | .error _ => pure ()
    | .ok (pa, e) => do
      let a ← attributes e
      M.update (·.note 0x0A)
      let s ← M.state
      if s.dCaches a && (s.dFind (mvaLine mva)).isSome then pure ()
      else do
        M.update (·.note 0x0B)
        if s.dCaches a then do
          let _ ← dFill (mvaLine mva) (lineOf pa) a false false fullMask
          pure ()
        else pure ()
  else pure ()

/-- Words from an address up, 4 apart, with bits 1:0 of the address ignored when CTRL.A = 0 (20 R193, R196); a
sequence past 0xFFFFFFFF refuses (U40). -/
def wordAddresses (va : Word) (n : Nat) : List Word := (List.range n).map fun i => va + BitVec.ofNat 32 (4 * i)

/-- The bytes of a sequence do not wrap (20 R211, U40). -/
def noWrap (va : Word) (bytes : Nat) : M Unit :=
  M.require (decide (bytes = 0 ∨ (va &&& 0xFFFFFFFC).toNat + bytes ≤ 2 ^ 32)) .accessWraps

/-! ## Fetch -/

/-- The bits of a fetched instruction. -/
inductive Fetched where
  | word (w : Word)
  | half (h : Half)
  | abort (status : BitVec 5)
deriving DecidableEq, Repr

/-- The bits of a fetched instruction as a word: a Thumb one in the low halfword, under ones. -/
def Fetched.bits : Fetched → Word
  | .word w => w
  | .half h => 0xFFFF#16 ++ h
  | .abort _ => 0

/-- The instruction in a fetched line (20 R195, R208): a Thumb halfword follows the byte-order rule. -/
def State.fetchedFrom (s : State) (line : BitVec 256) (a : Word) : Fetched :=
  let w := lineWord line (a.extractLsb' 2 3).toNat
  if s.cpsr.t then .half (if a.getLsbD 1 != s.cp15.ctrl.bigEndian then w.extractLsb' 16 16 else w.extractLsb' 0 16)
  else .word w

/-- A word of the Debug SRAM. -/
def State.sramWord (s : State) (offset : Word) : Word :=
  s.jtag.sram[(offset.extractLsb' 2 9).toNat]'(offset.extractLsb' 2 9).isLt

/-- A fetch from the Debug SRAM (20 R209, 61 R930), in Thumb state of the halfword that 61 R928 names; that a handler may be in
Thumb state there, which R930 leaves open, is a DESIGN CHOICE (log 59). -/
def fetchSram : M Fetched := do
  let s ← M.state
  M.require (decide (s.pc.toNat < 0x800)) .sramFetchBeyond
  let w := s.sramWord s.pc
  pure (if s.cpsr.t then .half (if s.pc.getLsbD 1 != s.cp15.ctrl.bigEndian then w.extractLsb' 16 16 else w.extractLsb' 0 16)
    else .word w)

/-- The page of a fetch: address, whether the I-cache takes it, L2 cacheability, S (20 R194, R208). -/
def fetchPage (mva : Word) : M (Except (BitVec 5) (PAddr × Bool × Bool × Bool)) := do
  let s ← M.state
  if s.cp15.ctrl.mmu then
    match ← translate mva .fetch s.userMode with
    | .error _ => pure (.error 0b10000)
    | .ok (pa, e) => do
      let a ← attributes e
      M.require (a.type != .deviceNonShared) .deviceFetch
      pure (.ok (pa, a.icache, a.outer, a.shared))
  else pure (.ok (mva.setWidth 36, true, false, false))

/-- `Fetch` at the pc (20 R208): a failed one answers the status of its prefetch abort. -/
def fetch : M Fetched := do
  let s ← M.state
  if s.dbg.fromSram then fetchSram
  else do
    let mva := s.remap s.pc
    match ← fetchPage mva with
    | .error fs => pure (.abort fs)
    | .ok (pa, cacheable, outer, shared) =>
      match ← iRead mva pa cacheable outer shared with
      | .error fs => pure (.abort fs)
      | .ok line => pure (s.fetchedFrom line mva)

end Sys2Proof.Machine
end

