-- ==== Sys2Proof/Machine/Env.lean ====
section
/-! DEFINITION. What the outside does at an instruction boundary and between the words of a multiple transfer (spec 70 R989,
92 D25): inputs, bus agents and snoops (22 R361 to R364), errors (20 R204, 22 R368), fetches ahead of the pc (20 R208), and
the debugger on JTAG (61 R920 to R935). -/

namespace Sys2Proof.Machine

/-! ## Bus agents -/

/-- The lines that some bytes from an address up touch. -/
def touchedLines (pa : PAddr) (n : Nat) : List (BitVec 31) :=
  if n = 0 then [] else (List.range ((lineOffset pa + n - 1) / 32 + 1)).map fun i => lineOf pa + BitVec.ofNat 31 i

/-- The core is held in reset (61 R921). -/
def State.heldInReset (s : State) : Bool := s.ext.resetPin || s.dbg.holdReset

/-- Reset is asserted (70 R961): what the caches and buffers hold is lost at once (70 R967); the rest is reset when reset
ends. -/
def State.enterReset (s : State) : State :=
  (s.mapExt ({ · with inReset := true, pendingAbort := none })).setCaches Caches.empty

/-- Hardware coherence works: the ASSP supports it, the MMU is on, the L2 present and enabled (22 R360, 20 R236), and the core
not in reset. -/
def State.snooped (s : State) : Bool := s.cfg.coherency && s.l2On && !s.ext.inReset

/-- A snoop invalidates the L1 data cache's lines of shared memory, while that cache is enabled (22 R344, R362). -/
def State.snoopD (s : State) (pline : BitVec 31) : State :=
  if !s.cp15.ctrl.dcache then s else s.mapD fun d => { d with lines := mapKeys (fun _ x => if x.pline = pline && x.shared then none else some x) d.lines }

/-- A line's data reaches memory outside any access of the core. -/
def reachMemory (pline : BitVec 31) (v : BitVec 256) : M Unit := do
  settleFor pline
  M.update fun s => s.setMem (s.mem.writeBytes (lineAddr pline) 32 v fullMask)

/-- The data of a snooped L2 line. -/
def snoopClean (x : L2Line) : M Unit := do
  let v ← settle x.data x.known
  reachMemory x.pline v

/-- A snoop of a line finds an error in the L2: in the tag or state of the resident line, in its data where the snoop reads them,
or on a miss in a tag of the set (22 R368). -/
def State.snoopErrs (s : State) (pline : BitVec 31) (reads : L2Line → Bool) : Bool :=
  match s.l2Find pline with
  | some (_, x) => x.errors.any fun e => e == .tag || e == .state || reads x
  | none => s.l2BadTags (s.l2Set pline)

/-- A snoop that finds an error has no defined behaviour (22 R362, 12 R172): it refuses. -/
def snoopSound (pline : BitVec 31) (reads : L2Line → Bool) : M Unit := do
  let s ← M.state
  M.require (!s.snoopErrs pline reads) .snoopError

/-- Another agent's write to a line: a resident L2 line is written back if dirty, invalid and unlocked (22 R362). -/
def snoopWrite (pline : BitVec 31) : M Unit := do
  let s ← M.state
  if s.snooped then do
    snoopSound pline L2Line.dirty
    M.update (·.snoopD pline)
    match s.l2Find pline with
    | some (way, x) => do
      if x.dirty then snoopClean x else pure ()
      M.update (·.l2Drop (s.l2Set pline) way)
    | none => pure ()
  else pure ()

/-- Another agent's read of a line: the L2 supplies it; whether dirty data also reaches memory is free, and a clean line is
shared afterwards: DESIGN CHOICE, the manual has no table of the transitions (log 33). -/
def snoopRead (pline : BitVec 31) : M Unit := do
  let s ← M.state
  if s.snooped then do
    snoopSound pline fun _ => true
    M.update (·.snoopD pline)
    match s.l2Find pline with
    | some (way, x) => do
      let k ← M.draw 1
      if x.dirty && k = 1 then do
        snoopClean x
        M.update (·.l2Put (s.l2Set pline) way { x with state := .shared })
      else M.update (·.l2Put (s.l2Set pline) way { x with state := if x.dirty then .owned else .shared })
    | none => pure ()
  else pure ()

/-- A push (22 R363): to this core it allocates a modified L2 line; a resident one takes the data, unlocked as by any write of
another agent (22 R362), and used as by an access (22 R358, DESIGN CHOICE, log 33). To another agent it is a write that
invalidates the line here without writing it back. -/
def pushLine (pline : BitVec 31) (data : BitVec 256) (toThisCore : Bool) : M Unit := do
  let s ← M.state
  let set := s.l2Set pline
  if s.snooped then do
    snoopSound pline fun _ => false
    M.update (·.snoopD pline)
  else pure ()
  if s.snooped && toThisCore then
    match s.l2Find pline with
    | some (way, x) =>
      M.update fun s => (s.l2Put set way
        { x with state := .modified, locked := false, data := data, known := fullMask, errors := [] }).l2Touch set way
    | none => l2Allocate ⟨pline, .modified, false, data, fullMask, [], []⟩
  else do
    match if s.snooped then s.l2Find pline else none with
    | some (way, _) => M.update (·.l2Drop set way)
    | none => pure ()
    reachMemory pline data

/-- A parity error in a word of an I-cache line (22 R315). -/
def State.markI (s : State) (line : BitVec 27) (word : BitVec 3) : State :=
  s.mapI fun i => { i with lines := mapKeys (fun _ x =>
    some (if x.line = line then { x with parity := x.parity ||| BitVec.ofNat 8 (2 ^ word.toNat) } else x)) i.lines }

/-- A parity error in a byte of a D-cache line (22 R343). -/
def State.markD (s : State) (line : BitVec 27) (byte : BitVec 5) : State :=
  s.mapD fun d => { d with lines := mapKeys (fun _ x =>
    some (if x.line = line then { x with parity := x.parity ||| BitVec.ofNat 32 (2 ^ byte.toNat) } else x)) d.lines }

/-- An error in an L2 line, beside those it has (22 R368). -/
def State.markL2 (s : State) (pline : BitVec 31) (e : L2Error) : State :=
  s.mapL2 fun l => { l with lines := mapKeys (fun _ x =>
    some (if x.pline = pline && !x.errors.contains e then { x with errors := e :: x.errors } else x)) l.lines }

/-- Instruction fetch runs ahead (20 R208): a fetch and its walk for an address that need never be executed fill the ITLB,
the I-cache and the fetch buffers; a fault of it is not reported. -/
def fetchAhead (va : Word) : M Unit := do
  let s ← M.state
  if s.ext.inReset || s.dbg.fromSram then pure ()
  else do
    let mva := s.remap va
    match ← fetchPage mva with
    | .error _ => pure ()
    | .ok (pa, cacheable, outer, shared) => do
      let _ ← iRead mva pa cacheable outer shared
      pure ()

/-! ## JTAG -/

/-- Changes the JTAG side. -/
def State.mapJtag (s : State) (f : Jtag → Jtag) : State := s.setJtag (f s.jtag)

/-- The opcodes of 61 R920. -/
def opDbgrx : BitVec 7 := 0b0000010
/-- LDSRAM. -/
def opLdsram : BitVec 7 := 0b0000111
/-- SELDCSR. -/
def opSeldcsr : BitVec 7 := 0b0001001
/-- DBGTX. -/
def opDbgtx : BitVec 7 := 0b0010000

/-- IDCODE (61 R935). -/
def Config.idcode (c : Config) : Word := c.jtagVersion ++ 0b11100110010#11 ++ c.jtagModel ++ 0x013#12

/-- Writes the words of a Debug SRAM line. -/
def Jtag.putLine (j : Jtag) (line : BitVec 6) (v : BitVec 256) : Jtag :=
  { j with sram := Vector.ofFn fun i : Fin 512 =>
      if i.val / 8 = line.toNat then v.extractLsb' (32 * (i.val % 8)) 32 else j.sram[i] }

/-- Writes a word of the Debug SRAM. -/
def Jtag.putWord (j : Jtag) (line : BitVec 6) (k : BitVec 3) (w : Word) : Jtag :=
  { j with sram := j.sram.set ((line ++ k : BitVec 9)).toNat w (line ++ k : BitVec 9).isLt }

/-- The Debug SRAM after a download that was cut off: any value (61 R927). The request and the Ready flag stand until
Download Complete. -/
def cutDownload : M Unit := do
  let s ← M.state
  if s.jtag.requested || s.jtag.loading.isSome then do
    let v ← M.draw 16384
    M.update (·.mapJtag fun j => { j with
      loading := none, spoiled := false
      sram := Vector.ofFn fun i : Fin 512 => v.extractLsb' (32 * i.val) 32 })
  else pure ()

/-- JTAG reset (61 R920, 12 R180, 70 R962): IDCODE, hold_reset, the TRST column; RX any value; a load in progress leaves its
line any value (61 R928), and a requested download all of the Debug SRAM (61 R927). -/
def jtagReset : M Unit := do
  let rx ← M.draw 32
  M.update (·.mapDebug fun d => { d with
    dcsr := { d.dcsr with h := false, tf := false, ti := false, td := false, ta := false, ts := false, tu := false, tr := false }
    rr := false, dl := false, holdReset := false, rx := rx })
  let s ← M.state
  match s.jtag.loading with
  | some (line, _) => do
    let v ← M.draw 256
    M.update (·.mapJtag fun j => { j.putLine line v with loading := none, spoiled := false })
  | none => pure ()
  if s.jtag.ir = .opcode opLdsram && s.jtag.requested then cutDownload else pure ()
  M.update (·.mapJtag ({ · with ir := .idcode, captured := false, stale := false }))

/-- Load of the JTAG instruction register; leaving LDSRAM during a download cuts it off (61 R927). An Update_DR has its whole
effect at once, so a load right after the last packet's, within the 20 TCKs that 61 R925 and R929 step 8 ask for, finds the line
loaded: DESIGN CHOICE, no TCKs are counted (log 44). -/
def loadIr (ir : JtagIr) : M Unit := do
  let s ← M.state
  if s.jtag.ir = .opcode opLdsram && ir != .opcode opLdsram then cutDownload else pure ()
  M.update (·.mapJtag ({ · with ir := ir, captured := false, stale := false }))

/-- The DCSR bits that are defined: B is the SOC break input (12 R154). -/
def State.dcsrWord (s : State) : Word :=
  let d := s.dbg.dcsr
  BitVec.ofBool d.ge ++ BitVec.ofBool d.h ++ BitVec.ofBool s.ext.socBreak ++ 0#5 ++ BitVec.ofBool d.tf ++
    BitVec.ofBool d.ti ++ 0#1 ++ BitVec.ofBool d.td ++ BitVec.ofBool d.ta ++ BitVec.ofBool d.ts ++ BitVec.ofBool d.tu ++
    BitVec.ofBool d.tr ++ 0#9 ++ BitVec.ofBool d.tt ++ BitVec.ofBool d.sa ++ d.moe ++ BitVec.ofBool d.m ++ BitVec.ofBool d.e

/-- Capture_DR (61 R921 to R925, R935); bits the manual does not place are any value. -/
def captureDr : M Unit := do
  let s ← M.state
  let any ← M.draw 36
  match s.jtag.ir with
  | .idcode => M.update (·.mapJtag ({ · with idSr := Config.idcode s.cfg, captured := false }))
  | .opcode op =>
    if op = opSeldcsr then do
      let dcsr ← anyBits s.dcsrWord 0x1F20FF80
      M.update (·.mapJtag ({ · with sr := any.extractLsb' 35 1 ++ dcsr ++ 0b01#2 ++ any.extractLsb' 0 1, captured := false }))
    else if op = opDbgtx then
      M.update (·.mapJtag ({ · with
        sr := any.extractLsb' 35 1 ++ (if s.dbg.txr then s.dbg.tx else any.extractLsb' 3 32) ++ any.extractLsb' 1 2 ++
          BitVec.ofBool s.dbg.txr
        captured := s.dbg.txr }))
    else if op = opDbgrx then
      M.update (·.mapJtag ({ · with sr := any.extractLsb' 1 35 ++ BitVec.ofBool s.dbg.rr, captured := false }))
    else if op = opLdsram then
      M.update (·.mapJtag fun j => { j with ldSr1 := any.extractLsb' 1 32 ++ BitVec.ofBool j.ready, captured := false })
    else M.update (·.mapJtag ({ · with captured := false }))

/-- One Shift_DR clock (61 R920): least significant bit first; the first after a DBGTX capture of TR = 1 clears TR
(61 R922). -/
def shiftDr (tdi : Bool) : M Unit := do
  let s ← M.state
  if s.jtag.captured then M.update (·.mapDebug ({ · with txr := false })) else pure ()
  let bit := BitVec.ofBool tdi
  match s.jtag.ir with
  | .idcode => M.update (·.mapJtag fun j => { j with tdo := j.idSr.getLsbD 0, idSr := bit ++ j.idSr.extractLsb' 1 31 })
  | .opcode op =>
    if op = opSeldcsr || op = opDbgtx || op = opDbgrx then
      M.update (·.mapJtag fun j => { j with tdo := j.sr.getLsbD 0, sr := bit ++ j.sr.extractLsb' 1 35 })
    else if op = opLdsram then
      M.update (·.mapJtag fun j => { j with tdo := j.ldSr1.getLsbD 0, ldSr1 := bit ++ j.ldSr1.extractLsb' 1 32 })
    else do
      let k ← M.draw 1
      M.update (·.mapJtag ({ · with tdo := k == 1 }))
  M.update (·.mapJtag ({ · with captured := false }))

/-- SELDCSR at Update_DR (61 R921): the JTAG-writable bits of DCSR, the debug break, hold_reset; setting hold_reset in a
running core refuses (U75). Whether H and TR change while the reset pin is asserted depends on the ASSP (61 R929 step 3,
log 47). Where the instruction register has not been loaded again since the reset pin was released it refuses (61 R929 step 6). -/
def updateDcsr (sr : BitVec 36) : M Unit := do
  let s ← M.state
  M.require (!s.jtag.stale) .seldcsrNotReloaded
  M.require (!sr.getLsbD 1 || s.heldInReset) .holdResetRunning
  let halts := s.cfg.jtagHaltInReset || !s.ext.resetPin
  M.update (·.mapDebug fun d => { d with
    dcsr := { d.dcsr with
      h := if halts then sr.getLsbD 33 else d.dcsr.h, tf := sr.getLsbD 26, ti := sr.getLsbD 25, td := sr.getLsbD 23, ta := sr.getLsbD 22
      ts := sr.getLsbD 21, tu := sr.getLsbD 20
      tr := if halts then sr.getLsbD 19 else d.dcsr.tr }
    jtagBreak := sr.getLsbD 2
    holdReset := sr.getLsbD 1 })

/-- DBGRX at Update_DR (61 R923). -/
def updateRx (sr : BitVec 36) : M Unit := do
  let valid := sr.getLsbD 35
  let flush := sr.getLsbD 1
  M.require (!(valid && flush)) .dbgrxBothSet
  M.update (·.mapDebug fun d =>
    let d1 := if valid then (if d.rr then { d with ov := true } else { d with rx := sr.extractLsb' 3 32, rr := true }) else d
    let d2 := if flush then { d1 with rr := false } else d1
    { d2 with dl := sr.getLsbD 2 })

/-- The parity of a word: the exclusive or of its bits (61 R928). -/
def parityOf (w : Word) : Bool := (List.range 32).foldl (fun p i => p != w.getLsbD i) false

/-- The core fetches from a Debug SRAM line (U79): in reset, or halted for a download, it does not. -/
def State.fetchesLine (s : State) (line : BitVec 6) : Bool :=
  s.dbg.fromSram && s.pc.extractLsb' 5 6 == line && !(s.ext.inReset || s.heldInReset || s.jtag.ready)

/-- A data packet of Load Debug SRAM (61 R928): after a wrong parity bit the line is any value (U78); so is a word of
the line the core fetches from (U79). -/
def loadPacket (line : BitVec 6) (k : BitVec 3) (packet : BitVec 33) : M Unit := do
  let s ← M.state
  let w : Word := packet.extractLsb' 0 32
  let bad := s.jtag.spoiled || parityOf w != packet.getLsbD 32
  if bad then do
    let v ← M.draw 256
    M.update (·.mapJtag (·.putLine line v))
  else if s.fetchesLine line then do
    let v ← M.draw 32
    M.update (·.mapJtag (·.putWord line k v))
  else M.update (·.mapJtag (·.putWord line k w))
  M.update (·.mapJtag ({ · with
    loading := if k = 7 then none else some (line, k + 1)
    spoiled := bad && k != 7 }))

/-- A first packet of LDSRAM (61 R926): reserved functions refuse (U77). -/
def loadFunction (packet : BitVec 33) : M Unit :=
  match (packet.extractLsb' 0 3).toNat with
  | 0 | 1 => pure ()
  | 3 => M.update (·.mapJtag ({ · with loading := some (packet.extractLsb' 6 6, 0), spoiled := false }))
  | 4 => M.update (·.mapJtag ({ · with requested := true }))
  | 5 => M.update (·.mapJtag ({ · with requested := false, ready := false }))
  | _ => M.refuse .ldsramReserved

/-- Update_DR (61 R921 to R928). -/
def updateDr : M Unit := do
  M.update (·.mapJtag ({ · with captured := false }))
  let s ← M.state
  match s.jtag.ir with
  | .idcode => pure ()
  | .opcode op =>
    if op = opSeldcsr then updateDcsr s.jtag.sr
    else if op = opDbgrx then updateRx s.jtag.sr
    else if op = opLdsram then do
      let packet := s.jtag.ldSr1
      M.update (·.mapJtag ({ · with ldReg := packet, ldSr2 := packet }))
      match s.jtag.loading with
      | some (line, k) => loadPacket line k packet
      | none => loadFunction packet
    else pure ()

/-- What the debugger does at the TAP. -/
def jtagAction : JtagAction → M Unit
  | .reset => jtagReset
  | .loadIr op => loadIr (.opcode op)
  | .loadIdcode => loadIr .idcode
  | .captureDr => captureDr
  | .shiftDr tdi => shiftDr tdi
  | .updateDr => updateDr

/-! ## Actions -/

/-- One action of the outside (70 R989). -/
def envAction : EnvAction → M Unit
  | .tick => pure ()
  | .irq level => M.update (·.mapExt ({ · with irq := level }))
  | .fiq level => M.update (·.mapExt ({ · with fiq := level }))
  | .socBreak level => M.update fun s => s.mapExt ({ · with socBreak := level && s.cfg.socBreakUsed })
  | .resetPin level => M.update fun s =>
    let t := (s.mapExt ({ · with resetPin := level })).mapJtag fun j => { j with stale := j.stale || (s.ext.resetPin && !level) }
    if level then t.enterReset else t
  | .busWrite pa bytes coherent => do
    if coherent then do
      let _ ← M.each snoopWrite (touchedLines pa bytes.length)
      pure ()
    else pure ()
    let _ ← M.each settleFor (touchedLines pa bytes.length)
    M.update fun s => s.setMem (s.mem.writeList pa bytes)
  | .busRead pline => snoopRead pline
  | .push pline data toThisCore => pushLine pline data toThisCore
  | .busError answers => M.update (·.mapExt fun e => { e with busErrors := e.busErrors ++ answers })
  | .asyncBusError => M.update fun s => if s.cfg.asyncErrorPin then s.pendAbort fsExternal else s
  | .externalAbort => M.update fun s => if s.cfg.extraAborts then s.pendAbort fsExternal else s
  | .icacheParity line word => M.update (·.markI line word)
  | .dcacheParity line byte => M.update (·.markD line byte)
  | .l2Error pline e => M.update (·.markL2 pline e)
  | .drain => drainOldest
  | .l2Settle => settleOldest
  | .fetchAhead va => fetchAhead va
  | .wake => M.update fun s => if s.cfg.pwrWake then s.setClk { s.clk with pwrmode := 0 } else s
  | .jtag a => jtagAction a

/-- The actions of this boundary, and those of later ones. -/
def splitTick : List EnvAction → List EnvAction × List EnvAction
  | [] => ([], [])
  | .tick :: t => ([], t)
  | a :: t => let (now, later) := splitTick t; (a :: now, later)

/-- An action that names a byte outside the physical address space (00 R11). -/
def EnvAction.outside : EnvAction → Bool
  | .busWrite pa bytes _ => decide (2 ^ 36 < pa.toNat + bytes.length)
  | _ => false

/-- The actions of one boundary, in order. -/
def envActions : List EnvAction → M Unit
  | [] => pure ()
  | a :: t => do
    envAction a
    envActions t

/-- The actions that may fall between the words of a multiple transfer (92 D25): those of bus agents and of the memory
system, and the reset pin; no interrupt, no debugger. -/
def EnvAction.between : EnvAction → Bool
  | .busWrite _ _ _ | .busRead _ | .push _ _ _ | .resetPin _ | .busError _ | .asyncBusError | .externalAbort
  | .icacheParity _ _ | .dcacheParity _ _ | .l2Error _ _ | .drain | .l2Settle => true
  | .tick | .irq _ | .fiq _ | .socBreak _ | .fetchAhead _ | .wake | .jtag _ => false

/-- The actions of this gap, and the later ones. -/
def splitGap : List EnvAction → List EnvAction × List EnvAction
  | [] => ([], [])
  | .tick :: t => ([], t)
  | a :: t => if a.between then (let (now, later) := splitGap t; (a :: now, later)) else ([], a :: t)

/-- What the outside does between two words of one instruction (20 R234, 92 D25, log 49); a reset ends the instruction
(70 R961). -/
def betweenWords : M Unit := do
  let s ← M.state
  if s.run.env.isEmpty then pure ()
  else do
    let (now, later) := splitGap s.run.env
    M.update fun s => s.setRun { s.run with env := later }
    envActions now
    let s ← M.state
    if s.ext.inReset then M.stop .reset else pure ()

/-- The gap between a word and those that follow it, if any. -/
def gapBefore {α : Type} (rest : List α) : M Unit := if rest.isEmpty then pure () else betweenWords

end Sys2Proof.Machine
end

