-- ==== Sys2Proof/Decode.lean ====
section
/-! DEFINITION. Decoding (spec 30, 46): total on every word, rejecting unallocated words by name; then the
encoder, written from the same layouts; then the operand restrictions of 93 U61 that single fields carry. -/

namespace Sys2Proof

/-- Why a word is no instruction (30 R405, R406; decision D29). -/
inductive DecodeError where
  /-- bits 27:24 = 0000, 23:22 = 01, 7:4 = 1001 -/
  | unallocatedMultiply
  /-- bits 27:24 = 0001, 7:4 = 1001 and neither SWP nor SWPB -/
  | unallocatedSwap
  /-- the miscellaneous space of 30 R389 outside its rows -/
  | unallocatedMiscellaneous
  /-- bits 27:23 = 00110, bits 21:20 = 00 -/
  | undefinedImmediate
  /-- bits 27:21 = 1100000 -/
  | unallocatedCoprocessor
  /-- cond = 1111 outside the rows of 30 R405 -/
  | unallocatedUnconditional
  /-- BKPT with a condition other than 1110: UNPREDICTABLE (30 R389, U61), not Undefined -/
  | bkptCondition
deriving DecidableEq, Repr

/-- What a word decodes to. -/
inductive Decoded where
  | instr (i : Instr)
  | rejected (e : DecodeError)
deriving DecidableEq, Repr

/-- The condition a 4-bit field names; 0b1111 names none (30 R383). -/
def Cond.ofBits (b : BitVec 4) : Option Cond :=
  if b = 0 then some .eq else if b = 1 then some .ne else if b = 2 then some .cs else if b = 3 then some .cc
  else if b = 4 then some .mi else if b = 5 then some .pl else if b = 6 then some .vs else if b = 7 then some .vc
  else if b = 8 then some .hi else if b = 9 then some .ls else if b = 10 then some .ge else if b = 11 then some .lt
  else if b = 12 then some .gt else if b = 13 then some .le else if b = 14 then some .al else none

/-- The field of a condition (30 R383). -/
def Cond.bits : Cond → BitVec 4
  | .eq => 0 | .ne => 1 | .cs => 2 | .cc => 3 | .mi => 4 | .pl => 5 | .vs => 6 | .vc => 7
  | .hi => 8 | .ls => 9 | .ge => 10 | .lt => 11 | .gt => 12 | .le => 13 | .al => 14

/-- The shift type a 2-bit field names (30 R386). -/
def ShiftType.ofBits (b : BitVec 2) : ShiftType :=
  if b = 0 then .lsl else if b = 1 then .lsr else if b = 2 then .asr else .ror

/-- The field of a shift type (30 R386). -/
def ShiftType.bits : ShiftType → BitVec 2
  | .lsl => 0 | .lsr => 1 | .asr => 2 | .ror => 3

/-- `a` followed by `b`, most significant first, as `n` bits (00 R7). -/
def cat {v w : Nat} (n : Nat) (a : BitVec v) (b : BitVec w) : BitVec n := (a ++ b).setWidth n

/-- The key of a coprocessor register transfer: coprocessor, opcode_1, CRn, CRm, opcode_2 (30 R396). -/
def cpKey (cp : BitVec 4) (opc1 : BitVec 3) (crn crm : BitVec 4) (opc2 : BitVec 3) : BitVec 18 :=
  cat 18 cp (cat 14 opc1 (cat 11 crn (cat 7 crm opc2)))

/-- The CP15, CP14 and CP7 register writes and functions of the table, by key (30 R410, R411; 11 R77; 12 R140, R170). -/
def mcrRow (k : BitVec 18) (c : Cond) (rd : Reg) : Option Instr :=
  if k = 245888#18 then some (.mcrControl c rd)  -- p15, 0, c1, c0, 0
  else
  if k = 245889#18 then some (.mcrAuxControl c rd)  -- p15, 0, c1, c0, 1
  else
  if k = 246016#18 then some (.mcrTtBase c rd)  -- p15, 0, c2, c0, 0
  else
  if k = 246144#18 then some (.mcrDacr c rd)  -- p15, 0, c3, c0, 0
  else
  if k = 246400#18 then some (.mcrFsr c rd)  -- p15, 0, c5, c0, 0
  else
  if k = 246528#18 then some (.mcrFar c rd)  -- p15, 0, c6, c0, 0
  else
  if k = 246960#18 then some (.mcrDcLock c rd)  -- p15, 0, c9, c6, 0
  else
  if k = 246928#18 then some (.mcrDcLockLegacy c rd)  -- p15, 0, c9, c2, 0
  else
  if k = 247424#18 then some (.mcrPid c rd)  -- p15, 0, c13, c0, 0
  else
  if k = 247616#18 then some (.mcrIbr0 c rd)  -- p15, 0, c14, c8, 0
  else
  if k = 247624#18 then some (.mcrIbr1 c rd)  -- p15, 0, c14, c9, 0
  else
  if k = 247552#18 then some (.mcrDbr0 c rd)  -- p15, 0, c14, c0, 0
  else
  if k = 247576#18 then some (.mcrDbr1 c rd)  -- p15, 0, c14, c3, 0
  else
  if k = 247584#18 then some (.mcrDbcon c rd)  -- p15, 0, c14, c4, 0
  else
  if k = 247688#18 then some (.mcrCpar c rd)  -- p15, 0, c15, c1, 0
  else
  if k = 246696#18 then some (.invIcacheBtb c rd)  -- p15, 0, c7, c5, 0
  else
  if k = 246697#18 then some (.invIcacheLine c rd)  -- p15, 0, c7, c5, 1
  else
  if k = 246702#18 then some (.invBtb c rd)  -- p15, 0, c7, c5, 6
  else
  if k = 246704#18 then some (.invDcache c rd)  -- p15, 0, c7, c6, 0
  else
  if k = 246705#18 then some (.invDcacheLine c rd)  -- p15, 0, c7, c6, 1
  else
  if k = 246712#18 then some (.invCachesBtb c rd)  -- p15, 0, c7, c7, 0
  else
  if k = 246737#18 then some (.cleanDcacheMva c rd)  -- p15, 0, c7, c10, 1
  else
  if k = 246738#18 then some (.cleanDcacheSetWay c rd)  -- p15, 0, c7, c10, 2
  else
  if k = 246769#18 then some (.cleanInvDcacheMva c rd)  -- p15, 0, c7, c14, 1
  else
  if k = 246770#18 then some (.cleanInvDcacheSetWay c rd)  -- p15, 0, c7, c14, 2
  else
  if k = 246700#18 then some (.prefetchFlush c rd)  -- p15, 0, c7, c5, 4
  else
  if k = 246740#18 then some (.dataWriteBarrier c rd)  -- p15, 0, c7, c10, 4
  else
  if k = 246741#18 then some (.dataMemoryBarrier c rd)  -- p15, 0, c7, c10, 5
  else
  if k = 248761#18 then some (.invL2Mva c rd)  -- p15, 1, c7, c7, 1
  else
  if k = 248793#18 then some (.cleanL2Mva c rd)  -- p15, 1, c7, c11, 1
  else
  if k = 248794#18 then some (.cleanL2SetWay c rd)  -- p15, 1, c7, c11, 2
  else
  if k = 248826#18 then some (.cleanInvL2SetWay c rd)  -- p15, 1, c7, c15, 2
  else
  if k = 246677#18 then some (.allocDcacheLine c rd)  -- p15, 0, c7, c2, 5
  else
  if k = 246840#18 then some (.invTlbs c rd)  -- p15, 0, c8, c7, 0
  else
  if k = 246824#18 then some (.invItlb c rd)  -- p15, 0, c8, c5, 0
  else
  if k = 246825#18 then some (.invItlbEntry c rd)  -- p15, 0, c8, c5, 1
  else
  if k = 246832#18 then some (.invDtlb c rd)  -- p15, 0, c8, c6, 0
  else
  if k = 246833#18 then some (.invDtlbEntry c rd)  -- p15, 0, c8, c6, 1
  else
  if k = 246952#18 then some (.lockIcacheLine c rd)  -- p15, 0, c9, c5, 0
  else
  if k = 246920#18 then some (.lockIcacheLineLegacy c rd)  -- p15, 0, c9, c1, 0
  else
  if k = 246953#18 then some (.unlockIcache c rd)  -- p15, 0, c9, c5, 1
  else
  if k = 246921#18 then some (.unlockIcacheLegacy c rd)  -- p15, 0, c9, c1, 1
  else
  if k = 246961#18 then some (.unlockDcache c rd)  -- p15, 0, c9, c6, 1
  else
  if k = 246929#18 then some (.unlockDcacheLegacy c rd)  -- p15, 0, c9, c2, 1
  else
  if k = 249000#18 then some (.lockL2Line c rd)  -- p15, 1, c9, c5, 0
  else
  if k = 249002#18 then some (.allocLockL2Line c rd)  -- p15, 1, c9, c5, 2
  else
  if k = 249001#18 then some (.unlockL2 c rd)  -- p15, 1, c9, c5, 1
  else
  if k = 247072#18 then some (.lockItlbEntry c rd)  -- p15, 0, c10, c4, 0
  else
  if k = 247073#18 then some (.unlockItlb c rd)  -- p15, 0, c10, c4, 1
  else
  if k = 247104#18 then some (.lockDtlbEntry c rd)  -- p15, 0, c10, c8, 0
  else
  if k = 247105#18 then some (.unlockDtlb c rd)  -- p15, 0, c10, c8, 1
  else
  if k = 229384#18 then some (.mcrPmnc c rd)  -- p14, 0, c0, c1, 0
  else
  if k = 229512#18 then some (.mcrCcnt c rd)  -- p14, 0, c1, c1, 0
  else
  if k = 229896#18 then some (.mcrInten c rd)  -- p14, 0, c4, c1, 0
  else
  if k = 230024#18 then some (.mcrFlag c rd)  -- p14, 0, c5, c1, 0
  else
  if k = 230408#18 then some (.mcrEvtsel c rd)  -- p14, 0, c8, c1, 0
  else
  if k = 229392#18 then some (.mcrPmn0 c rd)  -- p14, 0, c0, c2, 0
  else
  if k = 229520#18 then some (.mcrPmn1 c rd)  -- p14, 0, c1, c2, 0
  else
  if k = 229648#18 then some (.mcrPmn2 c rd)  -- p14, 0, c2, c2, 0
  else
  if k = 229776#18 then some (.mcrPmn3 c rd)  -- p14, 0, c3, c2, 0
  else
  if k = 230144#18 then some (.mcrCclkcfg c rd)  -- p14, 0, c6, c0, 0
  else
  if k = 230272#18 then some (.mcrPwrmode c rd)  -- p14, 0, c7, c0, 0
  else
  if k = 230400#18 then some (.mcrTx c rd)  -- p14, 0, c8, c0, 0
  else
  if k = 230656#18 then some (.mcrDcsr c rd)  -- p14, 0, c10, c0, 0
  else
  if k = 230912#18 then some (.mcrChkpt0 c rd)  -- p14, 0, c12, c0, 0
  else
  if k = 231040#18 then some (.mcrChkpt1 c rd)  -- p14, 0, c13, c0, 0
  else
  if k = 231168#18 then some (.mcrTxrxctrl c rd)  -- p14, 0, c14, c0, 0
  else
  if k = 114704#18 then some (.mcrErrlog c rd)  -- p7, 0, c0, c2, 0
  else
  if k = 114832#18 then some (.mcrErradrl c rd)  -- p7, 0, c1, c2, 0
  else
  if k = 114960#18 then some (.mcrErradru c rd)  -- p7, 0, c2, c2, 0
  else
  none

/-- The CP15, CP14 and CP7 register reads of the table, by key (30 R410, R411; 11 R77; 12 R140, R170). -/
def mrcRow (k : BitVec 18) (c : Cond) (rd : Reg) : Option Instr :=
  if k = 245760#18 then some (.mrcMainId c rd)  -- p15, 0, c0, c0, 0
  else
  if k = 247808#18 then some (.mrcL2Id c rd)  -- p15, 1, c0, c0, 0
  else
  if k = 245761#18 then some (.mrcCacheType c rd)  -- p15, 0, c0, c0, 1
  else
  if k = 247809#18 then some (.mrcL2CacheType c rd)  -- p15, 1, c0, c0, 1
  else
  if k = 245888#18 then some (.mrcControl c rd)  -- p15, 0, c1, c0, 0
  else
  if k = 245889#18 then some (.mrcAuxControl c rd)  -- p15, 0, c1, c0, 1
  else
  if k = 246016#18 then some (.mrcTtBase c rd)  -- p15, 0, c2, c0, 0
  else
  if k = 246144#18 then some (.mrcDacr c rd)  -- p15, 0, c3, c0, 0
  else
  if k = 246400#18 then some (.mrcFsr c rd)  -- p15, 0, c5, c0, 0
  else
  if k = 246528#18 then some (.mrcFar c rd)  -- p15, 0, c6, c0, 0
  else
  if k = 246960#18 then some (.mrcDcLock c rd)  -- p15, 0, c9, c6, 0
  else
  if k = 246928#18 then some (.mrcDcLockLegacy c rd)  -- p15, 0, c9, c2, 0
  else
  if k = 247424#18 then some (.mrcPid c rd)  -- p15, 0, c13, c0, 0
  else
  if k = 247616#18 then some (.mrcIbr0 c rd)  -- p15, 0, c14, c8, 0
  else
  if k = 247624#18 then some (.mrcIbr1 c rd)  -- p15, 0, c14, c9, 0
  else
  if k = 247552#18 then some (.mrcDbr0 c rd)  -- p15, 0, c14, c0, 0
  else
  if k = 247576#18 then some (.mrcDbr1 c rd)  -- p15, 0, c14, c3, 0
  else
  if k = 247584#18 then some (.mrcDbcon c rd)  -- p15, 0, c14, c4, 0
  else
  if k = 247688#18 then some (.mrcCpar c rd)  -- p15, 0, c15, c1, 0
  else
  if k = 229384#18 then some (.mrcPmnc c rd)  -- p14, 0, c0, c1, 0
  else
  if k = 229512#18 then some (.mrcCcnt c rd)  -- p14, 0, c1, c1, 0
  else
  if k = 229896#18 then some (.mrcInten c rd)  -- p14, 0, c4, c1, 0
  else
  if k = 230024#18 then some (.mrcFlag c rd)  -- p14, 0, c5, c1, 0
  else
  if k = 230408#18 then some (.mrcEvtsel c rd)  -- p14, 0, c8, c1, 0
  else
  if k = 229392#18 then some (.mrcPmn0 c rd)  -- p14, 0, c0, c2, 0
  else
  if k = 229520#18 then some (.mrcPmn1 c rd)  -- p14, 0, c1, c2, 0
  else
  if k = 229648#18 then some (.mrcPmn2 c rd)  -- p14, 0, c2, c2, 0
  else
  if k = 229776#18 then some (.mrcPmn3 c rd)  -- p14, 0, c3, c2, 0
  else
  if k = 230144#18 then some (.mrcCclkcfg c rd)  -- p14, 0, c6, c0, 0
  else
  if k = 230272#18 then some (.mrcPwrmode c rd)  -- p14, 0, c7, c0, 0
  else
  if k = 230528#18 then some (.mrcRx c rd)  -- p14, 0, c9, c0, 0
  else
  if k = 230656#18 then some (.mrcDcsr c rd)  -- p14, 0, c10, c0, 0
  else
  if k = 230784#18 then some (.mrcTbreg c rd)  -- p14, 0, c11, c0, 0
  else
  if k = 230912#18 then some (.mrcChkpt0 c rd)  -- p14, 0, c12, c0, 0
  else
  if k = 231040#18 then some (.mrcChkpt1 c rd)  -- p14, 0, c13, c0, 0
  else
  if k = 231168#18 then some (.mrcTxrxctrl c rd)  -- p14, 0, c14, c0, 0
  else
  if k = 114704#18 then some (.mrcErrlog c rd)  -- p7, 0, c0, c2, 0
  else
  if k = 114832#18 then some (.mrcErradrl c rd)  -- p7, 0, c1, c2, 0
  else
  if k = 114960#18 then some (.mrcErradru c rd)  -- p7, 0, c2, c2, 0
  else
  none

/-- opcode_3 values of the Multiply with Internal Accumulate format (30 R397). -/
def isMiaOpcode (crn : BitVec 4) : Bool :=
  crn == 0 || crn == 8 || crn == 12 || crn == 13 || crn == 14 || crn == 15

/-- Data processing, immediate operand (R387): the operation is bits 24:21 (30 R385). -/
def decodeDpImm (c : Cond) (w : BitVec 32) : Decoded :=
  let op := w.extractLsb' 21 4
  if op = 0#4 then .instr (.and c (w.getLsbD 20) (w.extractLsb' 16 4) (w.extractLsb' 12 4) (.imm (w.extractLsb' 8 4) (w.extractLsb' 0 8)))
  else if op = 1#4 then .instr (.eor c (w.getLsbD 20) (w.extractLsb' 16 4) (w.extractLsb' 12 4) (.imm (w.extractLsb' 8 4) (w.extractLsb' 0 8)))
  else if op = 2#4 then .instr (.sub c (w.getLsbD 20) (w.extractLsb' 16 4) (w.extractLsb' 12 4) (.imm (w.extractLsb' 8 4) (w.extractLsb' 0 8)))
  else if op = 3#4 then .instr (.rsb c (w.getLsbD 20) (w.extractLsb' 16 4) (w.extractLsb' 12 4) (.imm (w.extractLsb' 8 4) (w.extractLsb' 0 8)))
  else if op = 4#4 then .instr (.add c (w.getLsbD 20) (w.extractLsb' 16 4) (w.extractLsb' 12 4) (.imm (w.extractLsb' 8 4) (w.extractLsb' 0 8)))
  else if op = 5#4 then .instr (.adc c (w.getLsbD 20) (w.extractLsb' 16 4) (w.extractLsb' 12 4) (.imm (w.extractLsb' 8 4) (w.extractLsb' 0 8)))
  else if op = 6#4 then .instr (.sbc c (w.getLsbD 20) (w.extractLsb' 16 4) (w.extractLsb' 12 4) (.imm (w.extractLsb' 8 4) (w.extractLsb' 0 8)))
  else if op = 7#4 then .instr (.rsc c (w.getLsbD 20) (w.extractLsb' 16 4) (w.extractLsb' 12 4) (.imm (w.extractLsb' 8 4) (w.extractLsb' 0 8)))
  else if op = 8#4 then .instr (.tst c (w.extractLsb' 16 4) (w.extractLsb' 12 4) (.imm (w.extractLsb' 8 4) (w.extractLsb' 0 8)))
  else if op = 9#4 then .instr (.teq c (w.extractLsb' 16 4) (w.extractLsb' 12 4) (.imm (w.extractLsb' 8 4) (w.extractLsb' 0 8)))
  else if op = 10#4 then .instr (.cmp c (w.extractLsb' 16 4) (w.extractLsb' 12 4) (.imm (w.extractLsb' 8 4) (w.extractLsb' 0 8)))
  else if op = 11#4 then .instr (.cmn c (w.extractLsb' 16 4) (w.extractLsb' 12 4) (.imm (w.extractLsb' 8 4) (w.extractLsb' 0 8)))
  else if op = 12#4 then .instr (.orr c (w.getLsbD 20) (w.extractLsb' 16 4) (w.extractLsb' 12 4) (.imm (w.extractLsb' 8 4) (w.extractLsb' 0 8)))
  else if op = 13#4 then .instr (.mov c (w.getLsbD 20) (w.extractLsb' 16 4) (w.extractLsb' 12 4) (.imm (w.extractLsb' 8 4) (w.extractLsb' 0 8)))
  else if op = 14#4 then .instr (.bic c (w.getLsbD 20) (w.extractLsb' 16 4) (w.extractLsb' 12 4) (.imm (w.extractLsb' 8 4) (w.extractLsb' 0 8)))
  else .instr (.mvn c (w.getLsbD 20) (w.extractLsb' 16 4) (w.extractLsb' 12 4) (.imm (w.extractLsb' 8 4) (w.extractLsb' 0 8)))

/-- Data processing, register shifted by immediate (R386): the operation is bits 24:21 (30 R385). -/
def decodeDpShiftImm (c : Cond) (w : BitVec 32) : Decoded :=
  let op := w.extractLsb' 21 4
  if op = 0#4 then .instr (.and c (w.getLsbD 20) (w.extractLsb' 16 4) (w.extractLsb' 12 4) (.shiftImm (w.extractLsb' 7 5) (.ofBits (w.extractLsb' 5 2)) (w.extractLsb' 0 4)))
  else if op = 1#4 then .instr (.eor c (w.getLsbD 20) (w.extractLsb' 16 4) (w.extractLsb' 12 4) (.shiftImm (w.extractLsb' 7 5) (.ofBits (w.extractLsb' 5 2)) (w.extractLsb' 0 4)))
  else if op = 2#4 then .instr (.sub c (w.getLsbD 20) (w.extractLsb' 16 4) (w.extractLsb' 12 4) (.shiftImm (w.extractLsb' 7 5) (.ofBits (w.extractLsb' 5 2)) (w.extractLsb' 0 4)))
  else if op = 3#4 then .instr (.rsb c (w.getLsbD 20) (w.extractLsb' 16 4) (w.extractLsb' 12 4) (.shiftImm (w.extractLsb' 7 5) (.ofBits (w.extractLsb' 5 2)) (w.extractLsb' 0 4)))
  else if op = 4#4 then .instr (.add c (w.getLsbD 20) (w.extractLsb' 16 4) (w.extractLsb' 12 4) (.shiftImm (w.extractLsb' 7 5) (.ofBits (w.extractLsb' 5 2)) (w.extractLsb' 0 4)))
  else if op = 5#4 then .instr (.adc c (w.getLsbD 20) (w.extractLsb' 16 4) (w.extractLsb' 12 4) (.shiftImm (w.extractLsb' 7 5) (.ofBits (w.extractLsb' 5 2)) (w.extractLsb' 0 4)))
  else if op = 6#4 then .instr (.sbc c (w.getLsbD 20) (w.extractLsb' 16 4) (w.extractLsb' 12 4) (.shiftImm (w.extractLsb' 7 5) (.ofBits (w.extractLsb' 5 2)) (w.extractLsb' 0 4)))
  else if op = 7#4 then .instr (.rsc c (w.getLsbD 20) (w.extractLsb' 16 4) (w.extractLsb' 12 4) (.shiftImm (w.extractLsb' 7 5) (.ofBits (w.extractLsb' 5 2)) (w.extractLsb' 0 4)))
  else if op = 8#4 then .instr (.tst c (w.extractLsb' 16 4) (w.extractLsb' 12 4) (.shiftImm (w.extractLsb' 7 5) (.ofBits (w.extractLsb' 5 2)) (w.extractLsb' 0 4)))
  else if op = 9#4 then .instr (.teq c (w.extractLsb' 16 4) (w.extractLsb' 12 4) (.shiftImm (w.extractLsb' 7 5) (.ofBits (w.extractLsb' 5 2)) (w.extractLsb' 0 4)))
  else if op = 10#4 then .instr (.cmp c (w.extractLsb' 16 4) (w.extractLsb' 12 4) (.shiftImm (w.extractLsb' 7 5) (.ofBits (w.extractLsb' 5 2)) (w.extractLsb' 0 4)))
  else if op = 11#4 then .instr (.cmn c (w.extractLsb' 16 4) (w.extractLsb' 12 4) (.shiftImm (w.extractLsb' 7 5) (.ofBits (w.extractLsb' 5 2)) (w.extractLsb' 0 4)))
  else if op = 12#4 then .instr (.orr c (w.getLsbD 20) (w.extractLsb' 16 4) (w.extractLsb' 12 4) (.shiftImm (w.extractLsb' 7 5) (.ofBits (w.extractLsb' 5 2)) (w.extractLsb' 0 4)))
  else if op = 13#4 then .instr (.mov c (w.getLsbD 20) (w.extractLsb' 16 4) (w.extractLsb' 12 4) (.shiftImm (w.extractLsb' 7 5) (.ofBits (w.extractLsb' 5 2)) (w.extractLsb' 0 4)))
  else if op = 14#4 then .instr (.bic c (w.getLsbD 20) (w.extractLsb' 16 4) (w.extractLsb' 12 4) (.shiftImm (w.extractLsb' 7 5) (.ofBits (w.extractLsb' 5 2)) (w.extractLsb' 0 4)))
  else .instr (.mvn c (w.getLsbD 20) (w.extractLsb' 16 4) (w.extractLsb' 12 4) (.shiftImm (w.extractLsb' 7 5) (.ofBits (w.extractLsb' 5 2)) (w.extractLsb' 0 4)))

/-- Data processing, register shifted by register (R386): the operation is bits 24:21 (30 R385). -/
def decodeDpShiftReg (c : Cond) (w : BitVec 32) : Decoded :=
  let op := w.extractLsb' 21 4
  if op = 0#4 then .instr (.and c (w.getLsbD 20) (w.extractLsb' 16 4) (w.extractLsb' 12 4) (.shiftReg (w.extractLsb' 8 4) (.ofBits (w.extractLsb' 5 2)) (w.extractLsb' 0 4)))
  else if op = 1#4 then .instr (.eor c (w.getLsbD 20) (w.extractLsb' 16 4) (w.extractLsb' 12 4) (.shiftReg (w.extractLsb' 8 4) (.ofBits (w.extractLsb' 5 2)) (w.extractLsb' 0 4)))
  else if op = 2#4 then .instr (.sub c (w.getLsbD 20) (w.extractLsb' 16 4) (w.extractLsb' 12 4) (.shiftReg (w.extractLsb' 8 4) (.ofBits (w.extractLsb' 5 2)) (w.extractLsb' 0 4)))
  else if op = 3#4 then .instr (.rsb c (w.getLsbD 20) (w.extractLsb' 16 4) (w.extractLsb' 12 4) (.shiftReg (w.extractLsb' 8 4) (.ofBits (w.extractLsb' 5 2)) (w.extractLsb' 0 4)))
  else if op = 4#4 then .instr (.add c (w.getLsbD 20) (w.extractLsb' 16 4) (w.extractLsb' 12 4) (.shiftReg (w.extractLsb' 8 4) (.ofBits (w.extractLsb' 5 2)) (w.extractLsb' 0 4)))
  else if op = 5#4 then .instr (.adc c (w.getLsbD 20) (w.extractLsb' 16 4) (w.extractLsb' 12 4) (.shiftReg (w.extractLsb' 8 4) (.ofBits (w.extractLsb' 5 2)) (w.extractLsb' 0 4)))
  else if op = 6#4 then .instr (.sbc c (w.getLsbD 20) (w.extractLsb' 16 4) (w.extractLsb' 12 4) (.shiftReg (w.extractLsb' 8 4) (.ofBits (w.extractLsb' 5 2)) (w.extractLsb' 0 4)))
  else if op = 7#4 then .instr (.rsc c (w.getLsbD 20) (w.extractLsb' 16 4) (w.extractLsb' 12 4) (.shiftReg (w.extractLsb' 8 4) (.ofBits (w.extractLsb' 5 2)) (w.extractLsb' 0 4)))
  else if op = 8#4 then .instr (.tst c (w.extractLsb' 16 4) (w.extractLsb' 12 4) (.shiftReg (w.extractLsb' 8 4) (.ofBits (w.extractLsb' 5 2)) (w.extractLsb' 0 4)))
  else if op = 9#4 then .instr (.teq c (w.extractLsb' 16 4) (w.extractLsb' 12 4) (.shiftReg (w.extractLsb' 8 4) (.ofBits (w.extractLsb' 5 2)) (w.extractLsb' 0 4)))
  else if op = 10#4 then .instr (.cmp c (w.extractLsb' 16 4) (w.extractLsb' 12 4) (.shiftReg (w.extractLsb' 8 4) (.ofBits (w.extractLsb' 5 2)) (w.extractLsb' 0 4)))
  else if op = 11#4 then .instr (.cmn c (w.extractLsb' 16 4) (w.extractLsb' 12 4) (.shiftReg (w.extractLsb' 8 4) (.ofBits (w.extractLsb' 5 2)) (w.extractLsb' 0 4)))
  else if op = 12#4 then .instr (.orr c (w.getLsbD 20) (w.extractLsb' 16 4) (w.extractLsb' 12 4) (.shiftReg (w.extractLsb' 8 4) (.ofBits (w.extractLsb' 5 2)) (w.extractLsb' 0 4)))
  else if op = 13#4 then .instr (.mov c (w.getLsbD 20) (w.extractLsb' 16 4) (w.extractLsb' 12 4) (.shiftReg (w.extractLsb' 8 4) (.ofBits (w.extractLsb' 5 2)) (w.extractLsb' 0 4)))
  else if op = 14#4 then .instr (.bic c (w.getLsbD 20) (w.extractLsb' 16 4) (w.extractLsb' 12 4) (.shiftReg (w.extractLsb' 8 4) (.ofBits (w.extractLsb' 5 2)) (w.extractLsb' 0 4)))
  else .instr (.mvn c (w.getLsbD 20) (w.extractLsb' 16 4) (w.extractLsb' 12 4) (.shiftReg (w.extractLsb' 8 4) (.ofBits (w.extractLsb' 5 2)) (w.extractLsb' 0 4)))

/-- The miscellaneous and DSP-multiply spaces (30 R389, R390). -/
def decodeMisc (c : Cond) (w : BitVec 32) : Decoded :=
  if w.getLsbD 7 then
    if w.extractLsb' 21 2 = 0 then .instr (.smlaxy c (w.extractLsb' 16 4) (w.extractLsb' 12 4) (w.extractLsb' 8 4) (w.getLsbD 6) (w.getLsbD 5) (w.extractLsb' 0 4))
    else if w.extractLsb' 21 2 = 1 then
      if w.getLsbD 5 then .instr (.smulwy c (w.extractLsb' 16 4) (w.extractLsb' 12 4) (w.extractLsb' 8 4) (w.getLsbD 6) (w.extractLsb' 0 4)) else .instr (.smlawy c (w.extractLsb' 16 4) (w.extractLsb' 12 4) (w.extractLsb' 8 4) (w.getLsbD 6) (w.extractLsb' 0 4))
    else if w.extractLsb' 21 2 = 2 then .instr (.smlalxy c (w.extractLsb' 16 4) (w.extractLsb' 12 4) (w.extractLsb' 8 4) (w.getLsbD 6) (w.getLsbD 5) (w.extractLsb' 0 4))
    else .instr (.smulxy c (w.extractLsb' 16 4) (w.extractLsb' 12 4) (w.extractLsb' 8 4) (w.getLsbD 6) (w.getLsbD 5) (w.extractLsb' 0 4))
  else if w.extractLsb' 4 4 = 0 then
    if w.getLsbD 21 then .instr (.msrReg c (w.getLsbD 22) (w.extractLsb' 16 4) (w.extractLsb' 12 4) (w.extractLsb' 8 4) (w.extractLsb' 0 4)) else .instr (.mrs c (w.getLsbD 22) (w.extractLsb' 16 4) (w.extractLsb' 12 4) (w.extractLsb' 8 4) (w.extractLsb' 0 4))
  else if w.extractLsb' 4 4 = 1 then
    if w.extractLsb' 21 2 = 1 then .instr (.bx c (w.extractLsb' 16 4) (w.extractLsb' 12 4) (w.extractLsb' 8 4) (w.extractLsb' 0 4))
    else if w.extractLsb' 21 2 = 3 then .instr (.clz c (w.extractLsb' 16 4) (w.extractLsb' 12 4) (w.extractLsb' 8 4) (w.extractLsb' 0 4))
    else .rejected .unallocatedMiscellaneous
  else if w.extractLsb' 4 4 = 3 then
    if w.extractLsb' 21 2 = 1 then .instr (.blxReg c (w.extractLsb' 16 4) (w.extractLsb' 12 4) (w.extractLsb' 8 4) (w.extractLsb' 0 4)) else .rejected .unallocatedMiscellaneous
  else if w.extractLsb' 4 4 = 5 then
    if w.extractLsb' 21 2 = 0 then .instr (.qadd c (w.extractLsb' 16 4) (w.extractLsb' 12 4) (w.extractLsb' 8 4) (w.extractLsb' 0 4))
    else if w.extractLsb' 21 2 = 1 then .instr (.qsub c (w.extractLsb' 16 4) (w.extractLsb' 12 4) (w.extractLsb' 8 4) (w.extractLsb' 0 4))
    else if w.extractLsb' 21 2 = 2 then .instr (.qdadd c (w.extractLsb' 16 4) (w.extractLsb' 12 4) (w.extractLsb' 8 4) (w.extractLsb' 0 4))
    else .instr (.qdsub c (w.extractLsb' 16 4) (w.extractLsb' 12 4) (w.extractLsb' 8 4) (w.extractLsb' 0 4))
  else if w.extractLsb' 4 4 = 7 then
    if w.extractLsb' 21 2 = 1 then
      if c = .al then .instr (.bkpt (w.extractLsb' 8 12) (w.extractLsb' 0 4)) else .rejected .bkptCondition
    else .rejected .unallocatedMiscellaneous
  else .rejected .unallocatedMiscellaneous

/-- Multiplies and swap: bits 7:4 = 1001 (30 R388, R395). -/
def decodeMultiply (c : Cond) (w : BitVec 32) : Decoded :=
  if w.getLsbD 24 then
    if w.extractLsb' 20 4 = 0 then .instr (.swp c (w.extractLsb' 16 4) (w.extractLsb' 12 4) (w.extractLsb' 8 4) (w.extractLsb' 0 4))
    else if w.extractLsb' 20 4 = 4 then .instr (.swpb c (w.extractLsb' 16 4) (w.extractLsb' 12 4) (w.extractLsb' 8 4) (w.extractLsb' 0 4))
    else .rejected .unallocatedSwap
  else if w.extractLsb' 21 3 = 0 then .instr (.mul c (w.getLsbD 20) (w.extractLsb' 16 4) (w.extractLsb' 12 4) (w.extractLsb' 8 4) (w.extractLsb' 0 4))
  else if w.extractLsb' 21 3 = 1 then .instr (.mla c (w.getLsbD 20) (w.extractLsb' 16 4) (w.extractLsb' 12 4) (w.extractLsb' 8 4) (w.extractLsb' 0 4))
  else if w.extractLsb' 21 3 = 4 then .instr (.umull c (w.getLsbD 20) (w.extractLsb' 16 4) (w.extractLsb' 12 4) (w.extractLsb' 8 4) (w.extractLsb' 0 4))
  else if w.extractLsb' 21 3 = 5 then .instr (.umlal c (w.getLsbD 20) (w.extractLsb' 16 4) (w.extractLsb' 12 4) (w.extractLsb' 8 4) (w.extractLsb' 0 4))
  else if w.extractLsb' 21 3 = 6 then .instr (.smull c (w.getLsbD 20) (w.extractLsb' 16 4) (w.extractLsb' 12 4) (w.extractLsb' 8 4) (w.extractLsb' 0 4))
  else if w.extractLsb' 21 3 = 7 then .instr (.smlal c (w.getLsbD 20) (w.extractLsb' 16 4) (w.extractLsb' 12 4) (w.extractLsb' 8 4) (w.extractLsb' 0 4))
  else .rejected .unallocatedMultiply

/-- Halfword, signed-byte and doubleword transfers: S H is bits 6:5, not 00 (30 R392). -/
def decodeHalfword (c : Cond) (w : BitVec 32) : Decoded :=
  if w.getLsbD 20 then
    if w.extractLsb' 5 2 = 1 then (if w.getLsbD 22 then .instr (.ldrh c (w.getLsbD 24) (w.getLsbD 23) (w.getLsbD 21) (w.extractLsb' 16 4) (w.extractLsb' 12 4) (.imm (w.extractLsb' 8 4) (w.extractLsb' 0 4))) else .instr (.ldrh c (w.getLsbD 24) (w.getLsbD 23) (w.getLsbD 21) (w.extractLsb' 16 4) (w.extractLsb' 12 4) (.reg (w.extractLsb' 8 4) (w.extractLsb' 0 4))))
    else if w.extractLsb' 5 2 = 3 then (if w.getLsbD 22 then .instr (.ldrsh c (w.getLsbD 24) (w.getLsbD 23) (w.getLsbD 21) (w.extractLsb' 16 4) (w.extractLsb' 12 4) (.imm (w.extractLsb' 8 4) (w.extractLsb' 0 4))) else .instr (.ldrsh c (w.getLsbD 24) (w.getLsbD 23) (w.getLsbD 21) (w.extractLsb' 16 4) (w.extractLsb' 12 4) (.reg (w.extractLsb' 8 4) (w.extractLsb' 0 4))))
    else (if w.getLsbD 22 then .instr (.ldrsb c (w.getLsbD 24) (w.getLsbD 23) (w.getLsbD 21) (w.extractLsb' 16 4) (w.extractLsb' 12 4) (.imm (w.extractLsb' 8 4) (w.extractLsb' 0 4))) else .instr (.ldrsb c (w.getLsbD 24) (w.getLsbD 23) (w.getLsbD 21) (w.extractLsb' 16 4) (w.extractLsb' 12 4) (.reg (w.extractLsb' 8 4) (w.extractLsb' 0 4))))
  else
    if w.extractLsb' 5 2 = 1 then (if w.getLsbD 22 then .instr (.strh c (w.getLsbD 24) (w.getLsbD 23) (w.getLsbD 21) (w.extractLsb' 16 4) (w.extractLsb' 12 4) (.imm (w.extractLsb' 8 4) (w.extractLsb' 0 4))) else .instr (.strh c (w.getLsbD 24) (w.getLsbD 23) (w.getLsbD 21) (w.extractLsb' 16 4) (w.extractLsb' 12 4) (.reg (w.extractLsb' 8 4) (w.extractLsb' 0 4))))
    else if w.extractLsb' 5 2 = 3 then (if w.getLsbD 22 then .instr (.strd c (w.getLsbD 24) (w.getLsbD 23) (w.getLsbD 21) (w.extractLsb' 16 4) (w.extractLsb' 12 4) (.imm (w.extractLsb' 8 4) (w.extractLsb' 0 4))) else .instr (.strd c (w.getLsbD 24) (w.getLsbD 23) (w.getLsbD 21) (w.extractLsb' 16 4) (w.extractLsb' 12 4) (.reg (w.extractLsb' 8 4) (w.extractLsb' 0 4))))
    else (if w.getLsbD 22 then .instr (.ldrd c (w.getLsbD 24) (w.getLsbD 23) (w.getLsbD 21) (w.extractLsb' 16 4) (w.extractLsb' 12 4) (.imm (w.extractLsb' 8 4) (w.extractLsb' 0 4))) else .instr (.ldrd c (w.getLsbD 24) (w.getLsbD 23) (w.getLsbD 21) (w.extractLsb' 16 4) (w.extractLsb' 12 4) (.reg (w.extractLsb' 8 4) (w.extractLsb' 0 4))))

/-- Class 000 (30 R384). -/
def decodeClass0 (c : Cond) (w : BitVec 32) : Decoded :=
  if !w.getLsbD 4 then
    if w.extractLsb' 23 2 = 2 ∧ w.getLsbD 20 = false then decodeMisc c w else decodeDpShiftImm c w
  else if !w.getLsbD 7 then
    if w.extractLsb' 23 2 = 2 ∧ w.getLsbD 20 = false then decodeMisc c w else decodeDpShiftReg c w
  else if w.extractLsb' 5 2 = 0 then decodeMultiply c w
  else decodeHalfword c w

/-- Class 001 (30 R384). -/
def decodeClass1 (c : Cond) (w : BitVec 32) : Decoded :=
  if w.extractLsb' 23 2 = 2 ∧ w.getLsbD 20 = false then
    if w.getLsbD 21 then .instr (.msrImm c (w.getLsbD 22) (w.extractLsb' 16 4) (w.extractLsb' 12 4) (w.extractLsb' 8 4) (w.extractLsb' 0 8)) else .rejected .undefinedImmediate
  else decodeDpImm c w

/-- Class 010: word and byte transfers, immediate offset; P = 0 with W = 1 is the T form (30 R391). -/
def decodeClass2 (c : Cond) (w : BitVec 32) : Decoded :=
  if w.getLsbD 24 = false ∧ w.getLsbD 21 = true then
    if w.getLsbD 20 then (if w.getLsbD 22 then .instr (.ldrbt c (w.getLsbD 23) (w.extractLsb' 16 4) (w.extractLsb' 12 4) (.imm (w.extractLsb' 0 12))) else .instr (.ldrt c (w.getLsbD 23) (w.extractLsb' 16 4) (w.extractLsb' 12 4) (.imm (w.extractLsb' 0 12))))
    else (if w.getLsbD 22 then .instr (.strbt c (w.getLsbD 23) (w.extractLsb' 16 4) (w.extractLsb' 12 4) (.imm (w.extractLsb' 0 12))) else .instr (.strt c (w.getLsbD 23) (w.extractLsb' 16 4) (w.extractLsb' 12 4) (.imm (w.extractLsb' 0 12))))
  else if w.getLsbD 20 then (if w.getLsbD 22 then .instr (.ldrb c (w.getLsbD 24) (w.getLsbD 23) (w.getLsbD 21) (w.extractLsb' 16 4) (w.extractLsb' 12 4) (.imm (w.extractLsb' 0 12))) else .instr (.ldr c (w.getLsbD 24) (w.getLsbD 23) (w.getLsbD 21) (w.extractLsb' 16 4) (w.extractLsb' 12 4) (.imm (w.extractLsb' 0 12))))
  else (if w.getLsbD 22 then .instr (.strb c (w.getLsbD 24) (w.getLsbD 23) (w.getLsbD 21) (w.extractLsb' 16 4) (w.extractLsb' 12 4) (.imm (w.extractLsb' 0 12))) else .instr (.str c (w.getLsbD 24) (w.getLsbD 23) (w.getLsbD 21) (w.extractLsb' 16 4) (w.extractLsb' 12 4) (.imm (w.extractLsb' 0 12))))

/-- Class 011: register offset, or the undefined instruction space when bit 4 is 1 (30 R391, R406). -/
def decodeClass3 (c : Cond) (w : BitVec 32) : Decoded :=
  if w.getLsbD 4 then .instr (.undefinedSpace c (w.extractLsb' 5 20) (w.extractLsb' 0 4))
  else if w.getLsbD 24 = false ∧ w.getLsbD 21 = true then
    if w.getLsbD 20 then (if w.getLsbD 22 then .instr (.ldrbt c (w.getLsbD 23) (w.extractLsb' 16 4) (w.extractLsb' 12 4) (.reg (w.extractLsb' 7 5) (.ofBits (w.extractLsb' 5 2)) (w.extractLsb' 0 4))) else .instr (.ldrt c (w.getLsbD 23) (w.extractLsb' 16 4) (w.extractLsb' 12 4) (.reg (w.extractLsb' 7 5) (.ofBits (w.extractLsb' 5 2)) (w.extractLsb' 0 4))))
    else (if w.getLsbD 22 then .instr (.strbt c (w.getLsbD 23) (w.extractLsb' 16 4) (w.extractLsb' 12 4) (.reg (w.extractLsb' 7 5) (.ofBits (w.extractLsb' 5 2)) (w.extractLsb' 0 4))) else .instr (.strt c (w.getLsbD 23) (w.extractLsb' 16 4) (w.extractLsb' 12 4) (.reg (w.extractLsb' 7 5) (.ofBits (w.extractLsb' 5 2)) (w.extractLsb' 0 4))))
  else if w.getLsbD 20 then (if w.getLsbD 22 then .instr (.ldrb c (w.getLsbD 24) (w.getLsbD 23) (w.getLsbD 21) (w.extractLsb' 16 4) (w.extractLsb' 12 4) (.reg (w.extractLsb' 7 5) (.ofBits (w.extractLsb' 5 2)) (w.extractLsb' 0 4))) else .instr (.ldr c (w.getLsbD 24) (w.getLsbD 23) (w.getLsbD 21) (w.extractLsb' 16 4) (w.extractLsb' 12 4) (.reg (w.extractLsb' 7 5) (.ofBits (w.extractLsb' 5 2)) (w.extractLsb' 0 4))))
  else (if w.getLsbD 22 then .instr (.strb c (w.getLsbD 24) (w.getLsbD 23) (w.getLsbD 21) (w.extractLsb' 16 4) (w.extractLsb' 12 4) (.reg (w.extractLsb' 7 5) (.ofBits (w.extractLsb' 5 2)) (w.extractLsb' 0 4))) else .instr (.str c (w.getLsbD 24) (w.getLsbD 23) (w.getLsbD 21) (w.extractLsb' 16 4) (w.extractLsb' 12 4) (.reg (w.extractLsb' 7 5) (.ofBits (w.extractLsb' 5 2)) (w.extractLsb' 0 4))))

/-- Class 100: load and store multiple (30 R393). -/
def decodeClass4 (c : Cond) (w : BitVec 32) : Decoded :=
  if w.getLsbD 22 = false then
    if w.getLsbD 20 then .instr (.ldm c (w.getLsbD 24) (w.getLsbD 23) (w.getLsbD 21) (w.extractLsb' 16 4) (w.extractLsb' 0 16)) else .instr (.stm c (w.getLsbD 24) (w.getLsbD 23) (w.getLsbD 21) (w.extractLsb' 16 4) (w.extractLsb' 0 16))
  else if w.getLsbD 20 = false then .instr (.stmUser c (w.getLsbD 24) (w.getLsbD 23) (w.getLsbD 21) (w.extractLsb' 16 4) (w.extractLsb' 0 16))
  else if w.getLsbD 15 then .instr (.ldmReturn c (w.getLsbD 24) (w.getLsbD 23) (w.getLsbD 21) (w.extractLsb' 16 4) (w.extractLsb' 0 15))
  else .instr (.ldmUser c (w.getLsbD 24) (w.getLsbD 23) (w.getLsbD 21) (w.extractLsb' 16 4) (w.extractLsb' 0 15))

/-- Class 101: B and BL (30 R394). -/
def decodeClass5 (c : Cond) (w : BitVec 32) : Decoded :=
  if w.getLsbD 24 then .instr (.bl c (w.extractLsb' 0 24)) else .instr (.b c (w.extractLsb' 0 24))

/-- Class 110: coprocessor transfers; for coprocessor 0 MAR and MRA (30 R396, R398). -/
def decodeClass6 (c : Cond) (w : BitVec 32) : Decoded :=
  if w.getLsbD 24 = false ∧ w.getLsbD 23 = false ∧ w.getLsbD 21 = false then
    if w.getLsbD 22 = false then .rejected .unallocatedCoprocessor
    else if w.extractLsb' 8 4 = 0 ∧ w.extractLsb' 4 4 = 0 ∧ w.getLsbD 3 = false then
      if w.getLsbD 20 then .instr (.mra c (w.extractLsb' 16 4) (w.extractLsb' 12 4) (w.extractLsb' 0 3)) else .instr (.mar c (w.extractLsb' 16 4) (w.extractLsb' 12 4) (w.extractLsb' 0 3))
    else if w.getLsbD 20 then .instr (.mrrc c (w.extractLsb' 16 4) (w.extractLsb' 12 4) (w.extractLsb' 8 4) (w.extractLsb' 4 4) (w.extractLsb' 0 4)) else .instr (.mcrr c (w.extractLsb' 16 4) (w.extractLsb' 12 4) (w.extractLsb' 8 4) (w.extractLsb' 4 4) (w.extractLsb' 0 4))
  else if w.extractLsb' 8 4 = 14 then
    if w.getLsbD 20 then .instr (.ldcP14 c (w.getLsbD 24) (w.getLsbD 23) (w.getLsbD 22) (w.getLsbD 21) (w.extractLsb' 16 4) (w.extractLsb' 12 4) (w.extractLsb' 0 8)) else .instr (.stcP14 c (w.getLsbD 24) (w.getLsbD 23) (w.getLsbD 22) (w.getLsbD 21) (w.extractLsb' 16 4) (w.extractLsb' 12 4) (w.extractLsb' 0 8))
  else if w.getLsbD 20 then .instr (.ldc c (w.getLsbD 24) (w.getLsbD 23) (w.getLsbD 22) (w.getLsbD 21) (w.extractLsb' 16 4) (w.extractLsb' 12 4) (w.extractLsb' 8 4) (w.extractLsb' 0 8)) else .instr (.stc c (w.getLsbD 24) (w.getLsbD 23) (w.getLsbD 22) (w.getLsbD 21) (w.extractLsb' 16 4) (w.extractLsb' 12 4) (w.extractLsb' 8 4) (w.extractLsb' 0 8))

/-- An MCR-space word: the MIA family, a listed register or function, or the generic MCR (30 R396, R397, R410). -/
def decodeMcr (c : Cond) (w : BitVec 32) : Decoded :=
  if w.extractLsb' 8 4 = 0 ∧ w.extractLsb' 21 3 = 1 ∧ isMiaOpcode (w.extractLsb' 16 4) = true then
    if w.extractLsb' 16 4 = 0 then .instr (.mia c (w.extractLsb' 12 4) (w.extractLsb' 5 3) (w.extractLsb' 0 4))
    else if w.extractLsb' 16 4 = 8 then .instr (.miaph c (w.extractLsb' 12 4) (w.extractLsb' 5 3) (w.extractLsb' 0 4))
    else if w.extractLsb' 16 4 = 12 then .instr (.miabb c (w.extractLsb' 12 4) (w.extractLsb' 5 3) (w.extractLsb' 0 4))
    else if w.extractLsb' 16 4 = 13 then .instr (.miabt c (w.extractLsb' 12 4) (w.extractLsb' 5 3) (w.extractLsb' 0 4))
    else if w.extractLsb' 16 4 = 14 then .instr (.miatb c (w.extractLsb' 12 4) (w.extractLsb' 5 3) (w.extractLsb' 0 4))
    else .instr (.miatt c (w.extractLsb' 12 4) (w.extractLsb' 5 3) (w.extractLsb' 0 4))
  else
    match mcrRow (cpKey (w.extractLsb' 8 4) (w.extractLsb' 21 3) (w.extractLsb' 16 4) (w.extractLsb' 0 4) (w.extractLsb' 5 3)) c (w.extractLsb' 12 4) with
    | some i => .instr i
    | none => .instr (.mcr c (w.extractLsb' 21 3) (w.extractLsb' 16 4) (w.extractLsb' 12 4) (w.extractLsb' 8 4) (w.extractLsb' 5 3) (w.extractLsb' 0 4))

/-- An MRC-space word: a listed register or the generic MRC (30 R396, R410). -/
def decodeMrc (c : Cond) (w : BitVec 32) : Decoded :=
  match mrcRow (cpKey (w.extractLsb' 8 4) (w.extractLsb' 21 3) (w.extractLsb' 16 4) (w.extractLsb' 0 4) (w.extractLsb' 5 3)) c (w.extractLsb' 12 4) with
  | some i => .instr i
  | none => .instr (.mrc c (w.extractLsb' 21 3) (w.extractLsb' 16 4) (w.extractLsb' 12 4) (w.extractLsb' 8 4) (w.extractLsb' 5 3) (w.extractLsb' 0 4))

/-- Class 111: SWI, CDP, MCR, MRC (30 R384). -/
def decodeClass7 (c : Cond) (w : BitVec 32) : Decoded :=
  if w.getLsbD 24 then .instr (.swi c (w.extractLsb' 0 24))
  else if w.getLsbD 4 = false then .instr (.cdp c (w.extractLsb' 20 4) (w.extractLsb' 16 4) (w.extractLsb' 12 4) (w.extractLsb' 8 4) (w.extractLsb' 5 3) (w.extractLsb' 0 4))
  else if w.getLsbD 20 then decodeMrc c w else decodeMcr c w

/-- cond = 1111: the unconditional space (30 R400, R405). -/
def decodeUnconditional (w : BitVec 32) : Decoded :=
  if w.extractLsb' 25 3 = 5 then .instr (.blxImm (w.getLsbD 24) (w.extractLsb' 0 24))
  else if w.extractLsb' 25 3 = 6 then
    if w.getLsbD 24 = false ∧ w.getLsbD 23 = false ∧ w.getLsbD 21 = false then .rejected .unallocatedUnconditional
    else if w.getLsbD 20 then .instr (.ldc2 (w.getLsbD 24) (w.getLsbD 23) (w.getLsbD 22) (w.getLsbD 21) (w.extractLsb' 16 4) (w.extractLsb' 12 4) (w.extractLsb' 8 4) (w.extractLsb' 0 8)) else .instr (.stc2 (w.getLsbD 24) (w.getLsbD 23) (w.getLsbD 22) (w.getLsbD 21) (w.extractLsb' 16 4) (w.extractLsb' 12 4) (w.extractLsb' 8 4) (w.extractLsb' 0 8))
  else if w.extractLsb' 25 3 = 7 then
    if w.getLsbD 24 then .rejected .unallocatedUnconditional
    else if w.getLsbD 4 = false then .instr (.cdp2 (w.extractLsb' 20 4) (w.extractLsb' 16 4) (w.extractLsb' 12 4) (w.extractLsb' 8 4) (w.extractLsb' 5 3) (w.extractLsb' 0 4))
    else if w.getLsbD 20 then .instr (.mrc2 (w.extractLsb' 21 3) (w.extractLsb' 16 4) (w.extractLsb' 12 4) (w.extractLsb' 8 4) (w.extractLsb' 5 3) (w.extractLsb' 0 4)) else .instr (.mcr2 (w.extractLsb' 21 3) (w.extractLsb' 16 4) (w.extractLsb' 12 4) (w.extractLsb' 8 4) (w.extractLsb' 5 3) (w.extractLsb' 0 4))
  else if w.extractLsb' 25 3 = 2 then
    if w.getLsbD 24 = true ∧ w.extractLsb' 20 3 = 5 ∧ w.extractLsb' 12 4 = 15 then .instr (.pld (w.getLsbD 23) (w.extractLsb' 16 4) (.imm (w.extractLsb' 0 12)))
    else .rejected .unallocatedUnconditional
  else if w.extractLsb' 25 3 = 3 then
    if w.getLsbD 4 = false ∧ w.getLsbD 24 = true ∧ w.extractLsb' 20 3 = 5 ∧ w.extractLsb' 12 4 = 15 then .instr (.pld (w.getLsbD 23) (w.extractLsb' 16 4) (.reg (w.extractLsb' 7 5) (.ofBits (w.extractLsb' 5 2)) (w.extractLsb' 0 4)))
    else .rejected .unallocatedUnconditional
  else .rejected .unallocatedUnconditional

/-- Decode a conditional ARM word by its class, bits 27:25 (30 R384). -/
def decodeConditional (c : Cond) (w : BitVec 32) : Decoded :=
  if w.extractLsb' 25 3 = 0 then decodeClass0 c w
  else if w.extractLsb' 25 3 = 1 then decodeClass1 c w
  else if w.extractLsb' 25 3 = 2 then decodeClass2 c w
  else if w.extractLsb' 25 3 = 3 then decodeClass3 c w
  else if w.extractLsb' 25 3 = 4 then decodeClass4 c w
  else if w.extractLsb' 25 3 = 5 then decodeClass5 c w
  else if w.extractLsb' 25 3 = 6 then decodeClass6 c w
  else decodeClass7 c w

/-- Decode a 32-bit ARM word (30 R382 to R406). -/
def decodeArm (w : BitVec 32) : Decoded :=
  match Cond.ofBits (w.extractLsb' 28 4) with
  | none => decodeUnconditional w
  | some c => decodeConditional c w

/-- Thumb bits 15:12 = 0001: register shifts and add/subtract (46 R721 to R727). -/
def decodeThumbAddSub (w : BitVec 16) : Decoded :=
  if w.getLsbD 11 = false then .instr (.tAsr (.imm (w.extractLsb' 6 5) (w.extractLsb' 3 3) (w.extractLsb' 0 3)))
  else if w.getLsbD 10 = false then
    if w.getLsbD 9 then .instr (.tSub (.reg (w.extractLsb' 6 3) (w.extractLsb' 3 3) (w.extractLsb' 0 3))) else .instr (.tAdd (.reg (w.extractLsb' 6 3) (w.extractLsb' 3 3) (w.extractLsb' 0 3)))
  else if w.getLsbD 9 then .instr (.tSub (.imm3 (w.extractLsb' 6 3) (w.extractLsb' 3 3) (w.extractLsb' 0 3))) else .instr (.tAdd (.imm3 (w.extractLsb' 6 3) (w.extractLsb' 3 3) (w.extractLsb' 0 3)))

/-- Thumb bits 15:10 = 010000: data processing on low registers (46 section 3). -/
def decodeThumbDp (w : BitVec 16) : Decoded :=
  let op := w.extractLsb' 6 4
  if op = 0#4 then .instr (.tAnd (w.extractLsb' 3 3) (w.extractLsb' 0 3))
  else if op = 1#4 then .instr (.tEor (w.extractLsb' 3 3) (w.extractLsb' 0 3))
  else if op = 2#4 then .instr (.tLsl (.reg (w.extractLsb' 3 3) (w.extractLsb' 0 3)))
  else if op = 3#4 then .instr (.tLsr (.reg (w.extractLsb' 3 3) (w.extractLsb' 0 3)))
  else if op = 4#4 then .instr (.tAsr (.reg (w.extractLsb' 3 3) (w.extractLsb' 0 3)))
  else if op = 5#4 then .instr (.tAdc (w.extractLsb' 3 3) (w.extractLsb' 0 3))
  else if op = 6#4 then .instr (.tSbc (w.extractLsb' 3 3) (w.extractLsb' 0 3))
  else if op = 7#4 then .instr (.tRorReg (w.extractLsb' 3 3) (w.extractLsb' 0 3))
  else if op = 8#4 then .instr (.tTst (w.extractLsb' 3 3) (w.extractLsb' 0 3))
  else if op = 9#4 then .instr (.tNeg (w.extractLsb' 3 3) (w.extractLsb' 0 3))
  else if op = 10#4 then .instr (.tCmp (.reg (w.extractLsb' 3 3) (w.extractLsb' 0 3)))
  else if op = 11#4 then .instr (.tCmn (w.extractLsb' 3 3) (w.extractLsb' 0 3))
  else if op = 12#4 then .instr (.tOrr (w.extractLsb' 3 3) (w.extractLsb' 0 3))
  else if op = 13#4 then .instr (.tMul (w.extractLsb' 3 3) (w.extractLsb' 0 3))
  else if op = 14#4 then .instr (.tBic (w.extractLsb' 3 3) (w.extractLsb' 0 3))
  else .instr (.tMvn (w.extractLsb' 3 3) (w.extractLsb' 0 3))

/-- Thumb bits 15:10 = 010001: high registers and branch exchange (46 section 4). -/
def decodeThumbHigh (w : BitVec 16) : Decoded :=
  if w.extractLsb' 8 2 = 0 then .instr (.tAddHi (w.getLsbD 7) (w.getLsbD 6) (w.extractLsb' 3 3) (w.extractLsb' 0 3))
  else if w.extractLsb' 8 2 = 1 then .instr (.tCmpHi (w.getLsbD 7) (w.getLsbD 6) (w.extractLsb' 3 3) (w.extractLsb' 0 3))
  else if w.extractLsb' 8 2 = 2 then .instr (.tMovHi (w.getLsbD 7) (w.getLsbD 6) (w.extractLsb' 3 3) (w.extractLsb' 0 3))
  else if w.getLsbD 7 then .instr (.tBlxReg (w.getLsbD 6) (w.extractLsb' 3 3) (w.extractLsb' 0 3)) else .instr (.tBx (w.getLsbD 6) (w.extractLsb' 3 3) (w.extractLsb' 0 3))

/-- Thumb bits 15:12 = 0101: register-offset loads and stores (46 R759 to R766). -/
def decodeThumbRegOffset (w : BitVec 16) : Decoded :=
  let op := w.extractLsb' 9 3
  if op = 0 then .instr (.tStr (w.extractLsb' 0 3) (.reg (w.extractLsb' 6 3) (w.extractLsb' 3 3)))
  else if op = 1 then .instr (.tStrh (w.extractLsb' 0 3) (.reg (w.extractLsb' 6 3) (w.extractLsb' 3 3)))
  else if op = 2 then .instr (.tStrb (w.extractLsb' 0 3) (.reg (w.extractLsb' 6 3) (w.extractLsb' 3 3)))
  else if op = 3 then .instr (.tLdrsbReg (w.extractLsb' 6 3) (w.extractLsb' 3 3) (w.extractLsb' 0 3))
  else if op = 4 then .instr (.tLdr (w.extractLsb' 0 3) (.reg (w.extractLsb' 6 3) (w.extractLsb' 3 3)))
  else if op = 5 then .instr (.tLdrh (w.extractLsb' 0 3) (.reg (w.extractLsb' 6 3) (w.extractLsb' 3 3)))
  else if op = 6 then .instr (.tLdrb (w.extractLsb' 0 3) (.reg (w.extractLsb' 6 3) (w.extractLsb' 3 3)))
  else .instr (.tLdrshReg (w.extractLsb' 6 3) (w.extractLsb' 3 3) (w.extractLsb' 0 3))

/-- Thumb bits 15:12 = 1011: stack, breakpoint and unallocated patterns (30 R415, 46 R781). -/
def decodeThumbMisc (w : BitVec 16) : Decoded :=
  if w.getLsbD 11 then
    if w.getLsbD 10 = false then .instr (.tUndefined (.b10xx (w.extractLsb' 0 10)))
    else if w.getLsbD 9 = false then .instr (.tPop (w.getLsbD 8) (w.extractLsb' 0 8))
    else if w.getLsbD 8 then .instr (.tUndefined (.b1111 (w.extractLsb' 0 8))) else .instr (.tBkpt (w.extractLsb' 0 8))
  else if w.getLsbD 10 then
    if w.getLsbD 9 then .instr (.tUndefined (.b011x (w.extractLsb' 0 9))) else .instr (.tPush (w.getLsbD 8) (w.extractLsb' 0 8))
  else if w.getLsbD 9 then .instr (.tUndefined (.b001x (w.extractLsb' 0 9)))
  else if w.getLsbD 8 then .instr (.tUndefined (.b0001 (w.extractLsb' 0 8)))
  else if w.getLsbD 7 then .instr (.tDecSp (w.extractLsb' 0 7)) else .instr (.tIncSp (w.extractLsb' 0 7))

/-- Thumb bits 15:12 = 1101: conditional branch, the permanently undefined encoding, SWI (46 R780 to R782). -/
def decodeThumbCond (w : BitVec 16) : Decoded :=
  match Cond.ofBits (w.extractLsb' 8 4) with
  | none => .instr (.tSwi (w.extractLsb' 0 8))
  | some c => if c = .al then .instr (.tUndefined (.perm (w.extractLsb' 0 8))) else .instr (.tBCond c (w.extractLsb' 0 8))

/-- Decode a 16-bit Thumb halfword: every halfword belongs to exactly one row (30 R415, R419). -/
def decodeThumb (w : BitVec 16) : Decoded :=
  let hi := w.extractLsb' 12 4
  if hi = 0 then (if w.getLsbD 11 then .instr (.tLsr (.imm (w.extractLsb' 6 5) (w.extractLsb' 3 3) (w.extractLsb' 0 3))) else .instr (.tLsl (.imm (w.extractLsb' 6 5) (w.extractLsb' 3 3) (w.extractLsb' 0 3))))
  else if hi = 1 then decodeThumbAddSub w
  else if hi = 2 then (if w.getLsbD 11 then .instr (.tCmp (.imm8 (w.extractLsb' 8 3) (w.extractLsb' 0 8))) else .instr (.tMovImm8 (w.extractLsb' 8 3) (w.extractLsb' 0 8)))
  else if hi = 3 then (if w.getLsbD 11 then .instr (.tSub (.imm8 (w.extractLsb' 8 3) (w.extractLsb' 0 8))) else .instr (.tAdd (.imm8 (w.extractLsb' 8 3) (w.extractLsb' 0 8))))
  else if hi = 4 then
    if w.getLsbD 11 then .instr (.tLdr (w.extractLsb' 8 3) (.pc (w.extractLsb' 0 8)))
    else if w.getLsbD 10 then decodeThumbHigh w else decodeThumbDp w
  else if hi = 5 then decodeThumbRegOffset w
  else if hi = 6 then (if w.getLsbD 11 then .instr (.tLdr (w.extractLsb' 0 3) (.imm (w.extractLsb' 6 5) (w.extractLsb' 3 3))) else .instr (.tStr (w.extractLsb' 0 3) (.imm (w.extractLsb' 6 5) (w.extractLsb' 3 3))))
  else if hi = 7 then (if w.getLsbD 11 then .instr (.tLdrb (w.extractLsb' 0 3) (.imm (w.extractLsb' 6 5) (w.extractLsb' 3 3))) else .instr (.tStrb (w.extractLsb' 0 3) (.imm (w.extractLsb' 6 5) (w.extractLsb' 3 3))))
  else if hi = 8 then (if w.getLsbD 11 then .instr (.tLdrh (w.extractLsb' 0 3) (.imm (w.extractLsb' 6 5) (w.extractLsb' 3 3))) else .instr (.tStrh (w.extractLsb' 0 3) (.imm (w.extractLsb' 6 5) (w.extractLsb' 3 3))))
  else if hi = 9 then (if w.getLsbD 11 then .instr (.tLdr (w.extractLsb' 8 3) (.sp (w.extractLsb' 0 8))) else .instr (.tStr (w.extractLsb' 8 3) (.sp (w.extractLsb' 0 8))))
  else if hi = 10 then (if w.getLsbD 11 then .instr (.tAddSp (w.extractLsb' 8 3) (w.extractLsb' 0 8)) else .instr (.tAddPc (w.extractLsb' 8 3) (w.extractLsb' 0 8)))
  else if hi = 11 then decodeThumbMisc w
  else if hi = 12 then (if w.getLsbD 11 then .instr (.tLdmia (w.extractLsb' 8 3) (w.extractLsb' 0 8)) else .instr (.tStmia (w.extractLsb' 8 3) (w.extractLsb' 0 8)))
  else if hi = 13 then decodeThumbCond w
  else if hi = 14 then
    if w.getLsbD 11 then (if w.getLsbD 0 then .instr (.tUndefined (.blxOdd (w.extractLsb' 1 10))) else .instr (.tBlxSuffix (w.extractLsb' 1 10)))
    else .instr (.tB (w.extractLsb' 0 11))
  else if w.getLsbD 11 then .instr (.tBlSuffix (w.extractLsb' 0 11)) else .instr (.tBlPrefix (w.extractLsb' 0 11))

/-- The instruction of a table word: `nbits` is 32 for an ARM row and 16 for a Thumb row. The bytes of the
word are laid out and read back in the same (little-endian) order, which leaves the value unchanged. -/
def decodeTableWord (nbits w : Nat) : Option Instr :=
  let d := if nbits = 32 then decodeArm (BitVec.ofNat 32 w) else decodeThumb (BitVec.ofNat 16 w)
  match d with
  | .instr i => some i
  | .rejected _ => none

/-- An instruction word: 32 bits in ARM state, 16 in Thumb state (30 R380). -/
inductive Code where
  | arm (w : BitVec 32)
  | thumb (h : BitVec 16)
deriving DecidableEq, Repr

/-- Decode in the instruction set the code belongs to (30 R380). -/
def decode : Code → Decoded
  | .arm w => decodeArm w
  | .thumb h => decodeThumb h

/-- The word of an instruction, from its row's layout (30, 46; opcode_table.json). -/
def encode : Instr → Code
  | .and c sf rn rd (.imm rot imm8) => .arm (cat 32 c.bits (cat 28 0b0010000#7 (cat 21 (BitVec.ofBool sf) (cat 20 rn (cat 16 rd (cat 12 rot imm8))))))
  | .and c sf rn rd (.shiftImm amount sh rm) => .arm (cat 32 c.bits (cat 28 0b0000000#7 (cat 21 (BitVec.ofBool sf) (cat 20 rn (cat 16 rd (cat 12 amount (cat 7 sh.bits (cat 5 0b0#1 rm))))))))
  | .and c sf rn rd (.shiftReg rs sh rm) => .arm (cat 32 c.bits (cat 28 0b0000000#7 (cat 21 (BitVec.ofBool sf) (cat 20 rn (cat 16 rd (cat 12 rs (cat 8 0b0#1 (cat 7 sh.bits (cat 5 0b1#1 rm)))))))))
  | .eor c sf rn rd (.imm rot imm8) => .arm (cat 32 c.bits (cat 28 0b0010001#7 (cat 21 (BitVec.ofBool sf) (cat 20 rn (cat 16 rd (cat 12 rot imm8))))))
  | .eor c sf rn rd (.shiftImm amount sh rm) => .arm (cat 32 c.bits (cat 28 0b0000001#7 (cat 21 (BitVec.ofBool sf) (cat 20 rn (cat 16 rd (cat 12 amount (cat 7 sh.bits (cat 5 0b0#1 rm))))))))
  | .eor c sf rn rd (.shiftReg rs sh rm) => .arm (cat 32 c.bits (cat 28 0b0000001#7 (cat 21 (BitVec.ofBool sf) (cat 20 rn (cat 16 rd (cat 12 rs (cat 8 0b0#1 (cat 7 sh.bits (cat 5 0b1#1 rm)))))))))
  | .sub c sf rn rd (.imm rot imm8) => .arm (cat 32 c.bits (cat 28 0b0010010#7 (cat 21 (BitVec.ofBool sf) (cat 20 rn (cat 16 rd (cat 12 rot imm8))))))
  | .sub c sf rn rd (.shiftImm amount sh rm) => .arm (cat 32 c.bits (cat 28 0b0000010#7 (cat 21 (BitVec.ofBool sf) (cat 20 rn (cat 16 rd (cat 12 amount (cat 7 sh.bits (cat 5 0b0#1 rm))))))))
  | .sub c sf rn rd (.shiftReg rs sh rm) => .arm (cat 32 c.bits (cat 28 0b0000010#7 (cat 21 (BitVec.ofBool sf) (cat 20 rn (cat 16 rd (cat 12 rs (cat 8 0b0#1 (cat 7 sh.bits (cat 5 0b1#1 rm)))))))))
  | .rsb c sf rn rd (.imm rot imm8) => .arm (cat 32 c.bits (cat 28 0b0010011#7 (cat 21 (BitVec.ofBool sf) (cat 20 rn (cat 16 rd (cat 12 rot imm8))))))
  | .rsb c sf rn rd (.shiftImm amount sh rm) => .arm (cat 32 c.bits (cat 28 0b0000011#7 (cat 21 (BitVec.ofBool sf) (cat 20 rn (cat 16 rd (cat 12 amount (cat 7 sh.bits (cat 5 0b0#1 rm))))))))
  | .rsb c sf rn rd (.shiftReg rs sh rm) => .arm (cat 32 c.bits (cat 28 0b0000011#7 (cat 21 (BitVec.ofBool sf) (cat 20 rn (cat 16 rd (cat 12 rs (cat 8 0b0#1 (cat 7 sh.bits (cat 5 0b1#1 rm)))))))))
  | .add c sf rn rd (.imm rot imm8) => .arm (cat 32 c.bits (cat 28 0b0010100#7 (cat 21 (BitVec.ofBool sf) (cat 20 rn (cat 16 rd (cat 12 rot imm8))))))
  | .add c sf rn rd (.shiftImm amount sh rm) => .arm (cat 32 c.bits (cat 28 0b0000100#7 (cat 21 (BitVec.ofBool sf) (cat 20 rn (cat 16 rd (cat 12 amount (cat 7 sh.bits (cat 5 0b0#1 rm))))))))
  | .add c sf rn rd (.shiftReg rs sh rm) => .arm (cat 32 c.bits (cat 28 0b0000100#7 (cat 21 (BitVec.ofBool sf) (cat 20 rn (cat 16 rd (cat 12 rs (cat 8 0b0#1 (cat 7 sh.bits (cat 5 0b1#1 rm)))))))))
  | .adc c sf rn rd (.imm rot imm8) => .arm (cat 32 c.bits (cat 28 0b0010101#7 (cat 21 (BitVec.ofBool sf) (cat 20 rn (cat 16 rd (cat 12 rot imm8))))))
  | .adc c sf rn rd (.shiftImm amount sh rm) => .arm (cat 32 c.bits (cat 28 0b0000101#7 (cat 21 (BitVec.ofBool sf) (cat 20 rn (cat 16 rd (cat 12 amount (cat 7 sh.bits (cat 5 0b0#1 rm))))))))
  | .adc c sf rn rd (.shiftReg rs sh rm) => .arm (cat 32 c.bits (cat 28 0b0000101#7 (cat 21 (BitVec.ofBool sf) (cat 20 rn (cat 16 rd (cat 12 rs (cat 8 0b0#1 (cat 7 sh.bits (cat 5 0b1#1 rm)))))))))
  | .sbc c sf rn rd (.imm rot imm8) => .arm (cat 32 c.bits (cat 28 0b0010110#7 (cat 21 (BitVec.ofBool sf) (cat 20 rn (cat 16 rd (cat 12 rot imm8))))))
  | .sbc c sf rn rd (.shiftImm amount sh rm) => .arm (cat 32 c.bits (cat 28 0b0000110#7 (cat 21 (BitVec.ofBool sf) (cat 20 rn (cat 16 rd (cat 12 amount (cat 7 sh.bits (cat 5 0b0#1 rm))))))))
  | .sbc c sf rn rd (.shiftReg rs sh rm) => .arm (cat 32 c.bits (cat 28 0b0000110#7 (cat 21 (BitVec.ofBool sf) (cat 20 rn (cat 16 rd (cat 12 rs (cat 8 0b0#1 (cat 7 sh.bits (cat 5 0b1#1 rm)))))))))
  | .rsc c sf rn rd (.imm rot imm8) => .arm (cat 32 c.bits (cat 28 0b0010111#7 (cat 21 (BitVec.ofBool sf) (cat 20 rn (cat 16 rd (cat 12 rot imm8))))))
  | .rsc c sf rn rd (.shiftImm amount sh rm) => .arm (cat 32 c.bits (cat 28 0b0000111#7 (cat 21 (BitVec.ofBool sf) (cat 20 rn (cat 16 rd (cat 12 amount (cat 7 sh.bits (cat 5 0b0#1 rm))))))))
  | .rsc c sf rn rd (.shiftReg rs sh rm) => .arm (cat 32 c.bits (cat 28 0b0000111#7 (cat 21 (BitVec.ofBool sf) (cat 20 rn (cat 16 rd (cat 12 rs (cat 8 0b0#1 (cat 7 sh.bits (cat 5 0b1#1 rm)))))))))
  | .tst c rn sbz (.imm rot imm8) => .arm (cat 32 c.bits (cat 28 0b00110001#8 (cat 20 rn (cat 16 sbz (cat 12 rot imm8)))))
  | .tst c rn sbz (.shiftImm amount sh rm) => .arm (cat 32 c.bits (cat 28 0b00010001#8 (cat 20 rn (cat 16 sbz (cat 12 amount (cat 7 sh.bits (cat 5 0b0#1 rm)))))))
  | .tst c rn sbz (.shiftReg rs sh rm) => .arm (cat 32 c.bits (cat 28 0b00010001#8 (cat 20 rn (cat 16 sbz (cat 12 rs (cat 8 0b0#1 (cat 7 sh.bits (cat 5 0b1#1 rm))))))))
  | .teq c rn sbz (.imm rot imm8) => .arm (cat 32 c.bits (cat 28 0b00110011#8 (cat 20 rn (cat 16 sbz (cat 12 rot imm8)))))
  | .teq c rn sbz (.shiftImm amount sh rm) => .arm (cat 32 c.bits (cat 28 0b00010011#8 (cat 20 rn (cat 16 sbz (cat 12 amount (cat 7 sh.bits (cat 5 0b0#1 rm)))))))
  | .teq c rn sbz (.shiftReg rs sh rm) => .arm (cat 32 c.bits (cat 28 0b00010011#8 (cat 20 rn (cat 16 sbz (cat 12 rs (cat 8 0b0#1 (cat 7 sh.bits (cat 5 0b1#1 rm))))))))
  | .cmp c rn sbz (.imm rot imm8) => .arm (cat 32 c.bits (cat 28 0b00110101#8 (cat 20 rn (cat 16 sbz (cat 12 rot imm8)))))
  | .cmp c rn sbz (.shiftImm amount sh rm) => .arm (cat 32 c.bits (cat 28 0b00010101#8 (cat 20 rn (cat 16 sbz (cat 12 amount (cat 7 sh.bits (cat 5 0b0#1 rm)))))))
  | .cmp c rn sbz (.shiftReg rs sh rm) => .arm (cat 32 c.bits (cat 28 0b00010101#8 (cat 20 rn (cat 16 sbz (cat 12 rs (cat 8 0b0#1 (cat 7 sh.bits (cat 5 0b1#1 rm))))))))
  | .cmn c rn sbz (.imm rot imm8) => .arm (cat 32 c.bits (cat 28 0b00110111#8 (cat 20 rn (cat 16 sbz (cat 12 rot imm8)))))
  | .cmn c rn sbz (.shiftImm amount sh rm) => .arm (cat 32 c.bits (cat 28 0b00010111#8 (cat 20 rn (cat 16 sbz (cat 12 amount (cat 7 sh.bits (cat 5 0b0#1 rm)))))))
  | .cmn c rn sbz (.shiftReg rs sh rm) => .arm (cat 32 c.bits (cat 28 0b00010111#8 (cat 20 rn (cat 16 sbz (cat 12 rs (cat 8 0b0#1 (cat 7 sh.bits (cat 5 0b1#1 rm))))))))
  | .orr c sf rn rd (.imm rot imm8) => .arm (cat 32 c.bits (cat 28 0b0011100#7 (cat 21 (BitVec.ofBool sf) (cat 20 rn (cat 16 rd (cat 12 rot imm8))))))
  | .orr c sf rn rd (.shiftImm amount sh rm) => .arm (cat 32 c.bits (cat 28 0b0001100#7 (cat 21 (BitVec.ofBool sf) (cat 20 rn (cat 16 rd (cat 12 amount (cat 7 sh.bits (cat 5 0b0#1 rm))))))))
  | .orr c sf rn rd (.shiftReg rs sh rm) => .arm (cat 32 c.bits (cat 28 0b0001100#7 (cat 21 (BitVec.ofBool sf) (cat 20 rn (cat 16 rd (cat 12 rs (cat 8 0b0#1 (cat 7 sh.bits (cat 5 0b1#1 rm)))))))))
  | .mov c sf sbz rd (.imm rot imm8) => .arm (cat 32 c.bits (cat 28 0b0011101#7 (cat 21 (BitVec.ofBool sf) (cat 20 sbz (cat 16 rd (cat 12 rot imm8))))))
  | .mov c sf sbz rd (.shiftImm amount sh rm) => .arm (cat 32 c.bits (cat 28 0b0001101#7 (cat 21 (BitVec.ofBool sf) (cat 20 sbz (cat 16 rd (cat 12 amount (cat 7 sh.bits (cat 5 0b0#1 rm))))))))
  | .mov c sf sbz rd (.shiftReg rs sh rm) => .arm (cat 32 c.bits (cat 28 0b0001101#7 (cat 21 (BitVec.ofBool sf) (cat 20 sbz (cat 16 rd (cat 12 rs (cat 8 0b0#1 (cat 7 sh.bits (cat 5 0b1#1 rm)))))))))
  | .bic c sf rn rd (.imm rot imm8) => .arm (cat 32 c.bits (cat 28 0b0011110#7 (cat 21 (BitVec.ofBool sf) (cat 20 rn (cat 16 rd (cat 12 rot imm8))))))
  | .bic c sf rn rd (.shiftImm amount sh rm) => .arm (cat 32 c.bits (cat 28 0b0001110#7 (cat 21 (BitVec.ofBool sf) (cat 20 rn (cat 16 rd (cat 12 amount (cat 7 sh.bits (cat 5 0b0#1 rm))))))))
  | .bic c sf rn rd (.shiftReg rs sh rm) => .arm (cat 32 c.bits (cat 28 0b0001110#7 (cat 21 (BitVec.ofBool sf) (cat 20 rn (cat 16 rd (cat 12 rs (cat 8 0b0#1 (cat 7 sh.bits (cat 5 0b1#1 rm)))))))))
  | .mvn c sf sbz rd (.imm rot imm8) => .arm (cat 32 c.bits (cat 28 0b0011111#7 (cat 21 (BitVec.ofBool sf) (cat 20 sbz (cat 16 rd (cat 12 rot imm8))))))
  | .mvn c sf sbz rd (.shiftImm amount sh rm) => .arm (cat 32 c.bits (cat 28 0b0001111#7 (cat 21 (BitVec.ofBool sf) (cat 20 sbz (cat 16 rd (cat 12 amount (cat 7 sh.bits (cat 5 0b0#1 rm))))))))
  | .mvn c sf sbz rd (.shiftReg rs sh rm) => .arm (cat 32 c.bits (cat 28 0b0001111#7 (cat 21 (BitVec.ofBool sf) (cat 20 sbz (cat 16 rd (cat 12 rs (cat 8 0b0#1 (cat 7 sh.bits (cat 5 0b1#1 rm)))))))))
  | .clz c sbo rd sbo2 rm => .arm (cat 32 c.bits (cat 28 0b00010110#8 (cat 20 sbo (cat 16 rd (cat 12 sbo2 (cat 8 0b0001#4 rm))))))
  | .mul c sf rd sbz rs rm => .arm (cat 32 c.bits (cat 28 0b0000000#7 (cat 21 (BitVec.ofBool sf) (cat 20 rd (cat 16 sbz (cat 12 rs (cat 8 0b1001#4 rm)))))))
  | .mla c sf rd rn rs rm => .arm (cat 32 c.bits (cat 28 0b0000001#7 (cat 21 (BitVec.ofBool sf) (cat 20 rd (cat 16 rn (cat 12 rs (cat 8 0b1001#4 rm)))))))
  | .umull c sf rdHi rdLo rs rm => .arm (cat 32 c.bits (cat 28 0b0000100#7 (cat 21 (BitVec.ofBool sf) (cat 20 rdHi (cat 16 rdLo (cat 12 rs (cat 8 0b1001#4 rm)))))))
  | .umlal c sf rdHi rdLo rs rm => .arm (cat 32 c.bits (cat 28 0b0000101#7 (cat 21 (BitVec.ofBool sf) (cat 20 rdHi (cat 16 rdLo (cat 12 rs (cat 8 0b1001#4 rm)))))))
  | .smull c sf rdHi rdLo rs rm => .arm (cat 32 c.bits (cat 28 0b0000110#7 (cat 21 (BitVec.ofBool sf) (cat 20 rdHi (cat 16 rdLo (cat 12 rs (cat 8 0b1001#4 rm)))))))
  | .smlal c sf rdHi rdLo rs rm => .arm (cat 32 c.bits (cat 28 0b0000111#7 (cat 21 (BitVec.ofBool sf) (cat 20 rdHi (cat 16 rdLo (cat 12 rs (cat 8 0b1001#4 rm)))))))
  | .smulxy c rd sbz rs y x rm => .arm (cat 32 c.bits (cat 28 0b00010110#8 (cat 20 rd (cat 16 sbz (cat 12 rs (cat 8 0b1#1 (cat 7 (BitVec.ofBool y) (cat 6 (BitVec.ofBool x) (cat 5 0b0#1 rm)))))))))
  | .smulwy c rd sbz rs y rm => .arm (cat 32 c.bits (cat 28 0b00010010#8 (cat 20 rd (cat 16 sbz (cat 12 rs (cat 8 0b1#1 (cat 7 (BitVec.ofBool y) (cat 6 0b10#2 rm))))))))
  | .smlaxy c rd rn rs y x rm => .arm (cat 32 c.bits (cat 28 0b00010000#8 (cat 20 rd (cat 16 rn (cat 12 rs (cat 8 0b1#1 (cat 7 (BitVec.ofBool y) (cat 6 (BitVec.ofBool x) (cat 5 0b0#1 rm)))))))))
  | .smlawy c rd rn rs y rm => .arm (cat 32 c.bits (cat 28 0b00010010#8 (cat 20 rd (cat 16 rn (cat 12 rs (cat 8 0b1#1 (cat 7 (BitVec.ofBool y) (cat 6 0b00#2 rm))))))))
  | .smlalxy c rdHi rdLo rs y x rm => .arm (cat 32 c.bits (cat 28 0b00010100#8 (cat 20 rdHi (cat 16 rdLo (cat 12 rs (cat 8 0b1#1 (cat 7 (BitVec.ofBool y) (cat 6 (BitVec.ofBool x) (cat 5 0b0#1 rm)))))))))
  | .qadd c rn rd sbz rm => .arm (cat 32 c.bits (cat 28 0b00010000#8 (cat 20 rn (cat 16 rd (cat 12 sbz (cat 8 0b0101#4 rm))))))
  | .qsub c rn rd sbz rm => .arm (cat 32 c.bits (cat 28 0b00010010#8 (cat 20 rn (cat 16 rd (cat 12 sbz (cat 8 0b0101#4 rm))))))
  | .qdadd c rn rd sbz rm => .arm (cat 32 c.bits (cat 28 0b00010100#8 (cat 20 rn (cat 16 rd (cat 12 sbz (cat 8 0b0101#4 rm))))))
  | .qdsub c rn rd sbz rm => .arm (cat 32 c.bits (cat 28 0b00010110#8 (cat 20 rn (cat 16 rd (cat 12 sbz (cat 8 0b0101#4 rm))))))
  | .ldr c p u w rn rd (.imm off12) => .arm (cat 32 c.bits (cat 28 0b010#3 (cat 25 (BitVec.ofBool p) (cat 24 (BitVec.ofBool u) (cat 23 0b0#1 (cat 22 (BitVec.ofBool w) (cat 21 0b1#1 (cat 20 rn (cat 16 rd off12)))))))))
  | .ldr c p u w rn rd (.reg amount sh rm) => .arm (cat 32 c.bits (cat 28 0b011#3 (cat 25 (BitVec.ofBool p) (cat 24 (BitVec.ofBool u) (cat 23 0b0#1 (cat 22 (BitVec.ofBool w) (cat 21 0b1#1 (cat 20 rn (cat 16 rd (cat 12 amount (cat 7 sh.bits (cat 5 0b0#1 rm))))))))))))
  | .ldrb c p u w rn rd (.imm off12) => .arm (cat 32 c.bits (cat 28 0b010#3 (cat 25 (BitVec.ofBool p) (cat 24 (BitVec.ofBool u) (cat 23 0b1#1 (cat 22 (BitVec.ofBool w) (cat 21 0b1#1 (cat 20 rn (cat 16 rd off12)))))))))
  | .ldrb c p u w rn rd (.reg amount sh rm) => .arm (cat 32 c.bits (cat 28 0b011#3 (cat 25 (BitVec.ofBool p) (cat 24 (BitVec.ofBool u) (cat 23 0b1#1 (cat 22 (BitVec.ofBool w) (cat 21 0b1#1 (cat 20 rn (cat 16 rd (cat 12 amount (cat 7 sh.bits (cat 5 0b0#1 rm))))))))))))
  | .str c p u w rn rd (.imm off12) => .arm (cat 32 c.bits (cat 28 0b010#3 (cat 25 (BitVec.ofBool p) (cat 24 (BitVec.ofBool u) (cat 23 0b0#1 (cat 22 (BitVec.ofBool w) (cat 21 0b0#1 (cat 20 rn (cat 16 rd off12)))))))))
  | .str c p u w rn rd (.reg amount sh rm) => .arm (cat 32 c.bits (cat 28 0b011#3 (cat 25 (BitVec.ofBool p) (cat 24 (BitVec.ofBool u) (cat 23 0b0#1 (cat 22 (BitVec.ofBool w) (cat 21 0b0#1 (cat 20 rn (cat 16 rd (cat 12 amount (cat 7 sh.bits (cat 5 0b0#1 rm))))))))))))
  | .strb c p u w rn rd (.imm off12) => .arm (cat 32 c.bits (cat 28 0b010#3 (cat 25 (BitVec.ofBool p) (cat 24 (BitVec.ofBool u) (cat 23 0b1#1 (cat 22 (BitVec.ofBool w) (cat 21 0b0#1 (cat 20 rn (cat 16 rd off12)))))))))
  | .strb c p u w rn rd (.reg amount sh rm) => .arm (cat 32 c.bits (cat 28 0b011#3 (cat 25 (BitVec.ofBool p) (cat 24 (BitVec.ofBool u) (cat 23 0b1#1 (cat 22 (BitVec.ofBool w) (cat 21 0b0#1 (cat 20 rn (cat 16 rd (cat 12 amount (cat 7 sh.bits (cat 5 0b0#1 rm))))))))))))
  | .ldrt c u rn rd (.imm off12) => .arm (cat 32 c.bits (cat 28 0b0100#4 (cat 24 (BitVec.ofBool u) (cat 23 0b011#3 (cat 20 rn (cat 16 rd off12))))))
  | .ldrt c u rn rd (.reg amount sh rm) => .arm (cat 32 c.bits (cat 28 0b0110#4 (cat 24 (BitVec.ofBool u) (cat 23 0b011#3 (cat 20 rn (cat 16 rd (cat 12 amount (cat 7 sh.bits (cat 5 0b0#1 rm)))))))))
  | .ldrbt c u rn rd (.imm off12) => .arm (cat 32 c.bits (cat 28 0b0100#4 (cat 24 (BitVec.ofBool u) (cat 23 0b111#3 (cat 20 rn (cat 16 rd off12))))))
  | .ldrbt c u rn rd (.reg amount sh rm) => .arm (cat 32 c.bits (cat 28 0b0110#4 (cat 24 (BitVec.ofBool u) (cat 23 0b111#3 (cat 20 rn (cat 16 rd (cat 12 amount (cat 7 sh.bits (cat 5 0b0#1 rm)))))))))
  | .strt c u rn rd (.imm off12) => .arm (cat 32 c.bits (cat 28 0b0100#4 (cat 24 (BitVec.ofBool u) (cat 23 0b010#3 (cat 20 rn (cat 16 rd off12))))))
  | .strt c u rn rd (.reg amount sh rm) => .arm (cat 32 c.bits (cat 28 0b0110#4 (cat 24 (BitVec.ofBool u) (cat 23 0b010#3 (cat 20 rn (cat 16 rd (cat 12 amount (cat 7 sh.bits (cat 5 0b0#1 rm)))))))))
  | .strbt c u rn rd (.imm off12) => .arm (cat 32 c.bits (cat 28 0b0100#4 (cat 24 (BitVec.ofBool u) (cat 23 0b110#3 (cat 20 rn (cat 16 rd off12))))))
  | .strbt c u rn rd (.reg amount sh rm) => .arm (cat 32 c.bits (cat 28 0b0110#4 (cat 24 (BitVec.ofBool u) (cat 23 0b110#3 (cat 20 rn (cat 16 rd (cat 12 amount (cat 7 sh.bits (cat 5 0b0#1 rm)))))))))
  | .ldrh c p u w rn rd (.imm immH immL) => .arm (cat 32 c.bits (cat 28 0b000#3 (cat 25 (BitVec.ofBool p) (cat 24 (BitVec.ofBool u) (cat 23 0b1#1 (cat 22 (BitVec.ofBool w) (cat 21 0b1#1 (cat 20 rn (cat 16 rd (cat 12 immH (cat 8 0b1011#4 immL)))))))))))
  | .ldrh c p u w rn rd (.reg sbz rm) => .arm (cat 32 c.bits (cat 28 0b000#3 (cat 25 (BitVec.ofBool p) (cat 24 (BitVec.ofBool u) (cat 23 0b0#1 (cat 22 (BitVec.ofBool w) (cat 21 0b1#1 (cat 20 rn (cat 16 rd (cat 12 sbz (cat 8 0b1011#4 rm)))))))))))
  | .ldrsh c p u w rn rd (.imm immH immL) => .arm (cat 32 c.bits (cat 28 0b000#3 (cat 25 (BitVec.ofBool p) (cat 24 (BitVec.ofBool u) (cat 23 0b1#1 (cat 22 (BitVec.ofBool w) (cat 21 0b1#1 (cat 20 rn (cat 16 rd (cat 12 immH (cat 8 0b1111#4 immL)))))))))))
  | .ldrsh c p u w rn rd (.reg sbz rm) => .arm (cat 32 c.bits (cat 28 0b000#3 (cat 25 (BitVec.ofBool p) (cat 24 (BitVec.ofBool u) (cat 23 0b0#1 (cat 22 (BitVec.ofBool w) (cat 21 0b1#1 (cat 20 rn (cat 16 rd (cat 12 sbz (cat 8 0b1111#4 rm)))))))))))
  | .ldrsb c p u w rn rd (.imm immH immL) => .arm (cat 32 c.bits (cat 28 0b000#3 (cat 25 (BitVec.ofBool p) (cat 24 (BitVec.ofBool u) (cat 23 0b1#1 (cat 22 (BitVec.ofBool w) (cat 21 0b1#1 (cat 20 rn (cat 16 rd (cat 12 immH (cat 8 0b1101#4 immL)))))))))))
  | .ldrsb c p u w rn rd (.reg sbz rm) => .arm (cat 32 c.bits (cat 28 0b000#3 (cat 25 (BitVec.ofBool p) (cat 24 (BitVec.ofBool u) (cat 23 0b0#1 (cat 22 (BitVec.ofBool w) (cat 21 0b1#1 (cat 20 rn (cat 16 rd (cat 12 sbz (cat 8 0b1101#4 rm)))))))))))
  | .strh c p u w rn rd (.imm immH immL) => .arm (cat 32 c.bits (cat 28 0b000#3 (cat 25 (BitVec.ofBool p) (cat 24 (BitVec.ofBool u) (cat 23 0b1#1 (cat 22 (BitVec.ofBool w) (cat 21 0b0#1 (cat 20 rn (cat 16 rd (cat 12 immH (cat 8 0b1011#4 immL)))))))))))
  | .strh c p u w rn rd (.reg sbz rm) => .arm (cat 32 c.bits (cat 28 0b000#3 (cat 25 (BitVec.ofBool p) (cat 24 (BitVec.ofBool u) (cat 23 0b0#1 (cat 22 (BitVec.ofBool w) (cat 21 0b0#1 (cat 20 rn (cat 16 rd (cat 12 sbz (cat 8 0b1011#4 rm)))))))))))
  | .ldrd c p u w rn rd (.imm immH immL) => .arm (cat 32 c.bits (cat 28 0b000#3 (cat 25 (BitVec.ofBool p) (cat 24 (BitVec.ofBool u) (cat 23 0b1#1 (cat 22 (BitVec.ofBool w) (cat 21 0b0#1 (cat 20 rn (cat 16 rd (cat 12 immH (cat 8 0b1101#4 immL)))))))))))
  | .ldrd c p u w rn rd (.reg sbz rm) => .arm (cat 32 c.bits (cat 28 0b000#3 (cat 25 (BitVec.ofBool p) (cat 24 (BitVec.ofBool u) (cat 23 0b0#1 (cat 22 (BitVec.ofBool w) (cat 21 0b0#1 (cat 20 rn (cat 16 rd (cat 12 sbz (cat 8 0b1101#4 rm)))))))))))
  | .strd c p u w rn rd (.imm immH immL) => .arm (cat 32 c.bits (cat 28 0b000#3 (cat 25 (BitVec.ofBool p) (cat 24 (BitVec.ofBool u) (cat 23 0b1#1 (cat 22 (BitVec.ofBool w) (cat 21 0b0#1 (cat 20 rn (cat 16 rd (cat 12 immH (cat 8 0b1111#4 immL)))))))))))
  | .strd c p u w rn rd (.reg sbz rm) => .arm (cat 32 c.bits (cat 28 0b000#3 (cat 25 (BitVec.ofBool p) (cat 24 (BitVec.ofBool u) (cat 23 0b0#1 (cat 22 (BitVec.ofBool w) (cat 21 0b0#1 (cat 20 rn (cat 16 rd (cat 12 sbz (cat 8 0b1111#4 rm)))))))))))
  | .pld u rn (.imm off12) => .arm (cat 32 0b11110101#8 (cat 24 (BitVec.ofBool u) (cat 23 0b101#3 (cat 20 rn (cat 16 0b1111#4 off12)))))
  | .pld u rn (.reg amount sh rm) => .arm (cat 32 0b11110111#8 (cat 24 (BitVec.ofBool u) (cat 23 0b101#3 (cat 20 rn (cat 16 0b1111#4 (cat 12 amount (cat 7 sh.bits (cat 5 0b0#1 rm))))))))
  | .ldm c p u w rn regs => .arm (cat 32 c.bits (cat 28 0b100#3 (cat 25 (BitVec.ofBool p) (cat 24 (BitVec.ofBool u) (cat 23 0b0#1 (cat 22 (BitVec.ofBool w) (cat 21 0b1#1 (cat 20 rn regs))))))))
  | .ldmUser c p u sbz rn regs => .arm (cat 32 c.bits (cat 28 0b100#3 (cat 25 (BitVec.ofBool p) (cat 24 (BitVec.ofBool u) (cat 23 0b1#1 (cat 22 (BitVec.ofBool sbz) (cat 21 0b1#1 (cat 20 rn (cat 16 0b0#1 regs)))))))))
  | .ldmReturn c p u w rn regs => .arm (cat 32 c.bits (cat 28 0b100#3 (cat 25 (BitVec.ofBool p) (cat 24 (BitVec.ofBool u) (cat 23 0b1#1 (cat 22 (BitVec.ofBool w) (cat 21 0b1#1 (cat 20 rn (cat 16 0b1#1 regs)))))))))
  | .stm c p u w rn regs => .arm (cat 32 c.bits (cat 28 0b100#3 (cat 25 (BitVec.ofBool p) (cat 24 (BitVec.ofBool u) (cat 23 0b0#1 (cat 22 (BitVec.ofBool w) (cat 21 0b0#1 (cat 20 rn regs))))))))
  | .stmUser c p u sbz rn regs => .arm (cat 32 c.bits (cat 28 0b100#3 (cat 25 (BitVec.ofBool p) (cat 24 (BitVec.ofBool u) (cat 23 0b1#1 (cat 22 (BitVec.ofBool sbz) (cat 21 0b0#1 (cat 20 rn regs))))))))
  | .swp c rn rd sbz rm => .arm (cat 32 c.bits (cat 28 0b00010000#8 (cat 20 rn (cat 16 rd (cat 12 sbz (cat 8 0b1001#4 rm))))))
  | .swpb c rn rd sbz rm => .arm (cat 32 c.bits (cat 28 0b00010100#8 (cat 20 rn (cat 16 rd (cat 12 sbz (cat 8 0b1001#4 rm))))))
  | .b c imm24 => .arm (cat 32 c.bits (cat 28 0b1010#4 imm24))
  | .bl c imm24 => .arm (cat 32 c.bits (cat 28 0b1011#4 imm24))
  | .blxImm h imm24 => .arm (cat 32 0b1111101#7 (cat 25 (BitVec.ofBool h) imm24))
  | .blxReg c sbo sbo2 sbo3 rm => .arm (cat 32 c.bits (cat 28 0b00010010#8 (cat 20 sbo (cat 16 sbo2 (cat 12 sbo3 (cat 8 0b0011#4 rm))))))
  | .bx c sbo sbo2 sbo3 rm => .arm (cat 32 c.bits (cat 28 0b00010010#8 (cat 20 sbo (cat 16 sbo2 (cat 12 sbo3 (cat 8 0b0001#4 rm))))))
  | .mrs c r sbo rd sbz sbz2 => .arm (cat 32 c.bits (cat 28 0b00010#5 (cat 23 (BitVec.ofBool r) (cat 22 0b00#2 (cat 20 sbo (cat 16 rd (cat 12 sbz (cat 8 0b0000#4 sbz2))))))))
  | .msrImm c r mask sbo rot imm8 => .arm (cat 32 c.bits (cat 28 0b00110#5 (cat 23 (BitVec.ofBool r) (cat 22 0b10#2 (cat 20 mask (cat 16 sbo (cat 12 rot imm8)))))))
  | .msrReg c r mask sbo sbz rm => .arm (cat 32 c.bits (cat 28 0b00010#5 (cat 23 (BitVec.ofBool r) (cat 22 0b10#2 (cat 20 mask (cat 16 sbo (cat 12 sbz (cat 8 0b0000#4 rm))))))))
  | .swi c imm24 => .arm (cat 32 c.bits (cat 28 0b1111#4 imm24))
  | .bkpt immHi immLo => .arm (cat 32 0b111000010010#12 (cat 20 immHi (cat 8 0b0111#4 immLo)))
  | .cdp c opc1 crn crd cp opc2 crm => .arm (cat 32 c.bits (cat 28 0b1110#4 (cat 24 opc1 (cat 20 crn (cat 16 crd (cat 12 cp (cat 8 opc2 (cat 5 0b0#1 crm))))))))
  | .mcr c opc1 crn rd cp opc2 crm => .arm (cat 32 c.bits (cat 28 0b1110#4 (cat 24 opc1 (cat 21 0b0#1 (cat 20 crn (cat 16 rd (cat 12 cp (cat 8 opc2 (cat 5 0b1#1 crm)))))))))
  | .mrc c opc1 crn rd cp opc2 crm => .arm (cat 32 c.bits (cat 28 0b1110#4 (cat 24 opc1 (cat 21 0b1#1 (cat 20 crn (cat 16 rd (cat 12 cp (cat 8 opc2 (cat 5 0b1#1 crm)))))))))
  | .ldc c p u n w rn crd cp off8 => .arm (cat 32 c.bits (cat 28 0b110#3 (cat 25 (BitVec.ofBool p) (cat 24 (BitVec.ofBool u) (cat 23 (BitVec.ofBool n) (cat 22 (BitVec.ofBool w) (cat 21 0b1#1 (cat 20 rn (cat 16 crd (cat 12 cp off8))))))))))
  | .stc c p u n w rn crd cp off8 => .arm (cat 32 c.bits (cat 28 0b110#3 (cat 25 (BitVec.ofBool p) (cat 24 (BitVec.ofBool u) (cat 23 (BitVec.ofBool n) (cat 22 (BitVec.ofBool w) (cat 21 0b0#1 (cat 20 rn (cat 16 crd (cat 12 cp off8))))))))))
  | .mcrr c rn rd cp opc crm => .arm (cat 32 c.bits (cat 28 0b11000100#8 (cat 20 rn (cat 16 rd (cat 12 cp (cat 8 opc crm))))))
  | .mrrc c rn rd cp opc crm => .arm (cat 32 c.bits (cat 28 0b11000101#8 (cat 20 rn (cat 16 rd (cat 12 cp (cat 8 opc crm))))))
  | .cdp2 opc1 crn crd cp opc2 crm => .arm (cat 32 0b11111110#8 (cat 24 opc1 (cat 20 crn (cat 16 crd (cat 12 cp (cat 8 opc2 (cat 5 0b0#1 crm)))))))
  | .mcr2 opc1 crn rd cp opc2 crm => .arm (cat 32 0b11111110#8 (cat 24 opc1 (cat 21 0b0#1 (cat 20 crn (cat 16 rd (cat 12 cp (cat 8 opc2 (cat 5 0b1#1 crm))))))))
  | .mrc2 opc1 crn rd cp opc2 crm => .arm (cat 32 0b11111110#8 (cat 24 opc1 (cat 21 0b1#1 (cat 20 crn (cat 16 rd (cat 12 cp (cat 8 opc2 (cat 5 0b1#1 crm))))))))
  | .ldc2 p u n w rn crd cp off8 => .arm (cat 32 0b1111110#7 (cat 25 (BitVec.ofBool p) (cat 24 (BitVec.ofBool u) (cat 23 (BitVec.ofBool n) (cat 22 (BitVec.ofBool w) (cat 21 0b1#1 (cat 20 rn (cat 16 crd (cat 12 cp off8)))))))))
  | .stc2 p u n w rn crd cp off8 => .arm (cat 32 0b1111110#7 (cat 25 (BitVec.ofBool p) (cat 24 (BitVec.ofBool u) (cat 23 (BitVec.ofBool n) (cat 22 (BitVec.ofBool w) (cat 21 0b0#1 (cat 20 rn (cat 16 crd (cat 12 cp off8)))))))))
  | .undefinedSpace c any any2 => .arm (cat 32 c.bits (cat 28 0b011#3 (cat 25 any (cat 5 0b1#1 any2))))
  | .mia c rs acc rm => .arm (cat 32 c.bits (cat 28 0b111000100000#12 (cat 16 rs (cat 12 0b0000#4 (cat 8 acc (cat 5 0b1#1 rm))))))
  | .miaph c rs acc rm => .arm (cat 32 c.bits (cat 28 0b111000101000#12 (cat 16 rs (cat 12 0b0000#4 (cat 8 acc (cat 5 0b1#1 rm))))))
  | .miabb c rs acc rm => .arm (cat 32 c.bits (cat 28 0b111000101100#12 (cat 16 rs (cat 12 0b0000#4 (cat 8 acc (cat 5 0b1#1 rm))))))
  | .miabt c rs acc rm => .arm (cat 32 c.bits (cat 28 0b111000101101#12 (cat 16 rs (cat 12 0b0000#4 (cat 8 acc (cat 5 0b1#1 rm))))))
  | .miatb c rs acc rm => .arm (cat 32 c.bits (cat 28 0b111000101110#12 (cat 16 rs (cat 12 0b0000#4 (cat 8 acc (cat 5 0b1#1 rm))))))
  | .miatt c rs acc rm => .arm (cat 32 c.bits (cat 28 0b111000101111#12 (cat 16 rs (cat 12 0b0000#4 (cat 8 acc (cat 5 0b1#1 rm))))))
  | .mar c rdHi rdLo acc => .arm (cat 32 c.bits (cat 28 0b11000100#8 (cat 20 rdHi (cat 16 rdLo (cat 12 0b000000000#9 acc)))))
  | .mra c rdHi rdLo acc => .arm (cat 32 c.bits (cat 28 0b11000101#8 (cat 20 rdHi (cat 16 rdLo (cat 12 0b000000000#9 acc)))))
  | .mrcMainId c rd => .arm (cat 32 c.bits (cat 28 0b111000010000#12 (cat 16 rd 0b111100010000#12)))
  | .mrcL2Id c rd => .arm (cat 32 c.bits (cat 28 0b111000110000#12 (cat 16 rd 0b111100010000#12)))
  | .mrcCacheType c rd => .arm (cat 32 c.bits (cat 28 0b111000010000#12 (cat 16 rd 0b111100110000#12)))
  | .mrcL2CacheType c rd => .arm (cat 32 c.bits (cat 28 0b111000110000#12 (cat 16 rd 0b111100110000#12)))
  | .mcrControl c rd => .arm (cat 32 c.bits (cat 28 0b111000000001#12 (cat 16 rd 0b111100010000#12)))
  | .mrcControl c rd => .arm (cat 32 c.bits (cat 28 0b111000010001#12 (cat 16 rd 0b111100010000#12)))
  | .mcrAuxControl c rd => .arm (cat 32 c.bits (cat 28 0b111000000001#12 (cat 16 rd 0b111100110000#12)))
  | .mrcAuxControl c rd => .arm (cat 32 c.bits (cat 28 0b111000010001#12 (cat 16 rd 0b111100110000#12)))
  | .mcrTtBase c rd => .arm (cat 32 c.bits (cat 28 0b111000000010#12 (cat 16 rd 0b111100010000#12)))
  | .mrcTtBase c rd => .arm (cat 32 c.bits (cat 28 0b111000010010#12 (cat 16 rd 0b111100010000#12)))
  | .mcrDacr c rd => .arm (cat 32 c.bits (cat 28 0b111000000011#12 (cat 16 rd 0b111100010000#12)))
  | .mrcDacr c rd => .arm (cat 32 c.bits (cat 28 0b111000010011#12 (cat 16 rd 0b111100010000#12)))
  | .mcrFsr c rd => .arm (cat 32 c.bits (cat 28 0b111000000101#12 (cat 16 rd 0b111100010000#12)))
  | .mrcFsr c rd => .arm (cat 32 c.bits (cat 28 0b111000010101#12 (cat 16 rd 0b111100010000#12)))
  | .mcrFar c rd => .arm (cat 32 c.bits (cat 28 0b111000000110#12 (cat 16 rd 0b111100010000#12)))
  | .mrcFar c rd => .arm (cat 32 c.bits (cat 28 0b111000010110#12 (cat 16 rd 0b111100010000#12)))
  | .mcrDcLock c rd => .arm (cat 32 c.bits (cat 28 0b111000001001#12 (cat 16 rd 0b111100010110#12)))
  | .mrcDcLock c rd => .arm (cat 32 c.bits (cat 28 0b111000011001#12 (cat 16 rd 0b111100010110#12)))
  | .mcrDcLockLegacy c rd => .arm (cat 32 c.bits (cat 28 0b111000001001#12 (cat 16 rd 0b111100010010#12)))
  | .mrcDcLockLegacy c rd => .arm (cat 32 c.bits (cat 28 0b111000011001#12 (cat 16 rd 0b111100010010#12)))
  | .mcrPid c rd => .arm (cat 32 c.bits (cat 28 0b111000001101#12 (cat 16 rd 0b111100010000#12)))
  | .mrcPid c rd => .arm (cat 32 c.bits (cat 28 0b111000011101#12 (cat 16 rd 0b111100010000#12)))
  | .mcrIbr0 c rd => .arm (cat 32 c.bits (cat 28 0b111000001110#12 (cat 16 rd 0b111100011000#12)))
  | .mrcIbr0 c rd => .arm (cat 32 c.bits (cat 28 0b111000011110#12 (cat 16 rd 0b111100011000#12)))
  | .mcrIbr1 c rd => .arm (cat 32 c.bits (cat 28 0b111000001110#12 (cat 16 rd 0b111100011001#12)))
  | .mrcIbr1 c rd => .arm (cat 32 c.bits (cat 28 0b111000011110#12 (cat 16 rd 0b111100011001#12)))
  | .mcrDbr0 c rd => .arm (cat 32 c.bits (cat 28 0b111000001110#12 (cat 16 rd 0b111100010000#12)))
  | .mrcDbr0 c rd => .arm (cat 32 c.bits (cat 28 0b111000011110#12 (cat 16 rd 0b111100010000#12)))
  | .mcrDbr1 c rd => .arm (cat 32 c.bits (cat 28 0b111000001110#12 (cat 16 rd 0b111100010011#12)))
  | .mrcDbr1 c rd => .arm (cat 32 c.bits (cat 28 0b111000011110#12 (cat 16 rd 0b111100010011#12)))
  | .mcrDbcon c rd => .arm (cat 32 c.bits (cat 28 0b111000001110#12 (cat 16 rd 0b111100010100#12)))
  | .mrcDbcon c rd => .arm (cat 32 c.bits (cat 28 0b111000011110#12 (cat 16 rd 0b111100010100#12)))
  | .mcrCpar c rd => .arm (cat 32 c.bits (cat 28 0b111000001111#12 (cat 16 rd 0b111100010001#12)))
  | .mrcCpar c rd => .arm (cat 32 c.bits (cat 28 0b111000011111#12 (cat 16 rd 0b111100010001#12)))
  | .invIcacheBtb c rd => .arm (cat 32 c.bits (cat 28 0b111000000111#12 (cat 16 rd 0b111100010101#12)))
  | .invIcacheLine c rd => .arm (cat 32 c.bits (cat 28 0b111000000111#12 (cat 16 rd 0b111100110101#12)))
  | .invBtb c rd => .arm (cat 32 c.bits (cat 28 0b111000000111#12 (cat 16 rd 0b111111010101#12)))
  | .invDcache c rd => .arm (cat 32 c.bits (cat 28 0b111000000111#12 (cat 16 rd 0b111100010110#12)))
  | .invDcacheLine c rd => .arm (cat 32 c.bits (cat 28 0b111000000111#12 (cat 16 rd 0b111100110110#12)))
  | .invCachesBtb c rd => .arm (cat 32 c.bits (cat 28 0b111000000111#12 (cat 16 rd 0b111100010111#12)))
  | .cleanDcacheMva c rd => .arm (cat 32 c.bits (cat 28 0b111000000111#12 (cat 16 rd 0b111100111010#12)))
  | .cleanDcacheSetWay c rd => .arm (cat 32 c.bits (cat 28 0b111000000111#12 (cat 16 rd 0b111101011010#12)))
  | .cleanInvDcacheMva c rd => .arm (cat 32 c.bits (cat 28 0b111000000111#12 (cat 16 rd 0b111100111110#12)))
  | .cleanInvDcacheSetWay c rd => .arm (cat 32 c.bits (cat 28 0b111000000111#12 (cat 16 rd 0b111101011110#12)))
  | .prefetchFlush c rd => .arm (cat 32 c.bits (cat 28 0b111000000111#12 (cat 16 rd 0b111110010101#12)))
  | .dataWriteBarrier c rd => .arm (cat 32 c.bits (cat 28 0b111000000111#12 (cat 16 rd 0b111110011010#12)))
  | .dataMemoryBarrier c rd => .arm (cat 32 c.bits (cat 28 0b111000000111#12 (cat 16 rd 0b111110111010#12)))
  | .invL2Mva c rd => .arm (cat 32 c.bits (cat 28 0b111000100111#12 (cat 16 rd 0b111100110111#12)))
  | .cleanL2Mva c rd => .arm (cat 32 c.bits (cat 28 0b111000100111#12 (cat 16 rd 0b111100111011#12)))
  | .cleanL2SetWay c rd => .arm (cat 32 c.bits (cat 28 0b111000100111#12 (cat 16 rd 0b111101011011#12)))
  | .cleanInvL2SetWay c rd => .arm (cat 32 c.bits (cat 28 0b111000100111#12 (cat 16 rd 0b111101011111#12)))
  | .allocDcacheLine c rd => .arm (cat 32 c.bits (cat 28 0b111000000111#12 (cat 16 rd 0b111110110010#12)))
  | .invTlbs c rd => .arm (cat 32 c.bits (cat 28 0b111000001000#12 (cat 16 rd 0b111100010111#12)))
  | .invItlb c rd => .arm (cat 32 c.bits (cat 28 0b111000001000#12 (cat 16 rd 0b111100010101#12)))
  | .invItlbEntry c rd => .arm (cat 32 c.bits (cat 28 0b111000001000#12 (cat 16 rd 0b111100110101#12)))
  | .invDtlb c rd => .arm (cat 32 c.bits (cat 28 0b111000001000#12 (cat 16 rd 0b111100010110#12)))
  | .invDtlbEntry c rd => .arm (cat 32 c.bits (cat 28 0b111000001000#12 (cat 16 rd 0b111100110110#12)))
  | .lockIcacheLine c rd => .arm (cat 32 c.bits (cat 28 0b111000001001#12 (cat 16 rd 0b111100010101#12)))
  | .lockIcacheLineLegacy c rd => .arm (cat 32 c.bits (cat 28 0b111000001001#12 (cat 16 rd 0b111100010001#12)))
  | .unlockIcache c rd => .arm (cat 32 c.bits (cat 28 0b111000001001#12 (cat 16 rd 0b111100110101#12)))
  | .unlockIcacheLegacy c rd => .arm (cat 32 c.bits (cat 28 0b111000001001#12 (cat 16 rd 0b111100110001#12)))
  | .unlockDcache c rd => .arm (cat 32 c.bits (cat 28 0b111000001001#12 (cat 16 rd 0b111100110110#12)))
  | .unlockDcacheLegacy c rd => .arm (cat 32 c.bits (cat 28 0b111000001001#12 (cat 16 rd 0b111100110010#12)))
  | .lockL2Line c rd => .arm (cat 32 c.bits (cat 28 0b111000101001#12 (cat 16 rd 0b111100010101#12)))
  | .allocLockL2Line c rd => .arm (cat 32 c.bits (cat 28 0b111000101001#12 (cat 16 rd 0b111101010101#12)))
  | .unlockL2 c rd => .arm (cat 32 c.bits (cat 28 0b111000101001#12 (cat 16 rd 0b111100110101#12)))
  | .lockItlbEntry c rd => .arm (cat 32 c.bits (cat 28 0b111000001010#12 (cat 16 rd 0b111100010100#12)))
  | .unlockItlb c rd => .arm (cat 32 c.bits (cat 28 0b111000001010#12 (cat 16 rd 0b111100110100#12)))
  | .lockDtlbEntry c rd => .arm (cat 32 c.bits (cat 28 0b111000001010#12 (cat 16 rd 0b111100011000#12)))
  | .unlockDtlb c rd => .arm (cat 32 c.bits (cat 28 0b111000001010#12 (cat 16 rd 0b111100111000#12)))
  | .mcrPmnc c rd => .arm (cat 32 c.bits (cat 28 0b111000000000#12 (cat 16 rd 0b111000010001#12)))
  | .mrcPmnc c rd => .arm (cat 32 c.bits (cat 28 0b111000010000#12 (cat 16 rd 0b111000010001#12)))
  | .mcrCcnt c rd => .arm (cat 32 c.bits (cat 28 0b111000000001#12 (cat 16 rd 0b111000010001#12)))
  | .mrcCcnt c rd => .arm (cat 32 c.bits (cat 28 0b111000010001#12 (cat 16 rd 0b111000010001#12)))
  | .mcrInten c rd => .arm (cat 32 c.bits (cat 28 0b111000000100#12 (cat 16 rd 0b111000010001#12)))
  | .mrcInten c rd => .arm (cat 32 c.bits (cat 28 0b111000010100#12 (cat 16 rd 0b111000010001#12)))
  | .mcrFlag c rd => .arm (cat 32 c.bits (cat 28 0b111000000101#12 (cat 16 rd 0b111000010001#12)))
  | .mrcFlag c rd => .arm (cat 32 c.bits (cat 28 0b111000010101#12 (cat 16 rd 0b111000010001#12)))
  | .mcrEvtsel c rd => .arm (cat 32 c.bits (cat 28 0b111000001000#12 (cat 16 rd 0b111000010001#12)))
  | .mrcEvtsel c rd => .arm (cat 32 c.bits (cat 28 0b111000011000#12 (cat 16 rd 0b111000010001#12)))
  | .mcrPmn0 c rd => .arm (cat 32 c.bits (cat 28 0b111000000000#12 (cat 16 rd 0b111000010010#12)))
  | .mrcPmn0 c rd => .arm (cat 32 c.bits (cat 28 0b111000010000#12 (cat 16 rd 0b111000010010#12)))
  | .mcrPmn1 c rd => .arm (cat 32 c.bits (cat 28 0b111000000001#12 (cat 16 rd 0b111000010010#12)))
  | .mrcPmn1 c rd => .arm (cat 32 c.bits (cat 28 0b111000010001#12 (cat 16 rd 0b111000010010#12)))
  | .mcrPmn2 c rd => .arm (cat 32 c.bits (cat 28 0b111000000010#12 (cat 16 rd 0b111000010010#12)))
  | .mrcPmn2 c rd => .arm (cat 32 c.bits (cat 28 0b111000010010#12 (cat 16 rd 0b111000010010#12)))
  | .mcrPmn3 c rd => .arm (cat 32 c.bits (cat 28 0b111000000011#12 (cat 16 rd 0b111000010010#12)))
  | .mrcPmn3 c rd => .arm (cat 32 c.bits (cat 28 0b111000010011#12 (cat 16 rd 0b111000010010#12)))
  | .mcrCclkcfg c rd => .arm (cat 32 c.bits (cat 28 0b111000000110#12 (cat 16 rd 0b111000010000#12)))
  | .mrcCclkcfg c rd => .arm (cat 32 c.bits (cat 28 0b111000010110#12 (cat 16 rd 0b111000010000#12)))
  | .mcrPwrmode c rd => .arm (cat 32 c.bits (cat 28 0b111000000111#12 (cat 16 rd 0b111000010000#12)))
  | .mrcPwrmode c rd => .arm (cat 32 c.bits (cat 28 0b111000010111#12 (cat 16 rd 0b111000010000#12)))
  | .mcrTx c rd => .arm (cat 32 c.bits (cat 28 0b111000001000#12 (cat 16 rd 0b111000010000#12)))
  | .mrcRx c rd => .arm (cat 32 c.bits (cat 28 0b111000011001#12 (cat 16 rd 0b111000010000#12)))
  | .mcrDcsr c rd => .arm (cat 32 c.bits (cat 28 0b111000001010#12 (cat 16 rd 0b111000010000#12)))
  | .mrcDcsr c rd => .arm (cat 32 c.bits (cat 28 0b111000011010#12 (cat 16 rd 0b111000010000#12)))
  | .mrcTbreg c rd => .arm (cat 32 c.bits (cat 28 0b111000011011#12 (cat 16 rd 0b111000010000#12)))
  | .mcrChkpt0 c rd => .arm (cat 32 c.bits (cat 28 0b111000001100#12 (cat 16 rd 0b111000010000#12)))
  | .mrcChkpt0 c rd => .arm (cat 32 c.bits (cat 28 0b111000011100#12 (cat 16 rd 0b111000010000#12)))
  | .mcrChkpt1 c rd => .arm (cat 32 c.bits (cat 28 0b111000001101#12 (cat 16 rd 0b111000010000#12)))
  | .mrcChkpt1 c rd => .arm (cat 32 c.bits (cat 28 0b111000011101#12 (cat 16 rd 0b111000010000#12)))
  | .mcrTxrxctrl c rd => .arm (cat 32 c.bits (cat 28 0b111000001110#12 (cat 16 rd 0b111000010000#12)))
  | .mrcTxrxctrl c rd => .arm (cat 32 c.bits (cat 28 0b111000011110#12 (cat 16 rd 0b111000010000#12)))
  | .ldcP14 c p u n w rn crd off8 => .arm (cat 32 c.bits (cat 28 0b110#3 (cat 25 (BitVec.ofBool p) (cat 24 (BitVec.ofBool u) (cat 23 (BitVec.ofBool n) (cat 22 (BitVec.ofBool w) (cat 21 0b1#1 (cat 20 rn (cat 16 crd (cat 12 0b1110#4 off8))))))))))
  | .stcP14 c p u n w rn crd off8 => .arm (cat 32 c.bits (cat 28 0b110#3 (cat 25 (BitVec.ofBool p) (cat 24 (BitVec.ofBool u) (cat 23 (BitVec.ofBool n) (cat 22 (BitVec.ofBool w) (cat 21 0b0#1 (cat 20 rn (cat 16 crd (cat 12 0b1110#4 off8))))))))))
  | .mcrErrlog c rd => .arm (cat 32 c.bits (cat 28 0b111000000000#12 (cat 16 rd 0b011100010010#12)))
  | .mrcErrlog c rd => .arm (cat 32 c.bits (cat 28 0b111000010000#12 (cat 16 rd 0b011100010010#12)))
  | .mcrErradrl c rd => .arm (cat 32 c.bits (cat 28 0b111000000001#12 (cat 16 rd 0b011100010010#12)))
  | .mrcErradrl c rd => .arm (cat 32 c.bits (cat 28 0b111000010001#12 (cat 16 rd 0b011100010010#12)))
  | .mcrErradru c rd => .arm (cat 32 c.bits (cat 28 0b111000000010#12 (cat 16 rd 0b011100010010#12)))
  | .mrcErradru c rd => .arm (cat 32 c.bits (cat 28 0b111000010010#12 (cat 16 rd 0b011100010010#12)))
  | .tLsl (.imm imm5 rm rd) => .thumb (cat 16 0b00000#5 (cat 11 imm5 (cat 6 rm rd)))
  | .tLsr (.imm imm5 rm rd) => .thumb (cat 16 0b00001#5 (cat 11 imm5 (cat 6 rm rd)))
  | .tAsr (.imm imm5 rm rd) => .thumb (cat 16 0b00010#5 (cat 11 imm5 (cat 6 rm rd)))
  | .tAdd (.reg rm rn rd) => .thumb (cat 16 0b0001100#7 (cat 9 rm (cat 6 rn rd)))
  | .tSub (.reg rm rn rd) => .thumb (cat 16 0b0001101#7 (cat 9 rm (cat 6 rn rd)))
  | .tAdd (.imm3 imm3 rn rd) => .thumb (cat 16 0b0001110#7 (cat 9 imm3 (cat 6 rn rd)))
  | .tSub (.imm3 imm3 rn rd) => .thumb (cat 16 0b0001111#7 (cat 9 imm3 (cat 6 rn rd)))
  | .tMovImm8 rd imm8 => .thumb (cat 16 0b00100#5 (cat 11 rd imm8))
  | .tCmp (.imm8 rn imm8) => .thumb (cat 16 0b00101#5 (cat 11 rn imm8))
  | .tAdd (.imm8 rd imm8) => .thumb (cat 16 0b00110#5 (cat 11 rd imm8))
  | .tSub (.imm8 rd imm8) => .thumb (cat 16 0b00111#5 (cat 11 rd imm8))
  | .tAnd rm rd => .thumb (cat 16 0b0100000000#10 (cat 6 rm rd))
  | .tEor rm rd => .thumb (cat 16 0b0100000001#10 (cat 6 rm rd))
  | .tLsl (.reg rm rd) => .thumb (cat 16 0b0100000010#10 (cat 6 rm rd))
  | .tLsr (.reg rm rd) => .thumb (cat 16 0b0100000011#10 (cat 6 rm rd))
  | .tAsr (.reg rm rd) => .thumb (cat 16 0b0100000100#10 (cat 6 rm rd))
  | .tAdc rm rd => .thumb (cat 16 0b0100000101#10 (cat 6 rm rd))
  | .tSbc rm rd => .thumb (cat 16 0b0100000110#10 (cat 6 rm rd))
  | .tRorReg rm rd => .thumb (cat 16 0b0100000111#10 (cat 6 rm rd))
  | .tTst rm rd => .thumb (cat 16 0b0100001000#10 (cat 6 rm rd))
  | .tNeg rm rd => .thumb (cat 16 0b0100001001#10 (cat 6 rm rd))
  | .tCmp (.reg rm rd) => .thumb (cat 16 0b0100001010#10 (cat 6 rm rd))
  | .tCmn rm rd => .thumb (cat 16 0b0100001011#10 (cat 6 rm rd))
  | .tOrr rm rd => .thumb (cat 16 0b0100001100#10 (cat 6 rm rd))
  | .tMul rm rd => .thumb (cat 16 0b0100001101#10 (cat 6 rm rd))
  | .tBic rm rd => .thumb (cat 16 0b0100001110#10 (cat 6 rm rd))
  | .tMvn rm rd => .thumb (cat 16 0b0100001111#10 (cat 6 rm rd))
  | .tAddHi h1 h2 rm rd => .thumb (cat 16 0b01000100#8 (cat 8 (BitVec.ofBool h1) (cat 7 (BitVec.ofBool h2) (cat 6 rm rd))))
  | .tCmpHi h1 h2 rm rn => .thumb (cat 16 0b01000101#8 (cat 8 (BitVec.ofBool h1) (cat 7 (BitVec.ofBool h2) (cat 6 rm rn))))
  | .tMovHi h1 h2 rm rd => .thumb (cat 16 0b01000110#8 (cat 8 (BitVec.ofBool h1) (cat 7 (BitVec.ofBool h2) (cat 6 rm rd))))
  | .tBx h2 rm sbz => .thumb (cat 16 0b010001110#9 (cat 7 (BitVec.ofBool h2) (cat 6 rm sbz)))
  | .tBlxReg h2 rm sbz => .thumb (cat 16 0b010001111#9 (cat 7 (BitVec.ofBool h2) (cat 6 rm sbz)))
  | .tLdr rd (.pc imm8) => .thumb (cat 16 0b01001#5 (cat 11 rd imm8))
  | .tStr rd (.reg rm rn) => .thumb (cat 16 0b0101000#7 (cat 9 rm (cat 6 rn rd)))
  | .tStrh rd (.reg rm rn) => .thumb (cat 16 0b0101001#7 (cat 9 rm (cat 6 rn rd)))
  | .tStrb rd (.reg rm rn) => .thumb (cat 16 0b0101010#7 (cat 9 rm (cat 6 rn rd)))
  | .tLdrsbReg rm rn rd => .thumb (cat 16 0b0101011#7 (cat 9 rm (cat 6 rn rd)))
  | .tLdr rd (.reg rm rn) => .thumb (cat 16 0b0101100#7 (cat 9 rm (cat 6 rn rd)))
  | .tLdrh rd (.reg rm rn) => .thumb (cat 16 0b0101101#7 (cat 9 rm (cat 6 rn rd)))
  | .tLdrb rd (.reg rm rn) => .thumb (cat 16 0b0101110#7 (cat 9 rm (cat 6 rn rd)))
  | .tLdrshReg rm rn rd => .thumb (cat 16 0b0101111#7 (cat 9 rm (cat 6 rn rd)))
  | .tStr rd (.imm imm5 rn) => .thumb (cat 16 0b01100#5 (cat 11 imm5 (cat 6 rn rd)))
  | .tLdr rd (.imm imm5 rn) => .thumb (cat 16 0b01101#5 (cat 11 imm5 (cat 6 rn rd)))
  | .tStrb rd (.imm imm5 rn) => .thumb (cat 16 0b01110#5 (cat 11 imm5 (cat 6 rn rd)))
  | .tLdrb rd (.imm imm5 rn) => .thumb (cat 16 0b01111#5 (cat 11 imm5 (cat 6 rn rd)))
  | .tStrh rd (.imm imm5 rn) => .thumb (cat 16 0b10000#5 (cat 11 imm5 (cat 6 rn rd)))
  | .tLdrh rd (.imm imm5 rn) => .thumb (cat 16 0b10001#5 (cat 11 imm5 (cat 6 rn rd)))
  | .tStr rd (.sp imm8) => .thumb (cat 16 0b10010#5 (cat 11 rd imm8))
  | .tLdr rd (.sp imm8) => .thumb (cat 16 0b10011#5 (cat 11 rd imm8))
  | .tAddPc rd imm8 => .thumb (cat 16 0b10100#5 (cat 11 rd imm8))
  | .tAddSp rd imm8 => .thumb (cat 16 0b10101#5 (cat 11 rd imm8))
  | .tIncSp imm7 => .thumb (cat 16 0b101100000#9 imm7)
  | .tDecSp imm7 => .thumb (cat 16 0b101100001#9 imm7)
  | .tPush r regs => .thumb (cat 16 0b1011010#7 (cat 9 (BitVec.ofBool r) regs))
  | .tPop r regs => .thumb (cat 16 0b1011110#7 (cat 9 (BitVec.ofBool r) regs))
  | .tBkpt imm8 => .thumb (cat 16 0b10111110#8 imm8)
  | .tStmia rn regs => .thumb (cat 16 0b11000#5 (cat 11 rn regs))
  | .tLdmia rn regs => .thumb (cat 16 0b11001#5 (cat 11 rn regs))
  | .tBCond c imm8 => .thumb (cat 16 0b1101#4 (cat 12 c.bits imm8))
  | .tUndefined (.perm any) => .thumb (cat 16 0b11011110#8 any)
  | .tSwi imm8 => .thumb (cat 16 0b11011111#8 imm8)
  | .tB imm11 => .thumb (cat 16 0b11100#5 imm11)
  | .tBlxSuffix imm10 => .thumb (cat 16 0b11101#5 (cat 11 imm10 0b0#1))
  | .tUndefined (.blxOdd any) => .thumb (cat 16 0b11101#5 (cat 11 any 0b1#1))
  | .tBlPrefix imm11 => .thumb (cat 16 0b11110#5 imm11)
  | .tBlSuffix imm11 => .thumb (cat 16 0b11111#5 imm11)
  | .tUndefined (.b0001 any) => .thumb (cat 16 0b10110001#8 any)
  | .tUndefined (.b001x any) => .thumb (cat 16 0b1011001#7 any)
  | .tUndefined (.b011x any) => .thumb (cat 16 0b1011011#7 any)
  | .tUndefined (.b10xx any) => .thumb (cat 16 0b101110#6 any)
  | .tUndefined (.b1111 any) => .thumb (cat 16 0b10111111#8 any)

/-- The field values a row's encoding admits: P = 0 with W = 1 is not LDR/STR (30 R391), P = U = W = 0 is
not LDC/STC (R396), a generic coprocessor row gives way to the core's rows (R419), and the conditional Thumb
branch has no AL (46 R780). -/
def Instr.encodable : Instr → Bool
  | .and _ _ _ _ (.imm _ _) => true
  | .and _ _ _ _ (.shiftImm _ _ _) => true
  | .and _ _ _ _ (.shiftReg _ _ _) => true
  | .eor _ _ _ _ (.imm _ _) => true
  | .eor _ _ _ _ (.shiftImm _ _ _) => true
  | .eor _ _ _ _ (.shiftReg _ _ _) => true
  | .sub _ _ _ _ (.imm _ _) => true
  | .sub _ _ _ _ (.shiftImm _ _ _) => true
  | .sub _ _ _ _ (.shiftReg _ _ _) => true
  | .rsb _ _ _ _ (.imm _ _) => true
  | .rsb _ _ _ _ (.shiftImm _ _ _) => true
  | .rsb _ _ _ _ (.shiftReg _ _ _) => true
  | .add _ _ _ _ (.imm _ _) => true
  | .add _ _ _ _ (.shiftImm _ _ _) => true
  | .add _ _ _ _ (.shiftReg _ _ _) => true
  | .adc _ _ _ _ (.imm _ _) => true
  | .adc _ _ _ _ (.shiftImm _ _ _) => true
  | .adc _ _ _ _ (.shiftReg _ _ _) => true
  | .sbc _ _ _ _ (.imm _ _) => true
  | .sbc _ _ _ _ (.shiftImm _ _ _) => true
  | .sbc _ _ _ _ (.shiftReg _ _ _) => true
  | .rsc _ _ _ _ (.imm _ _) => true
  | .rsc _ _ _ _ (.shiftImm _ _ _) => true
  | .rsc _ _ _ _ (.shiftReg _ _ _) => true
  | .tst _ _ _ (.imm _ _) => true
  | .tst _ _ _ (.shiftImm _ _ _) => true
  | .tst _ _ _ (.shiftReg _ _ _) => true
  | .teq _ _ _ (.imm _ _) => true
  | .teq _ _ _ (.shiftImm _ _ _) => true
  | .teq _ _ _ (.shiftReg _ _ _) => true
  | .cmp _ _ _ (.imm _ _) => true
  | .cmp _ _ _ (.shiftImm _ _ _) => true
  | .cmp _ _ _ (.shiftReg _ _ _) => true
  | .cmn _ _ _ (.imm _ _) => true
  | .cmn _ _ _ (.shiftImm _ _ _) => true
  | .cmn _ _ _ (.shiftReg _ _ _) => true
  | .orr _ _ _ _ (.imm _ _) => true
  | .orr _ _ _ _ (.shiftImm _ _ _) => true
  | .orr _ _ _ _ (.shiftReg _ _ _) => true
  | .mov _ _ _ _ (.imm _ _) => true
  | .mov _ _ _ _ (.shiftImm _ _ _) => true
  | .mov _ _ _ _ (.shiftReg _ _ _) => true
  | .bic _ _ _ _ (.imm _ _) => true
  | .bic _ _ _ _ (.shiftImm _ _ _) => true
  | .bic _ _ _ _ (.shiftReg _ _ _) => true
  | .mvn _ _ _ _ (.imm _ _) => true
  | .mvn _ _ _ _ (.shiftImm _ _ _) => true
  | .mvn _ _ _ _ (.shiftReg _ _ _) => true
  | .clz _ _ _ _ _ => true
  | .mul _ _ _ _ _ _ => true
  | .mla _ _ _ _ _ _ => true
  | .umull _ _ _ _ _ _ => true
  | .umlal _ _ _ _ _ _ => true
  | .smull _ _ _ _ _ _ => true
  | .smlal _ _ _ _ _ _ => true
  | .smulxy _ _ _ _ _ _ _ => true
  | .smulwy _ _ _ _ _ _ => true
  | .smlaxy _ _ _ _ _ _ _ => true
  | .smlawy _ _ _ _ _ _ => true
  | .smlalxy _ _ _ _ _ _ _ => true
  | .qadd _ _ _ _ _ => true
  | .qsub _ _ _ _ _ => true
  | .qdadd _ _ _ _ _ => true
  | .qdsub _ _ _ _ _ => true
  | .ldr _ p _ w _ _ (.imm _) => p || !w
  | .ldr _ p _ w _ _ (.reg _ _ _) => p || !w
  | .ldrb _ p _ w _ _ (.imm _) => p || !w
  | .ldrb _ p _ w _ _ (.reg _ _ _) => p || !w
  | .str _ p _ w _ _ (.imm _) => p || !w
  | .str _ p _ w _ _ (.reg _ _ _) => p || !w
  | .strb _ p _ w _ _ (.imm _) => p || !w
  | .strb _ p _ w _ _ (.reg _ _ _) => p || !w
  | .ldrt _ _ _ _ (.imm _) => true
  | .ldrt _ _ _ _ (.reg _ _ _) => true
  | .ldrbt _ _ _ _ (.imm _) => true
  | .ldrbt _ _ _ _ (.reg _ _ _) => true
  | .strt _ _ _ _ (.imm _) => true
  | .strt _ _ _ _ (.reg _ _ _) => true
  | .strbt _ _ _ _ (.imm _) => true
  | .strbt _ _ _ _ (.reg _ _ _) => true
  | .ldrh _ _ _ _ _ _ (.imm _ _) => true
  | .ldrh _ _ _ _ _ _ (.reg _ _) => true
  | .ldrsh _ _ _ _ _ _ (.imm _ _) => true
  | .ldrsh _ _ _ _ _ _ (.reg _ _) => true
  | .ldrsb _ _ _ _ _ _ (.imm _ _) => true
  | .ldrsb _ _ _ _ _ _ (.reg _ _) => true
  | .strh _ _ _ _ _ _ (.imm _ _) => true
  | .strh _ _ _ _ _ _ (.reg _ _) => true
  | .ldrd _ _ _ _ _ _ (.imm _ _) => true
  | .ldrd _ _ _ _ _ _ (.reg _ _) => true
  | .strd _ _ _ _ _ _ (.imm _ _) => true
  | .strd _ _ _ _ _ _ (.reg _ _) => true
  | .pld _ _ (.imm _) => true
  | .pld _ _ (.reg _ _ _) => true
  | .ldm _ _ _ _ _ _ => true
  | .ldmUser _ _ _ _ _ _ => true
  | .ldmReturn _ _ _ _ _ _ => true
  | .stm _ _ _ _ _ _ => true
  | .stmUser _ _ _ _ _ _ => true
  | .swp _ _ _ _ _ => true
  | .swpb _ _ _ _ _ => true
  | .b _ _ => true
  | .bl _ _ => true
  | .blxImm _ _ => true
  | .blxReg _ _ _ _ _ => true
  | .bx _ _ _ _ _ => true
  | .mrs _ _ _ _ _ _ => true
  | .msrImm _ _ _ _ _ _ => true
  | .msrReg _ _ _ _ _ _ => true
  | .swi _ _ => true
  | .bkpt _ _ => true
  | .cdp _ _ _ _ _ _ _ => true
  | .mcr c opc1 crn rd cp opc2 crm => !(cp == 0 && opc1 == 1 && isMiaOpcode crn) && (mcrRow (cpKey cp opc1 crn crm opc2) c rd).isNone
  | .mrc c opc1 crn rd cp opc2 crm => (mrcRow (cpKey cp opc1 crn crm opc2) c rd).isNone
  | .ldc _ p u _ w _ _ cp _ => (p || u || w) && !(cp == 14)
  | .stc _ p u _ w _ _ cp _ => (p || u || w) && !(cp == 14)
  | .mcrr _ _ _ cp opc crm => !(cp == 0 && opc == 0 && !crm.getLsbD 3)
  | .mrrc _ _ _ cp opc crm => !(cp == 0 && opc == 0 && !crm.getLsbD 3)
  | .cdp2 _ _ _ _ _ _ => true
  | .mcr2 _ _ _ _ _ _ => true
  | .mrc2 _ _ _ _ _ _ => true
  | .ldc2 p u _ w _ _ _ _ => p || u || w
  | .stc2 p u _ w _ _ _ _ => p || u || w
  | .undefinedSpace _ _ _ => true
  | .mia _ _ _ _ => true
  | .miaph _ _ _ _ => true
  | .miabb _ _ _ _ => true
  | .miabt _ _ _ _ => true
  | .miatb _ _ _ _ => true
  | .miatt _ _ _ _ => true
  | .mar _ _ _ _ => true
  | .mra _ _ _ _ => true
  | .mrcMainId _ _ => true
  | .mrcL2Id _ _ => true
  | .mrcCacheType _ _ => true
  | .mrcL2CacheType _ _ => true
  | .mcrControl _ _ => true
  | .mrcControl _ _ => true
  | .mcrAuxControl _ _ => true
  | .mrcAuxControl _ _ => true
  | .mcrTtBase _ _ => true
  | .mrcTtBase _ _ => true
  | .mcrDacr _ _ => true
  | .mrcDacr _ _ => true
  | .mcrFsr _ _ => true
  | .mrcFsr _ _ => true
  | .mcrFar _ _ => true
  | .mrcFar _ _ => true
  | .mcrDcLock _ _ => true
  | .mrcDcLock _ _ => true
  | .mcrDcLockLegacy _ _ => true
  | .mrcDcLockLegacy _ _ => true
  | .mcrPid _ _ => true
  | .mrcPid _ _ => true
  | .mcrIbr0 _ _ => true
  | .mrcIbr0 _ _ => true
  | .mcrIbr1 _ _ => true
  | .mrcIbr1 _ _ => true
  | .mcrDbr0 _ _ => true
  | .mrcDbr0 _ _ => true
  | .mcrDbr1 _ _ => true
  | .mrcDbr1 _ _ => true
  | .mcrDbcon _ _ => true
  | .mrcDbcon _ _ => true
  | .mcrCpar _ _ => true
  | .mrcCpar _ _ => true
  | .invIcacheBtb _ _ => true
  | .invIcacheLine _ _ => true
  | .invBtb _ _ => true
  | .invDcache _ _ => true
  | .invDcacheLine _ _ => true
  | .invCachesBtb _ _ => true
  | .cleanDcacheMva _ _ => true
  | .cleanDcacheSetWay _ _ => true
  | .cleanInvDcacheMva _ _ => true
  | .cleanInvDcacheSetWay _ _ => true
  | .prefetchFlush _ _ => true
  | .dataWriteBarrier _ _ => true
  | .dataMemoryBarrier _ _ => true
  | .invL2Mva _ _ => true
  | .cleanL2Mva _ _ => true
  | .cleanL2SetWay _ _ => true
  | .cleanInvL2SetWay _ _ => true
  | .allocDcacheLine _ _ => true
  | .invTlbs _ _ => true
  | .invItlb _ _ => true
  | .invItlbEntry _ _ => true
  | .invDtlb _ _ => true
  | .invDtlbEntry _ _ => true
  | .lockIcacheLine _ _ => true
  | .lockIcacheLineLegacy _ _ => true
  | .unlockIcache _ _ => true
  | .unlockIcacheLegacy _ _ => true
  | .unlockDcache _ _ => true
  | .unlockDcacheLegacy _ _ => true
  | .lockL2Line _ _ => true
  | .allocLockL2Line _ _ => true
  | .unlockL2 _ _ => true
  | .lockItlbEntry _ _ => true
  | .unlockItlb _ _ => true
  | .lockDtlbEntry _ _ => true
  | .unlockDtlb _ _ => true
  | .mcrPmnc _ _ => true
  | .mrcPmnc _ _ => true
  | .mcrCcnt _ _ => true
  | .mrcCcnt _ _ => true
  | .mcrInten _ _ => true
  | .mrcInten _ _ => true
  | .mcrFlag _ _ => true
  | .mrcFlag _ _ => true
  | .mcrEvtsel _ _ => true
  | .mrcEvtsel _ _ => true
  | .mcrPmn0 _ _ => true
  | .mrcPmn0 _ _ => true
  | .mcrPmn1 _ _ => true
  | .mrcPmn1 _ _ => true
  | .mcrPmn2 _ _ => true
  | .mrcPmn2 _ _ => true
  | .mcrPmn3 _ _ => true
  | .mrcPmn3 _ _ => true
  | .mcrCclkcfg _ _ => true
  | .mrcCclkcfg _ _ => true
  | .mcrPwrmode _ _ => true
  | .mrcPwrmode _ _ => true
  | .mcrTx _ _ => true
  | .mrcRx _ _ => true
  | .mcrDcsr _ _ => true
  | .mrcDcsr _ _ => true
  | .mrcTbreg _ _ => true
  | .mcrChkpt0 _ _ => true
  | .mrcChkpt0 _ _ => true
  | .mcrChkpt1 _ _ => true
  | .mrcChkpt1 _ _ => true
  | .mcrTxrxctrl _ _ => true
  | .mrcTxrxctrl _ _ => true
  | .ldcP14 _ p u _ w _ _ _ => p || u || w
  | .stcP14 _ p u _ w _ _ _ => p || u || w
  | .mcrErrlog _ _ => true
  | .mrcErrlog _ _ => true
  | .mcrErradrl _ _ => true
  | .mrcErradrl _ _ => true
  | .mcrErradru _ _ => true
  | .mrcErradru _ _ => true
  | .tLsl (.imm _ _ _) => true
  | .tLsr (.imm _ _ _) => true
  | .tAsr (.imm _ _ _) => true
  | .tAdd (.reg _ _ _) => true
  | .tSub (.reg _ _ _) => true
  | .tAdd (.imm3 _ _ _) => true
  | .tSub (.imm3 _ _ _) => true
  | .tMovImm8 _ _ => true
  | .tCmp (.imm8 _ _) => true
  | .tAdd (.imm8 _ _) => true
  | .tSub (.imm8 _ _) => true
  | .tAnd _ _ => true
  | .tEor _ _ => true
  | .tLsl (.reg _ _) => true
  | .tLsr (.reg _ _) => true
  | .tAsr (.reg _ _) => true
  | .tAdc _ _ => true
  | .tSbc _ _ => true
  | .tRorReg _ _ => true
  | .tTst _ _ => true
  | .tNeg _ _ => true
  | .tCmp (.reg _ _) => true
  | .tCmn _ _ => true
  | .tOrr _ _ => true
  | .tMul _ _ => true
  | .tBic _ _ => true
  | .tMvn _ _ => true
  | .tAddHi _ _ _ _ => true
  | .tCmpHi _ _ _ _ => true
  | .tMovHi _ _ _ _ => true
  | .tBx _ _ _ => true
  | .tBlxReg _ _ _ => true
  | .tLdr _ (.pc _) => true
  | .tStr _ (.reg _ _) => true
  | .tStrh _ (.reg _ _) => true
  | .tStrb _ (.reg _ _) => true
  | .tLdrsbReg _ _ _ => true
  | .tLdr _ (.reg _ _) => true
  | .tLdrh _ (.reg _ _) => true
  | .tLdrb _ (.reg _ _) => true
  | .tLdrshReg _ _ _ => true
  | .tStr _ (.imm _ _) => true
  | .tLdr _ (.imm _ _) => true
  | .tStrb _ (.imm _ _) => true
  | .tLdrb _ (.imm _ _) => true
  | .tStrh _ (.imm _ _) => true
  | .tLdrh _ (.imm _ _) => true
  | .tStr _ (.sp _) => true
  | .tLdr _ (.sp _) => true
  | .tAddPc _ _ => true
  | .tAddSp _ _ => true
  | .tIncSp _ => true
  | .tDecSp _ => true
  | .tPush _ _ => true
  | .tPop _ _ => true
  | .tBkpt _ => true
  | .tStmia _ _ => true
  | .tLdmia _ _ => true
  | .tBCond c _ => c != .al
  | .tUndefined (.perm _) => true
  | .tSwi _ => true
  | .tB _ => true
  | .tBlxSuffix _ => true
  | .tUndefined (.blxOdd _) => true
  | .tBlPrefix _ => true
  | .tBlSuffix _ => true
  | .tUndefined (.b0001 _) => true
  | .tUndefined (.b001x _) => true
  | .tUndefined (.b011x _) => true
  | .tUndefined (.b10xx _) => true
  | .tUndefined (.b1111 _) => true

/-! Operand restrictions (30 R408; 93 U61): a should-be field with another value, or a register combination
the instruction's rule calls UNPREDICTABLE. A meaning refuses such an instruction when it executes. -/

/-- A should-be-zero field holds zero (30 R408). -/
def isZero {n : Nat} (b : BitVec n) : Bool := b == 0

/-- A should-be-one field holds ones (30 R408). -/
def isOnes {n : Nat} (b : BitVec n) : Bool := b == BitVec.allOnes n

/-- None of the registers is R15. -/
def notPc (rs : List Reg) : Bool := rs.all (· != 15)

/-- Write-back happens: post-indexed, or pre-indexed with W = 1 (42 R531). -/
def writesBack (p w : Bool) : Bool := !p || w

/-- Base restrictions under write-back: Rn is not R15 and not the transfer register (42 R531). -/
def baseAllowed (wb : Bool) (rn rd : Reg) : Bool := !wb || (rn != 15 && rn != rd)

/-- Offset-register restrictions: Rm is not R15, nor Rn under write-back (42 R531). -/
def offsetAllowed (wb : Bool) (rn rm : Reg) : Bool := rm != 15 && (!wb || rn != rm)

/-- The halfword forms have no P = 0, W = 1 (42 R532). -/
def halfModeAllowed (p w : Bool) : Bool := p || !w

/-- The doubleword pair: an odd Rd raises Undefined Instruction and is not a restriction; an even Rd may not
be R14, and under write-back neither register of the pair may be Rn (42 R532, R552, R553). -/
def pairAllowed (wb : Bool) (rn rd : Reg) : Bool :=
  rd.getLsbD 0 || (rd != 14 && (!wb || (rn != 15 && rn != rd && rn != rd + 1)))

/-- The doubleword register-offset form: Rm is not R15, not in the pair, and not Rn under write-back (42 R532, R552). -/
def pairOffsetAllowed (wb : Bool) (rn rd rm : Reg) : Bool :=
  rd.getLsbD 0 || (rm != 15 && rm != rd && rm != rd + 1 && (!wb || rn != rm))

/-- A register list is not empty, and the base is not R15 (42 R533). -/
def listAllowed (rn : Reg) (regs : BitVec 16) : Bool := regs != 0 && rn != 15

/-- No register below `rn` is in the list. -/
def lowestInList (rn : Reg) (regs : BitVec 16) : Bool :=
  (regs &&& (BitVec.allOnes 16 >>> (16 - rn.toNat))) == 0

/-- LDM with write-back does not list its base (42 R533). -/
def ldmBaseAllowed (w : Bool) (rn : Reg) (regs : BitVec 16) : Bool := !(w && regs.getLsbD rn.toNat)

/-- STM with write-back lists its base only as the lowest register (42 R533). -/
def stmBaseAllowed (w : Bool) (rn : Reg) (regs : BitVec 16) : Bool :=
  !(w && regs.getLsbD rn.toNat) || lowestInList rn regs

/-- The full number of a Thumb register: H : field (46 section 4). -/
def hiReg (h : Bool) (r : LowReg) : Reg := BitVec.ofBool h ++ r

/-- The full number of a low register. -/
def lowReg (r : LowReg) : Reg := 0#1 ++ r

/-- The operand restrictions of an instruction, as its rule states them (93 U61). -/
def Instr.operandsAllowed : Instr → Bool
  | .and _ _ _ _ (.imm _ _) => true
  | .and _ _ _ _ (.shiftImm _ _ _) => true
  | .and _ _ rn rd (.shiftReg rs _ rm) => notPc [rn, rd, rs, rm]
  | .eor _ _ _ _ (.imm _ _) => true
  | .eor _ _ _ _ (.shiftImm _ _ _) => true
  | .eor _ _ rn rd (.shiftReg rs _ rm) => notPc [rn, rd, rs, rm]
  | .sub _ _ _ _ (.imm _ _) => true
  | .sub _ _ _ _ (.shiftImm _ _ _) => true
  | .sub _ _ rn rd (.shiftReg rs _ rm) => notPc [rn, rd, rs, rm]
  | .rsb _ _ _ _ (.imm _ _) => true
  | .rsb _ _ _ _ (.shiftImm _ _ _) => true
  | .rsb _ _ rn rd (.shiftReg rs _ rm) => notPc [rn, rd, rs, rm]
  | .add _ _ _ _ (.imm _ _) => true
  | .add _ _ _ _ (.shiftImm _ _ _) => true
  | .add _ _ rn rd (.shiftReg rs _ rm) => notPc [rn, rd, rs, rm]
  | .adc _ _ _ _ (.imm _ _) => true
  | .adc _ _ _ _ (.shiftImm _ _ _) => true
  | .adc _ _ rn rd (.shiftReg rs _ rm) => notPc [rn, rd, rs, rm]
  | .sbc _ _ _ _ (.imm _ _) => true
  | .sbc _ _ _ _ (.shiftImm _ _ _) => true
  | .sbc _ _ rn rd (.shiftReg rs _ rm) => notPc [rn, rd, rs, rm]
  | .rsc _ _ _ _ (.imm _ _) => true
  | .rsc _ _ _ _ (.shiftImm _ _ _) => true
  | .rsc _ _ rn rd (.shiftReg rs _ rm) => notPc [rn, rd, rs, rm]
  | .tst _ _ sbz (.imm _ _) => isZero sbz
  | .tst _ _ sbz (.shiftImm _ _ _) => isZero sbz
  | .tst _ rn sbz (.shiftReg rs _ rm) => isZero sbz && notPc [rn, rs, rm]
  | .teq _ _ sbz (.imm _ _) => isZero sbz
  | .teq _ _ sbz (.shiftImm _ _ _) => isZero sbz
  | .teq _ rn sbz (.shiftReg rs _ rm) => isZero sbz && notPc [rn, rs, rm]
  | .cmp _ _ sbz (.imm _ _) => isZero sbz
  | .cmp _ _ sbz (.shiftImm _ _ _) => isZero sbz
  | .cmp _ rn sbz (.shiftReg rs _ rm) => isZero sbz && notPc [rn, rs, rm]
  | .cmn _ _ sbz (.imm _ _) => isZero sbz
  | .cmn _ _ sbz (.shiftImm _ _ _) => isZero sbz
  | .cmn _ rn sbz (.shiftReg rs _ rm) => isZero sbz && notPc [rn, rs, rm]
  | .orr _ _ _ _ (.imm _ _) => true
  | .orr _ _ _ _ (.shiftImm _ _ _) => true
  | .orr _ _ rn rd (.shiftReg rs _ rm) => notPc [rn, rd, rs, rm]
  | .mov _ _ sbz _ (.imm _ _) => isZero sbz
  | .mov _ _ sbz _ (.shiftImm _ _ _) => isZero sbz
  | .mov _ _ sbz rd (.shiftReg rs _ rm) => isZero sbz && notPc [rd, rs, rm]
  | .bic _ _ _ _ (.imm _ _) => true
  | .bic _ _ _ _ (.shiftImm _ _ _) => true
  | .bic _ _ rn rd (.shiftReg rs _ rm) => notPc [rn, rd, rs, rm]
  | .mvn _ _ sbz _ (.imm _ _) => isZero sbz
  | .mvn _ _ sbz _ (.shiftImm _ _ _) => isZero sbz
  | .mvn _ _ sbz rd (.shiftReg rs _ rm) => isZero sbz && notPc [rd, rs, rm]
  | .clz _ sbo rd sbo2 rm => isOnes sbo && isOnes sbo2 && notPc [rd, rm]
  | .mul _ _ rd sbz rs rm => isZero sbz && notPc [rd, rs, rm]
  | .mla _ _ rd rn rs rm => notPc [rd, rn, rs, rm]
  | .umull _ _ rdHi rdLo rs rm => notPc [rdHi, rdLo, rs, rm] && rdHi != rdLo
  | .umlal _ _ rdHi rdLo rs rm => notPc [rdHi, rdLo, rs, rm] && rdHi != rdLo
  | .smull _ _ rdHi rdLo rs rm => notPc [rdHi, rdLo, rs, rm] && rdHi != rdLo
  | .smlal _ _ rdHi rdLo rs rm => notPc [rdHi, rdLo, rs, rm] && rdHi != rdLo
  | .smulxy _ rd sbz rs _ _ rm => isZero sbz && notPc [rd, rs, rm]
  | .smulwy _ rd sbz rs _ rm => isZero sbz && notPc [rd, rs, rm]
  | .smlaxy _ rd rn rs _ _ rm => notPc [rd, rn, rs, rm]
  | .smlawy _ rd rn rs _ rm => notPc [rd, rn, rs, rm]
  | .smlalxy _ rdHi rdLo rs _ _ rm => notPc [rdHi, rdLo, rs, rm] && rdHi != rdLo
  | .qadd _ rn rd sbz rm => isZero sbz && notPc [rn, rd, rm]
  | .qsub _ rn rd sbz rm => isZero sbz && notPc [rn, rd, rm]
  | .qdadd _ rn rd sbz rm => isZero sbz && notPc [rn, rd, rm]
  | .qdsub _ rn rd sbz rm => isZero sbz && notPc [rn, rd, rm]
  | .ldr _ p _ w rn rd (.imm _) => baseAllowed (writesBack p w) rn rd
  | .ldr _ p _ w rn rd (.reg _ _ rm) => baseAllowed (writesBack p w) rn rd && offsetAllowed (writesBack p w) rn rm
  | .ldrb _ p _ w rn rd (.imm _) => baseAllowed (writesBack p w) rn rd && notPc [rd]
  | .ldrb _ p _ w rn rd (.reg _ _ rm) => baseAllowed (writesBack p w) rn rd && offsetAllowed (writesBack p w) rn rm && notPc [rd]
  | .str _ p _ w rn rd (.imm _) => baseAllowed (writesBack p w) rn rd
  | .str _ p _ w rn rd (.reg _ _ rm) => baseAllowed (writesBack p w) rn rd && offsetAllowed (writesBack p w) rn rm
  | .strb _ p _ w rn rd (.imm _) => baseAllowed (writesBack p w) rn rd && notPc [rd]
  | .strb _ p _ w rn rd (.reg _ _ rm) => baseAllowed (writesBack p w) rn rd && offsetAllowed (writesBack p w) rn rm && notPc [rd]
  | .ldrt _ _ rn rd (.imm _) => baseAllowed true rn rd && notPc [rd]
  | .ldrt _ _ rn rd (.reg _ _ rm) => baseAllowed true rn rd && offsetAllowed true rn rm && notPc [rd]
  | .ldrbt _ _ rn rd (.imm _) => baseAllowed true rn rd && notPc [rd]
  | .ldrbt _ _ rn rd (.reg _ _ rm) => baseAllowed true rn rd && offsetAllowed true rn rm && notPc [rd]
  | .strt _ _ rn rd (.imm _) => baseAllowed true rn rd && notPc [rd]
  | .strt _ _ rn rd (.reg _ _ rm) => baseAllowed true rn rd && offsetAllowed true rn rm && notPc [rd]
  | .strbt _ _ rn rd (.imm _) => baseAllowed true rn rd && notPc [rd]
  | .strbt _ _ rn rd (.reg _ _ rm) => baseAllowed true rn rd && offsetAllowed true rn rm && notPc [rd]
  | .ldrh _ p _ w rn rd (.imm _ _) => halfModeAllowed p w && baseAllowed (writesBack p w) rn rd && notPc [rd]
  | .ldrh _ p _ w rn rd (.reg sbz rm) => isZero sbz && halfModeAllowed p w && baseAllowed (writesBack p w) rn rd && notPc [rd] && offsetAllowed (writesBack p w) rn rm
  | .ldrsh _ p _ w rn rd (.imm _ _) => halfModeAllowed p w && baseAllowed (writesBack p w) rn rd && notPc [rd]
  | .ldrsh _ p _ w rn rd (.reg sbz rm) => isZero sbz && halfModeAllowed p w && baseAllowed (writesBack p w) rn rd && notPc [rd] && offsetAllowed (writesBack p w) rn rm
  | .ldrsb _ p _ w rn rd (.imm _ _) => halfModeAllowed p w && baseAllowed (writesBack p w) rn rd && notPc [rd]
  | .ldrsb _ p _ w rn rd (.reg sbz rm) => isZero sbz && halfModeAllowed p w && baseAllowed (writesBack p w) rn rd && notPc [rd] && offsetAllowed (writesBack p w) rn rm
  | .strh _ p _ w rn rd (.imm _ _) => halfModeAllowed p w && baseAllowed (writesBack p w) rn rd && notPc [rd]
  | .strh _ p _ w rn rd (.reg sbz rm) => isZero sbz && halfModeAllowed p w && baseAllowed (writesBack p w) rn rd && notPc [rd] && offsetAllowed (writesBack p w) rn rm
  | .ldrd _ p _ w rn rd (.imm _ _) => (rd.getLsbD 0 || (halfModeAllowed p w)) && pairAllowed (writesBack p w) rn rd
  | .ldrd _ p _ w rn rd (.reg sbz rm) => (rd.getLsbD 0 || (isZero sbz && halfModeAllowed p w)) && pairAllowed (writesBack p w) rn rd && pairOffsetAllowed (writesBack p w) rn rd rm
  | .strd _ p _ w rn rd (.imm _ _) => (rd.getLsbD 0 || (halfModeAllowed p w)) && pairAllowed (writesBack p w) rn rd
  | .strd _ p _ w rn rd (.reg sbz rm) => (rd.getLsbD 0 || (isZero sbz && halfModeAllowed p w)) && pairAllowed (writesBack p w) rn rd && pairOffsetAllowed (writesBack p w) rn rd rm
  | .pld _ _ (.imm _) => true
  | .pld _ _ (.reg _ _ rm) => notPc [rm]
  | .ldm _ _ _ w rn regs => listAllowed rn regs && ldmBaseAllowed w rn regs
  | .ldmUser _ _ _ sbz rn regs => !sbz && listAllowed rn (0#1 ++ regs)
  | .ldmReturn _ _ _ w rn regs => listAllowed rn (1#1 ++ regs) && ldmBaseAllowed w rn (1#1 ++ regs)
  | .stm _ _ _ w rn regs => listAllowed rn regs && stmBaseAllowed w rn regs
  | .stmUser _ _ _ sbz rn regs => !sbz && listAllowed rn regs
  | .swp _ rn rd sbz rm => isZero sbz && notPc [rn, rd, rm] && rn != rm && rn != rd
  | .swpb _ rn rd sbz rm => isZero sbz && notPc [rn, rd, rm] && rn != rm && rn != rd
  | .b _ _ => true
  | .bl _ _ => true
  | .blxImm _ _ => true
  | .blxReg _ sbo sbo2 sbo3 rm => isOnes sbo && isOnes sbo2 && isOnes sbo3 && notPc [rm]
  | .bx _ sbo sbo2 sbo3 _ => isOnes sbo && isOnes sbo2 && isOnes sbo3
  | .mrs _ _ sbo rd sbz sbz2 => isOnes sbo && isZero sbz && isZero sbz2 && notPc [rd]
  | .msrImm _ _ _ sbo _ _ => isOnes sbo
  | .msrReg _ _ _ sbo sbz _ => isOnes sbo && isZero sbz
  | .swi _ _ => true
  | .bkpt _ _ => true
  | .cdp _ _ _ _ _ _ _ => true
  | .mcr _ _ _ _ _ _ _ => true
  | .mrc _ _ _ _ _ _ _ => true
  | .ldc _ _ _ _ _ _ _ _ _ => true
  | .stc _ _ _ _ _ _ _ _ _ => true
  | .mcrr _ _ _ _ _ _ => true
  | .mrrc _ _ _ _ _ _ => true
  | .cdp2 _ _ _ _ _ _ => true
  | .mcr2 _ _ _ _ _ _ => true
  | .mrc2 _ _ _ _ _ _ => true
  | .ldc2 _ _ _ _ _ _ _ _ => true
  | .stc2 _ _ _ _ _ _ _ _ => true
  | .undefinedSpace _ _ _ => true
  | .mia _ rs acc rm => isZero acc && notPc [rs, rm]
  | .miaph _ rs acc rm => isZero acc && notPc [rs, rm]
  | .miabb _ rs acc rm => isZero acc && notPc [rs, rm]
  | .miabt _ rs acc rm => isZero acc && notPc [rs, rm]
  | .miatb _ rs acc rm => isZero acc && notPc [rs, rm]
  | .miatt _ rs acc rm => isZero acc && notPc [rs, rm]
  | .mar _ rdHi rdLo acc => isZero acc && notPc [rdHi, rdLo]
  | .mra _ rdHi rdLo acc => isZero acc && notPc [rdHi, rdLo] && rdHi != rdLo
  | .mrcMainId _ rd => notPc [rd]
  | .mrcL2Id _ rd => notPc [rd]
  | .mrcCacheType _ rd => notPc [rd]
  | .mrcL2CacheType _ rd => notPc [rd]
  | .mcrControl _ rd => notPc [rd]
  | .mrcControl _ rd => notPc [rd]
  | .mcrAuxControl _ rd => notPc [rd]
  | .mrcAuxControl _ rd => notPc [rd]
  | .mcrTtBase _ rd => notPc [rd]
  | .mrcTtBase _ rd => notPc [rd]
  | .mcrDacr _ rd => notPc [rd]
  | .mrcDacr _ rd => notPc [rd]
  | .mcrFsr _ rd => notPc [rd]
  | .mrcFsr _ rd => notPc [rd]
  | .mcrFar _ rd => notPc [rd]
  | .mrcFar _ rd => notPc [rd]
  | .mcrDcLock _ rd => notPc [rd]
  | .mrcDcLock _ rd => notPc [rd]
  | .mcrDcLockLegacy _ rd => notPc [rd]
  | .mrcDcLockLegacy _ rd => notPc [rd]
  | .mcrPid _ rd => notPc [rd]
  | .mrcPid _ rd => notPc [rd]
  | .mcrIbr0 _ rd => notPc [rd]
  | .mrcIbr0 _ rd => notPc [rd]
  | .mcrIbr1 _ rd => notPc [rd]
  | .mrcIbr1 _ rd => notPc [rd]
  | .mcrDbr0 _ rd => notPc [rd]
  | .mrcDbr0 _ rd => notPc [rd]
  | .mcrDbr1 _ rd => notPc [rd]
  | .mrcDbr1 _ rd => notPc [rd]
  | .mcrDbcon _ rd => notPc [rd]
  | .mrcDbcon _ rd => notPc [rd]
  | .mcrCpar _ rd => notPc [rd]
  | .mrcCpar _ rd => notPc [rd]
  | .invIcacheBtb _ rd => notPc [rd]
  | .invIcacheLine _ rd => notPc [rd]
  | .invBtb _ rd => notPc [rd]
  | .invDcache _ rd => notPc [rd]
  | .invDcacheLine _ rd => notPc [rd]
  | .invCachesBtb _ rd => notPc [rd]
  | .cleanDcacheMva _ rd => notPc [rd]
  | .cleanDcacheSetWay _ rd => notPc [rd]
  | .cleanInvDcacheMva _ rd => notPc [rd]
  | .cleanInvDcacheSetWay _ rd => notPc [rd]
  | .prefetchFlush _ rd => notPc [rd]
  | .dataWriteBarrier _ rd => notPc [rd]
  | .dataMemoryBarrier _ rd => notPc [rd]
  | .invL2Mva _ rd => notPc [rd]
  | .cleanL2Mva _ rd => notPc [rd]
  | .cleanL2SetWay _ rd => notPc [rd]
  | .cleanInvL2SetWay _ rd => notPc [rd]
  | .allocDcacheLine _ rd => notPc [rd]
  | .invTlbs _ rd => notPc [rd]
  | .invItlb _ rd => notPc [rd]
  | .invItlbEntry _ rd => notPc [rd]
  | .invDtlb _ rd => notPc [rd]
  | .invDtlbEntry _ rd => notPc [rd]
  | .lockIcacheLine _ rd => notPc [rd]
  | .lockIcacheLineLegacy _ rd => notPc [rd]
  | .unlockIcache _ rd => notPc [rd]
  | .unlockIcacheLegacy _ rd => notPc [rd]
  | .unlockDcache _ rd => notPc [rd]
  | .unlockDcacheLegacy _ rd => notPc [rd]
  | .lockL2Line _ rd => notPc [rd]
  | .allocLockL2Line _ rd => notPc [rd]
  | .unlockL2 _ rd => notPc [rd]
  | .lockItlbEntry _ rd => notPc [rd]
  | .unlockItlb _ rd => notPc [rd]
  | .lockDtlbEntry _ rd => notPc [rd]
  | .unlockDtlb _ rd => notPc [rd]
  | .mcrPmnc _ rd => notPc [rd]
  | .mrcPmnc _ _ => true
  | .mcrCcnt _ rd => notPc [rd]
  | .mrcCcnt _ _ => true
  | .mcrInten _ rd => notPc [rd]
  | .mrcInten _ _ => true
  | .mcrFlag _ rd => notPc [rd]
  | .mrcFlag _ _ => true
  | .mcrEvtsel _ rd => notPc [rd]
  | .mrcEvtsel _ _ => true
  | .mcrPmn0 _ rd => notPc [rd]
  | .mrcPmn0 _ _ => true
  | .mcrPmn1 _ rd => notPc [rd]
  | .mrcPmn1 _ _ => true
  | .mcrPmn2 _ rd => notPc [rd]
  | .mrcPmn2 _ _ => true
  | .mcrPmn3 _ rd => notPc [rd]
  | .mrcPmn3 _ _ => true
  | .mcrCclkcfg _ rd => notPc [rd]
  | .mrcCclkcfg _ _ => true
  | .mcrPwrmode _ rd => notPc [rd]
  | .mrcPwrmode _ _ => true
  | .mcrTx _ rd => notPc [rd]
  | .mrcRx _ _ => true
  | .mcrDcsr _ rd => notPc [rd]
  | .mrcDcsr _ _ => true
  | .mrcTbreg _ _ => true
  | .mcrChkpt0 _ rd => notPc [rd]
  | .mrcChkpt0 _ _ => true
  | .mcrChkpt1 _ rd => notPc [rd]
  | .mrcChkpt1 _ _ => true
  | .mcrTxrxctrl _ rd => notPc [rd]
  | .mrcTxrxctrl _ _ => true
  | .ldcP14 _ p _ _ w rn _ _ => (!(writesBack p w && (p || w)) || rn != 15)
  | .stcP14 _ p _ _ w rn _ _ => (!(writesBack p w && (p || w)) || rn != 15)
  | .mcrErrlog _ rd => notPc [rd]
  | .mrcErrlog _ _ => true
  | .mcrErradrl _ rd => notPc [rd]
  | .mrcErradrl _ _ => true
  | .mcrErradru _ rd => notPc [rd]
  | .mrcErradru _ _ => true
  | .tLsl (.imm _ _ _) => true
  | .tLsr (.imm _ _ _) => true
  | .tAsr (.imm _ _ _) => true
  | .tAdd (.reg _ _ _) => true
  | .tSub (.reg _ _ _) => true
  | .tAdd (.imm3 _ _ _) => true
  | .tSub (.imm3 _ _ _) => true
  | .tMovImm8 _ _ => true
  | .tCmp (.imm8 _ _) => true
  | .tAdd (.imm8 _ _) => true
  | .tSub (.imm8 _ _) => true
  | .tAnd _ _ => true
  | .tEor _ _ => true
  | .tLsl (.reg _ _) => true
  | .tLsr (.reg _ _) => true
  | .tAsr (.reg _ _) => true
  | .tAdc _ _ => true
  | .tSbc _ _ => true
  | .tRorReg _ _ => true
  | .tTst _ _ => true
  | .tNeg _ _ => true
  | .tCmp (.reg _ _) => true
  | .tCmn _ _ => true
  | .tOrr _ _ => true
  | .tMul _ _ => true
  | .tBic _ _ => true
  | .tMvn _ _ => true
  | .tAddHi h1 h2 _ _ => (h1 || h2)
  | .tCmpHi h1 h2 _ rn => (h1 || h2) && notPc [hiReg h1 rn]
  | .tMovHi h1 h2 _ _ => (h1 || h2)
  | .tBx _ _ sbz => isZero sbz
  | .tBlxReg h2 rm sbz => isZero sbz && notPc [hiReg h2 rm]
  | .tLdr _ (.pc _) => true
  | .tStr _ (.reg _ _) => true
  | .tStrh _ (.reg _ _) => true
  | .tStrb _ (.reg _ _) => true
  | .tLdrsbReg _ _ _ => true
  | .tLdr _ (.reg _ _) => true
  | .tLdrh _ (.reg _ _) => true
  | .tLdrb _ (.reg _ _) => true
  | .tLdrshReg _ _ _ => true
  | .tStr _ (.imm _ _) => true
  | .tLdr _ (.imm _ _) => true
  | .tStrb _ (.imm _ _) => true
  | .tLdrb _ (.imm _ _) => true
  | .tStrh _ (.imm _ _) => true
  | .tLdrh _ (.imm _ _) => true
  | .tStr _ (.sp _) => true
  | .tLdr _ (.sp _) => true
  | .tAddPc _ _ => true
  | .tAddSp _ _ => true
  | .tIncSp _ => true
  | .tDecSp _ => true
  | .tPush r regs => (r || regs != 0)
  | .tPop r regs => (r || regs != 0)
  | .tBkpt _ => true
  | .tStmia rn regs => regs != 0 && stmBaseAllowed true (lowReg rn) (0#8 ++ regs)
  | .tLdmia _ regs => regs != 0
  | .tBCond _ _ => true
  | .tUndefined (.perm _) => true
  | .tSwi _ => true
  | .tB _ => true
  | .tBlxSuffix _ => true
  | .tUndefined (.blxOdd _) => true
  | .tBlPrefix _ => true
  | .tBlSuffix _ => true
  | .tUndefined (.b0001 _) => true
  | .tUndefined (.b001x _) => true
  | .tUndefined (.b011x _) => true
  | .tUndefined (.b10xx _) => true
  | .tUndefined (.b1111 _) => true

end Sys2Proof
end

