-- ==== Sys2Proof/Machine/Operands.lean ====
section
/-! DEFINITION. Operand forms: the shifter operand (spec 40 R431), the address of single, halfword and multiple
transfers (42 R531 to R533) and of coprocessor transfers (43 R627). -/

namespace Sys2Proof.Machine

/-- The shifter operand and its carry-out (40 R431). -/
def shifterOperand : ShifterOperand → M (Word × Bool)
  | .imm rot imm8 => do
    let s ← M.state
    let v := rotatedImm rot imm8
    pure (v, if rot = 0 then s.cpsr.c else v.msb)
  | .shiftImm amount sh rm => do
    let s ← M.state
    let m ← reg rm
    pure (shiftImm sh m amount s.cpsr.c)
  | .shiftReg rs sh rm => do
    let s ← M.state
    let m ← reg rm
    let n ← reg rs
    pure (shiftReg sh m (n.setWidth 8) s.cpsr.c)

/-- R15 is none of the registers of a register-shifted form (40 R430). -/
def shifterAllowed (others : List Reg) : ShifterOperand → Bool
  | .imm _ _ => true
  | .shiftImm _ _ _ => true
  | .shiftReg rs _ rm => notPc (others ++ [rs, rm])

/-- The offset of a word or byte transfer (42 R531). -/
def offsetTwo : Offset2 → M Word
  | .imm off12 => pure (off12.setWidth 32)
  | .reg amount sh rm => do
    let s ← M.state
    let m ← reg rm
    pure (shiftImm sh m amount s.cpsr.c).1

/-- The restrictions of a word or byte offset (42 R531). -/
def offsetTwoAllowed (wb : Bool) (rn : Reg) : Offset2 → Bool
  | .imm _ => true
  | .reg _ _ rm => offsetAllowed wb rn rm

/-- The offset of a halfword, signed byte or doubleword transfer (42 R532). -/
def offsetThree : Offset3 → M Word
  | .imm immH immL => pure ((immH ++ immL).setWidth 32)
  | .reg _ rm => reg rm

/-- The restrictions of a halfword or signed byte offset (42 R532). -/
def offsetThreeAllowed (wb : Bool) (rn : Reg) : Offset3 → Bool
  | .imm _ _ => true
  | .reg sbz rm => isZero sbz && offsetAllowed wb rn rm

/-- The restrictions of a doubleword offset (42 R552). -/
def offsetPairAllowed (wb : Bool) (rn rd : Reg) : Offset3 → Bool
  | .imm _ _ => true
  | .reg sbz rm => isZero sbz && pairOffsetAllowed wb rn rd rm

/-- The base plus or minus the offset (42 R531). -/
def indexed (u : Bool) (base off : Word) : Word := if u then base + off else base - off

/-- The address of a single transfer: indexed, or the base when post-indexed (42 R531). -/
def transferAddress (p u : Bool) (base off : Word) : Word := if p then indexed u base off else base

/-- Write-back of the base. -/
def writeBack (wb : Bool) (rn : Reg) (v : Word) : M Unit := if wb then setReg rn v else pure ()

/-- The registers of a list, lowest first. -/
def registersOf (regs : BitVec 16) : List Reg :=
  ((List.range 16).filter fun i => regs.getLsbD i).map fun i => BitVec.ofNat 4 i

/-- The start address of a multiple transfer of `n` words (42 R533). -/
def multipleStart (p u : Bool) (base : Word) (n : Nat) : Word :=
  let size := BitVec.ofNat 32 (4 * n)
  match p, u with
  | false, true => base
  | true, true => base + 4
  | false, false => base - size + 4
  | true, false => base - size

/-- The base after a multiple transfer (42 R533). -/
def multipleEnd (u : Bool) (base : Word) (n : Nat) : Word :=
  if u then base + BitVec.ofNat 32 (4 * n) else base - BitVec.ofNat 32 (4 * n)

end Sys2Proof.Machine
end

