-- ==== Sys2Proof/Machine/LoadStore.lean ====
section
/-! DEFINITION. Loads, stores, preload, multiple transfers and swap (spec 42). -/

namespace Sys2Proof.Machine

/-- The address of a single transfer and the base after it (42 R531). -/
def singleAddress (p u : Bool) (rn : Reg) (off : M Word) : M (Word × Word) := do
  let base ← reg rn
  let o ← off
  pure (transferAddress p u base o, indexed u base o)

/-- Marks a load whose destination is the pc, for the trace of an abort (61 R943). -/
def markPcLoad (rd : Reg) : M Unit :=
  if rd = 15 then M.update fun s => s.setRun { s.run with pcLoad := true } else pure ()

/-- A load to a register (42 R540 to R550): the access, then write-back, then the destination. -/
def loadRegister (load : Word → Bool → M Word) (user : M Bool) (p u wb : Bool) (rn rd : Reg) (off : M Word) :
    M Unit := do
  let (a, ea) ← singleAddress p u rn off
  let usr ← user
  let v ← load a usr
  writeBack wb rn ea
  setReg rd v
  next

/-- A store of a register (42 R542, R543, R546, R547, R551). -/
def storeRegister (n : Nat) (user : M Bool) (p u wb : Bool) (rn rd : Reg) (off : M Word) : M Unit := do
  let (a, ea) ← singleAddress p u rn off
  let v ← storedReg rd
  let usr ← user
  memWrite a n (v.setWidth (8 * n)) usr
  writeBack wb rn ea
  next

/-- A load of R15 (42 R540, R534): an interworking branch; an unaligned address aborts, whatever CTRL.A is
(20 R193, U42, log 46). -/
def loadPc (p u wb : Bool) (rn : Reg) (off : M Word) : M Unit := do
  let (a, ea) ← singleAddress p u rn off
  markPcLoad 15
  let s ← M.state
  if a.extractLsb' 0 2 == 0 then do
    let usr ← asUser
    let v ← loadWord a usr
    writeBack wb rn ea
    writePcInterworking v
  else alignmentAbort (s.remap a)

/-- A byte load. -/
def loadByte (a : Word) (user : Bool) : M Word := do
  let v ← memRead a 1 user
  pure (v.setWidth 32)

/-- A signed byte load. -/
def loadSignedByte (a : Word) (user : Bool) : M Word := do
  let v ← memRead a 1 user
  pure (v.signExtend 32)

/-- A halfword load. -/
def loadHalf (a : Word) (user : Bool) : M Word := do
  let v ← memRead a 2 user
  pure (v.setWidth 32)

/-- A signed halfword load. -/
def loadSignedHalf (a : Word) (user : Bool) : M Word := do
  let v ← memRead a 2 user
  pure (v.signExtend 32)

/-- The restrictions of a halfword or signed byte transfer (42 R532). -/
def halfAllowed (p w : Bool) (rn rd : Reg) (off : Offset3) : Bool :=
  halfModeAllowed p w && baseAllowed (writesBack p w) rn rd && notPc [rd] && offsetThreeAllowed (writesBack p w) rn off

/-- The restrictions of a doubleword transfer with an even Rd (42 R532, R552). -/
def doubleAllowed (p w : Bool) (rn rd : Reg) (off : Offset3) : Bool :=
  halfModeAllowed p w && pairAllowed (writesBack p w) rn rd && offsetPairAllowed (writesBack p w) rn rd off

/-- LDRD (42 R552): two words, the lower register at the lower address; an odd Rd is undefined. -/
def loadDouble (p u w : Bool) (rn rd : Reg) (off : Offset3) : M Unit := do
  M.defined (!rd.getLsbD 0)
  allowed (doubleAllowed p w rn rd off)
  let (a, ea) ← singleAddress p u rn (offsetThree off)
  let usr ← asUser
  let s ← M.state
  let _ ← checkAlign (s.remap a) 8
  let lo ← memRead a 4 usr
  betweenWords
  let hi ← memRead (a + 4) 4 usr
  writeBack (writesBack p w) rn ea
  setReg rd lo
  setReg (rd + 1) hi
  next

/-- STRD (42 R553). -/
def storeDouble (p u w : Bool) (rn rd : Reg) (off : Offset3) : M Unit := do
  M.defined (!rd.getLsbD 0)
  allowed (doubleAllowed p w rn rd off)
  let (a, ea) ← singleAddress p u rn (offsetThree off)
  let lo ← reg rd
  let hi ← reg (rd + 1)
  let usr ← asUser
  let s ← M.state
  let _ ← checkAlign (s.remap a) 8
  memWrite a 4 lo usr
  betweenWords
  memWrite (a + 4) 4 hi usr
  writeBack (writesBack p w) rn ea
  next

/-! ## Multiple transfers -/

/-- Words loaded from a list of addresses, and the abort that ended the sequence, if one did. -/
def loadWords (user : Bool) : List Word → M (List Word × Option DataAbort)
  | [] => pure ([], none)
  | a :: t => do
    match ← M.tryAbort (memRead a 4 user) with
    | .error e => pure ([], some e)
    | .ok v => do
      gapBefore t
      let (vs, e) ← loadWords user t
      pure (v :: vs, e)

/-- Words stored at a list of addresses. -/
def storeWords (user : Bool) : List (Word × Word) → M Unit
  | [] => pure ()
  | (a, v) :: t => do
    memWrite a 4 v user
    gapBefore t
    storeWords user t

/-- Writes registers by a given way of writing. -/
def writeRegisters (write : Reg → Word → M Unit) : List (Reg × Word) → M Unit
  | [] => pure ()
  | (r, v) :: t => do
    write r v
    writeRegisters write t

/-- Registers loaded before an abort: each may hold its loaded value, but those that are kept do not (20 R197, log 38). -/
def partialRegisters (write : Reg → Word → M Unit) (keep : Reg → Bool) : List (Reg × Word) → M Unit
  | [] => pure ()
  | (r, v) :: t => do
    let k ← M.draw 1
    if k = 1 && !keep r then write r v else pure ()
    partialRegisters write keep t

/-- The loads of an LDM (42 R560): the values in register order, or the abort. -/
def loadMultiple (write : Reg → Word → M Unit) (keep : Reg → Bool) (p u : Bool) (rn : Reg) (regs : List Reg) :
    M (List (Reg × Word)) := do
  let base ← reg rn
  let a := multipleStart p u base regs.length
  noWrap a (4 * regs.length)
  let usr ← asUser
  let (vs, e) ← loadWords usr (wordAddresses a regs.length)
  match e with
  | none => pure (regs.zip vs)
  | some e => do
    partialRegisters write keep (regs.zip vs)
    M.stop (.abort e)

/-- What an aborted LDM keeps: the base register and R15 (20 R197). -/
def keepsBase (rn r : Reg) : Bool := r == rn || r == 15

/-- The value loaded for R15. -/
def pcValue (vs : List (Reg × Word)) : Word := ((vs.find? (·.1 == 15)).map (·.2)).getD 0

/-- LDM in its ordinary form (42 R560). -/
def loadMany (p u w : Bool) (rn : Reg) (regs : BitVec 16) : M Unit := do
  let rs := registersOf regs
  if regs.getLsbD 15 then markPcLoad 15 else pure ()
  let s ← M.state
  let vs ← loadMultiple setReg (keepsBase rn) p u rn rs
  writeRegisters setReg (vs.filter (·.1 != 15))
  writeBack w rn (multipleEnd u (s.readReg rn) rs.length)
  if regs.getLsbD 15 then writePcInterworking (pcValue vs) else next

/-- Marks a user-bank transfer: the next instruction may not read a banked register (U63). A transfer that takes a precise abort
is not marked, also in Special Debug State, where the next instruction follows: DESIGN CHOICE (42 R561, log 37). -/
def markUserTransfer : M Unit := M.update fun s => s.setRun { s.run with userTransfer := 2 }

/-- LDM of User registers (42 R561). An abort keeps the physical register that is the base: a User register whose number is
the base's, while the base is banked, is not the base (20 R197, log 38), and leaves no mark (log 37). -/
def loadUser (p u : Bool) (rn : Reg) (regs : BitVec 15) : M Unit := do
  let s ← M.state
  M.require (!s.noSpsr) .noSpsr
  let write := fun r v => M.update (·.writeBank modeUsr r v)
  let keep := fun r => bankedRegister s.cfg.debugBanksR13 modeUsr r == s.bank rn
  let vs ← loadMultiple write keep p u rn (registersOf (0#1 ++ regs))
  writeRegisters write vs
  markUserTransfer
  next

/-- LDM with `^` and R15: the exception return (42 R562). -/
def loadReturn (p u w : Bool) (rn : Reg) (regs : BitVec 15) : M Unit := do
  let rs := registersOf (1#1 ++ regs)
  let s ← M.state
  M.require (!s.noSpsr) .noSpsr
  markPcLoad 15
  let vs ← loadMultiple setReg (keepsBase rn) p u rn rs
  writeRegisters setReg (vs.filter (·.1 != 15))
  writeBack w rn (multipleEnd u (s.readReg rn) rs.length)
  restoreCpsr
  M.update fun s => s.jump (pcValue vs &&& (if s.cpsr.t then 0xFFFFFFFE else 0xFFFFFFFC)) (.indirect true)

/-- The stores of an STM (42 R563). -/
def storeMultiple (p u : Bool) (rn : Reg) (regs : List Reg) (values : List Word) : M Unit := do
  let base ← reg rn
  let a := multipleStart p u base regs.length
  noWrap a (4 * regs.length)
  let usr ← asUser
  storeWords usr ((wordAddresses a regs.length).zip values)

/-- STM in its ordinary form (42 R563). -/
def storeMany (p u w : Bool) (rn : Reg) (regs : BitVec 16) : M Unit := do
  let rs := registersOf regs
  let s ← M.state
  let values ← M.each storedReg rs
  storeMultiple p u rn rs values
  writeBack w rn (multipleEnd u (s.readReg rn) rs.length)
  next

/-- The User register that a transfer stores: R15 as any store stores it; one that is banked in the current mode may not be
read right after another such transfer (U63). -/
def storedUser (r : Reg) : M Word := fun s =>
  if r = 15 then .ok (s.pc + 12) s
  else if s.afterUserTransfer && s.isBanked r then .error (.refuse .bankedAfterUserTransfer) s
  else .ok (s.readBank modeUsr r) s

/-- STM of User registers (42 R564); an abort leaves no mark (log 37). -/
def storeUser (p u : Bool) (rn : Reg) (regs : BitVec 16) : M Unit := do
  let s ← M.state
  M.require (!s.noSpsr) .noSpsr
  let rs := registersOf regs
  let values ← M.each storedUser rs
  storeMultiple p u rn rs values
  markUserTransfer
  next

/-- SWP and SWPB (42 R570, R571). -/
def swapBody (n : Nat) (extend : Word → BitVec (8 * n) → Word) (rn rd : Reg) (sbz : BitVec 4) (rm : Reg) : M Unit := do
  allowed (isZero sbz && notPc [rn, rd, rm] && rn != rm && rn != rd)
  let a ← reg rn
  let m ← reg rm
  let old ← memSwap a n (m.setWidth (8 * n))
  setReg rd (extend a old)
  next

/-! ## The instructions -/

/-- LDR (R540). -/
def execLdr (c : Cond) (p u w : Bool) (rn rd : Reg) (off : Offset2) (s : State) : Outcome :=
  runToPc (rd == 15) c (do
    allowed (baseAllowed (writesBack p w) rn rd && offsetTwoAllowed (writesBack p w) rn off)
    if rd = 15 then loadPc p u (writesBack p w) rn (offsetTwo off)
    else loadRegister loadWord asUser p u (writesBack p w) rn rd (offsetTwo off)) s

/-- LDRB (R541). -/
def execLdrb (c : Cond) (p u w : Bool) (rn rd : Reg) (off : Offset2) (s : State) : Outcome :=
  runIf c (do
    allowed (baseAllowed (writesBack p w) rn rd && offsetTwoAllowed (writesBack p w) rn off && notPc [rd])
    loadRegister loadByte asUser p u (writesBack p w) rn rd (offsetTwo off)) s

/-- STR (R542). -/
def execStr (c : Cond) (p u w : Bool) (rn rd : Reg) (off : Offset2) (s : State) : Outcome :=
  runIf c (do
    allowed (baseAllowed (writesBack p w) rn rd && offsetTwoAllowed (writesBack p w) rn off)
    storeRegister 4 asUser p u (writesBack p w) rn rd (offsetTwo off)) s

/-- STRB (R543). -/
def execStrb (c : Cond) (p u w : Bool) (rn rd : Reg) (off : Offset2) (s : State) : Outcome :=
  runIf c (do
    allowed (baseAllowed (writesBack p w) rn rd && offsetTwoAllowed (writesBack p w) rn off && notPc [rd])
    storeRegister 1 asUser p u (writesBack p w) rn rd (offsetTwo off)) s

/-- LDRT (R544). -/
def execLdrt (c : Cond) (u : Bool) (rn rd : Reg) (off : Offset2) (s : State) : Outcome :=
  runIf c (do
    allowed (baseAllowed true rn rd && offsetTwoAllowed true rn off && notPc [rd])
    loadRegister loadWord (pure true) false u true rn rd (offsetTwo off)) s

/-- LDRBT (R545). -/
def execLdrbt (c : Cond) (u : Bool) (rn rd : Reg) (off : Offset2) (s : State) : Outcome :=
  runIf c (do
    allowed (baseAllowed true rn rd && offsetTwoAllowed true rn off && notPc [rd])
    loadRegister loadByte (pure true) false u true rn rd (offsetTwo off)) s

/-- STRT (R546). -/
def execStrt (c : Cond) (u : Bool) (rn rd : Reg) (off : Offset2) (s : State) : Outcome :=
  runIf c (do
    allowed (baseAllowed true rn rd && offsetTwoAllowed true rn off && notPc [rd])
    storeRegister 4 (pure true) false u true rn rd (offsetTwo off)) s

/-- STRBT (R547). -/
def execStrbt (c : Cond) (u : Bool) (rn rd : Reg) (off : Offset2) (s : State) : Outcome :=
  runIf c (do
    allowed (baseAllowed true rn rd && offsetTwoAllowed true rn off && notPc [rd])
    storeRegister 1 (pure true) false u true rn rd (offsetTwo off)) s

/-- LDRH (R548). -/
def execLdrh (c : Cond) (p u w : Bool) (rn rd : Reg) (off : Offset3) (s : State) : Outcome :=
  runIf c (do
    allowed (halfAllowed p w rn rd off)
    loadRegister loadHalf asUser p u (writesBack p w) rn rd (offsetThree off)) s

/-- LDRSH (R549). -/
def execLdrsh (c : Cond) (p u w : Bool) (rn rd : Reg) (off : Offset3) (s : State) : Outcome :=
  runIf c (do
    allowed (halfAllowed p w rn rd off)
    loadRegister loadSignedHalf asUser p u (writesBack p w) rn rd (offsetThree off)) s

/-- LDRSB (R550). -/
def execLdrsb (c : Cond) (p u w : Bool) (rn rd : Reg) (off : Offset3) (s : State) : Outcome :=
  runIf c (do
    allowed (halfAllowed p w rn rd off)
    loadRegister loadSignedByte asUser p u (writesBack p w) rn rd (offsetThree off)) s

/-- STRH (R551). -/
def execStrh (c : Cond) (p u w : Bool) (rn rd : Reg) (off : Offset3) (s : State) : Outcome :=
  runIf c (do
    allowed (halfAllowed p w rn rd off)
    storeRegister 2 asUser p u (writesBack p w) rn rd (offsetThree off)) s

/-- LDRD (R552). -/
def execLdrd (c : Cond) (p u w : Bool) (rn rd : Reg) (off : Offset3) (s : State) : Outcome :=
  runIf c (loadDouble p u w rn rd off) s

/-- STRD (R553). -/
def execStrd (c : Cond) (p u w : Bool) (rn rd : Reg) (off : Offset3) (s : State) : Outcome :=
  runIf c (storeDouble p u w rn rd off) s

/-- PLD (R554). -/
def execPld (u : Bool) (rn : Reg) (off : Offset2) (s : State) : Outcome :=
  finish (do
    allowed (match off with | .imm _ => true | .reg _ _ rm => notPc [rm])
    let base ← reg rn
    let o ← offsetTwo off
    preload (indexed u base o)
    next) s

/-- LDM (R560). -/
def execLdm (c : Cond) (p u w : Bool) (rn : Reg) (regs : BitVec 16) (s : State) : Outcome :=
  runToPc (regs.getLsbD 15) c (do
    allowed (listAllowed rn regs && ldmBaseAllowed w rn regs)
    loadMany p u w rn regs) s

/-- LDM (R561). -/
def execLdmUser (c : Cond) (p u sbz : Bool) (rn : Reg) (regs : BitVec 15) (s : State) : Outcome :=
  runIf c (do
    allowed (!sbz && listAllowed rn (0#1 ++ regs))
    loadUser p u rn regs) s

/-- LDM (R562). -/
def execLdmReturn (c : Cond) (p u w : Bool) (rn : Reg) (regs : BitVec 15) (s : State) : Outcome :=
  runToPc true c (do
    allowed (listAllowed rn (1#1 ++ regs) && ldmBaseAllowed w rn (1#1 ++ regs))
    loadReturn p u w rn regs) s

/-- STM (R563). -/
def execStm (c : Cond) (p u w : Bool) (rn : Reg) (regs : BitVec 16) (s : State) : Outcome :=
  runIf c (do
    allowed (listAllowed rn regs && stmBaseAllowed w rn regs)
    storeMany p u w rn regs) s

/-- STM (R564). -/
def execStmUser (c : Cond) (p u sbz : Bool) (rn : Reg) (regs : BitVec 16) (s : State) : Outcome :=
  runIf c (do
    allowed (!sbz && listAllowed rn regs)
    storeUser p u rn regs) s

/-- SWP (R570). -/
def execSwp (c : Cond) (rn rd : Reg) (sbz : BitVec 4) (rm : Reg) (s : State) : Outcome :=
  runIf c (swapBody 4 (fun a v => rotateLoad a v) rn rd sbz rm) s

/-- SWPB (R571). -/
def execSwpb (c : Cond) (rn rd : Reg) (sbz : BitVec 4) (rm : Reg) (s : State) : Outcome :=
  runIf c (swapBody 1 (fun _ v => v.setWidth 32) rn rd sbz rm) s

end Sys2Proof.Machine
end

