-- ==== Sys2Proof/Machine/Coproc.lean ====
section
/-! DEFINITION. Coprocessor instructions outside the rows of the core's own registers (spec 43 R620 to R631), and the access rules of the system registers (45 R661). -/

namespace Sys2Proof.Machine

/-- Privileged modes only, else Undefined Instruction (45 R661). -/
def privilegedOnly : M Unit := do
  let s ← M.state
  M.defined s.privileged

/-- An MCR in the template of 45 R660: privileged, the operand, the effect, the pc. -/
def systemWrite (c : Cond) (rd : Reg) (effect : Word → M Unit) (s : State) : Outcome :=
  runIf c (do
    privilegedOnly
    allowed (notPc [rd])
    let v ← reg rd
    effect v
    next) s

/-- An MCR of the four functions that User mode may use (45 R661). -/
def userWrite (c : Cond) (rd : Reg) (effect : Word → M Unit) (s : State) : Outcome :=
  runIf c (do
    allowed (notPc [rd])
    let v ← reg rd
    effect v
    next) s

/-- An MRC of CP15, where Rd = R15 is UNPREDICTABLE (43 R626). -/
def systemRead (c : Cond) (rd : Reg) (value : M Word) (s : State) : Outcome :=
  runIf c (do
    privilegedOnly
    allowed (notPc [rd])
    let v ← value
    setReg rd v
    next) s

/-- The flags that an MRC with Rd = R15 reads (43 R626). -/
def Psr.withTop (p : Psr) (v : Word) : Psr :=
  { p with n := v.getLsbD 31, z := v.getLsbD 30, c := v.getLsbD 29, v := v.getLsbD 28 }

/-- An MRC of CP14 or CP7: Rd = R15 reads the flags (43 R626). -/
def flagRead (c : Cond) (rd : Reg) (value : M Word) (s : State) : Outcome :=
  runIf c (do
    privilegedOnly
    let v ← value
    if rd = 15 then M.update (·.mapCpsr (·.withTop v)) else setReg rd v
    next) s

/-- Access to CP0 (44 R641 step 3). -/
def accumulatorAccess : M Unit := do
  let s ← M.state
  M.defined (s.cp15.cpar.getLsbD 0)

/-- The right to a coprocessor: its bit of CPAR (11 R133), and for CP7 a privileged mode (43 R620, 60 R858). -/
def State.coprocRight (s : State) (cp : BitVec 4) : Bool := s.cp15.cpar.getLsbD cp.toNat && (cp != 7 || s.privileged)

/-- An identification register of CP15, whose writes are ignored (11 R77, 90 C11). -/
def identification (opc1 : BitVec 3) (crn crm : BitVec 4) (opc2 : BitVec 3) : Bool :=
  crn == 0 && crm == 0 && (opc1 == 0 || opc1 == 1) && (opc2 == 0 || opc2 == 1)

/-- The address of an LDC or STC and the base after it (43 R627). -/
def coprocAddress (p u : Bool) (rn : Reg) (off8 : BitVec 8) : M (Word × Word) := do
  let base ← reg rn
  let off : Word := off8.setWidth 32 <<< 2
  pure (transferAddress p u base off, indexed u base off)

/-- The implicit load that an LDC to an absent coprocessor makes (43 R628); a data breakpoint that it matches wins
over the Undefined Instruction exception (log 43). -/
def implicitLoad (p u : Bool) (rn : Reg) (off8 : BitVec 8) : M Unit := do
  let (a, _) ← coprocAddress p u rn off8
  let usr ← asUser
  let _ ← memRead a 4 usr
  let s ← M.state
  if s.run.dataBreak then pure () else M.stop .undefined

/-! ## Coprocessors of the ASSP (43 R628, 60 R847, 70 R989) -/

/-- A coprocessor of the ASSP, by `P_COPROCESSORS`: one of 1 to 13. -/
def State.asspCoproc (s : State) (cp : BitVec 4) : Bool :=
  s.cfg.coprocessors.getLsbD cp.toNat && cp != 0 && cp != 14 && cp != 15

/-- Coprocessor data aborts occur: `P_CP_DATA_ABORT_USED`, and not with `P_COPROCESSORS` empty (60 R847). -/
def State.coprocAborts (s : State) : Bool := s.cfg.coprocAborts && s.cfg.coprocessors.extractLsb' 1 13 != 0

/-- A coprocessor of the ASSP answers an instruction, freely: it bounces it (Undefined Instruction), aborts it where the product
says that it may, or accepts it (log 48). It answers whether it aborts it. -/
def asspReply : M Bool := do
  let k ← M.draw 2
  let s ← M.state
  if k = 0 then M.stop .undefined else pure (k = 1 && s.coprocAborts)

/-- The data abort of a coprocessor (60 R847). -/
def coprocAbort {α : Type} : M α := M.stop (.abort ⟨0b11010, none, none⟩)

/-- The answer of a coprocessor of the ASSP to an instruction that makes no data access. -/
def asspAnswer : M Unit := do
  if ← asspReply then coprocAbort else pure ()

/-- Access to a coprocessor that is not the core's: one that CPAR denies, or that is not there, is undefined. -/
def asspAccess (cp : BitVec 4) : M Unit := do
  let s ← M.state
  M.defined (s.coprocRight cp && s.asspCoproc cp)
  asspAnswer

/-- An encoding of CP0 that the core does not define: one of the ASSP where `P_CP0_EXTENDED` says so, else refused (U60). -/
def cp0Access : M Unit := do
  accumulatorAccess
  let s ← M.state
  M.require s.cfg.cp0Extended .cp0Unlisted
  asspAnswer

/-- A word that an ASSP coprocessor transfers to a register, or to the flags: any value (43 R626). -/
def asspWord (rd : Reg) : M Unit := do
  let v ← M.draw 32
  if rd = 15 then M.update (·.mapCpsr (·.withTop v)) else setReg rd v

/-- The two words that an ASSP coprocessor transfers to registers: any values (43 R629). -/
def asspPair (rn rd : Reg) : M Unit := do
  allowed (notPc [rn, rd] && rn != rd)
  asspWord rd
  asspWord rn

/-- LDC or STC of an ASSP coprocessor: the coprocessor decides the number of words, here 1 to 16, and what a store stores
(43 R627, log 48). Its abort comes after the faults of the first word's access, which rank higher (20 R203). -/
def asspTransfer (load p u w : Bool) (rn : Reg) (off8 : BitVec 8) : M Unit := do
  allowed (!w || rn != 15)
  let aborts ← asspReply
  let (a, ea) ← coprocAddress p u rn off8
  let n ← M.draw 4
  let words := wordAddresses a (n.toNat + 1)
  noWrap a (4 * (n.toNat + 1))
  let usr ← asUser
  if aborts then do
    let _ ← locate a 4 (if load then .read else .write) usr
    coprocAbort
  else pure ()
  if load then do
    let (_, e) ← loadWords usr words
    match e with
    | some e => M.stop (.abort e)
    | none => pure ()
  else do
    let values ← M.each (fun _ => M.draw 32) words
    storeWords usr (words.zip values)
  writeBack w rn ea
  next

/-- LDC and LDC2 to a coprocessor that is not the core's (43 R628): a transfer of the ASSP's, or the implicit load. -/
def foreignLoad (cp : BitVec 4) (p u w : Bool) (rn : Reg) (off8 : BitVec 8) : M Unit := do
  let s ← M.state
  M.defined (cp != 15 && cp != 14 && cp != 0 && s.coprocRight cp)
  if s.asspCoproc cp then asspTransfer true p u w rn off8 else implicitLoad p u rn off8

/-- STC and STC2 to a coprocessor that is not the core's: one that is absent makes no access (43 R628). -/
def foreignStore (cp : BitVec 4) (p u w : Bool) (rn : Reg) (off8 : BitVec 8) : M Unit := do
  let s ← M.state
  M.defined (s.coprocRight cp && s.asspCoproc cp)
  asspTransfer false p u w rn off8

/-- A register of CP14 that the generic MCR names (12 R140): TBREG leaves the trace buffer any value (U81), others are
not listed (U20). -/
def unlistedDebugWrite (opc1 : BitVec 3) (crn crm : BitVec 4) (opc2 : BitVec 3) : M Unit := do
  M.require (opc1 == 0 && crn == 11 && crm == 0 && opc2 == 0) .unlistedRegister
  M.update State.scrambleTrace
  next

/-! ## The instructions -/

/-- CDP (R621). -/
def execCdp (c : Cond) (_opc1 _crn _crd cp : BitVec 4) (_opc2 : BitVec 3) (_crm : BitVec 4) (s : State) : Outcome :=
  runIf c (do
    if cp = 0 then cp0Access
    else if cp = 7 then M.stop .undefined
    else asspAccess cp
    next) s

/-- MCR (R625). -/
def execMcr (c : Cond) (opc1 : BitVec 3) (crn : BitVec 4) (rd : Reg) (cp : BitVec 4) (opc2 : BitVec 3) (crm : BitVec 4)
    (s : State) : Outcome :=
  runIf c (do
    if cp = 0 then do
      cp0Access
      next
    else if cp = 15 then do
      privilegedOnly
      M.require (identification opc1 crn crm opc2) .unlistedRegister
      allowed (notPc [rd])
      next
    else if cp = 14 then do
      privilegedOnly
      allowed (notPc [rd])
      unlistedDebugWrite opc1 crn crm opc2
    else if cp = 7 then do
      privilegedOnly
      M.require (crm != 2) .unlistedRegister
      asspAccess cp
      allowed (notPc [rd])
      next
    else do
      asspAccess cp
      let _ ← reg rd
      next) s

/-- MRC (R626). -/
def execMrc (c : Cond) (opc1 : BitVec 3) (crn : BitVec 4) (rd : Reg) (cp : BitVec 4) (opc2 : BitVec 3) (crm : BitVec 4)
    (s : State) : Outcome :=
  runIf c (do
    if cp = 0 then do
      cp0Access
      asspWord rd
      next
    else if cp = 15 then do
      privilegedOnly
      M.refuse .unlistedRegister
    else if cp = 14 then do
      privilegedOnly
      M.refuse (if opc1 == 0 && crn == 8 && crm == 0 && opc2 == 0 then .txRead else .unlistedRegister)
    else do
      if cp = 7 then do
        privilegedOnly
        M.require (crm != 2) .unlistedRegister
      else pure ()
      asspAccess cp
      asspWord rd
      next) s

/-- LDC (R627). -/
def execLdc (c : Cond) (p u _n w : Bool) (rn : Reg) (_crd cp : BitVec 4) (off8 : BitVec 8) (s : State) : Outcome :=
  runIf c (foreignLoad cp p u w rn off8) s

/-- STC (R627). -/
def execStc (c : Cond) (p u _n w : Bool) (rn : Reg) (_crd cp : BitVec 4) (off8 : BitVec 8)
    (s : State) : Outcome :=
  runIf c (foreignStore cp p u w rn off8) s

/-- MCRR (R629). -/
def execMcrr (c : Cond) (rn rd : Reg) (cp _opc _crm : BitVec 4) (s : State) : Outcome :=
  runIf c (do
    if cp = 0 then cp0Access else asspAccess cp
    allowed (notPc [rn, rd])
    let _ ← reg rd
    let _ ← reg rn
    next) s

/-- MRRC (R629). -/
def execMrrc (c : Cond) (rn rd : Reg) (cp _opc _crm : BitVec 4) (s : State) : Outcome :=
  runIf c (do
    if cp = 0 then cp0Access else asspAccess cp
    asspPair rn rd
    next) s

/-- The cond = 1111 forms CDP2, MCR2 and MRC2: undefined for the core's coprocessors and CP7 (43 R630). -/
def secondAccess (cp : BitVec 4) : M Unit := do
  M.defined (cp != 7)
  asspAccess cp

/-- CDP2 (R630). -/
def execCdp2 (_opc1 _crn _crd cp : BitVec 4) (_opc2 : BitVec 3) (_crm : BitVec 4) (s : State) : Outcome :=
  finish (do
    secondAccess cp
    next) s

/-- MCR2 (R630). -/
def execMcr2 (_opc1 : BitVec 3) (_crn : BitVec 4) (rd : Reg) (cp : BitVec 4) (_opc2 : BitVec 3) (_crm : BitVec 4)
    (s : State) : Outcome :=
  finish (do
    secondAccess cp
    let _ ← reg rd
    next) s

/-- MRC2 (R630). -/
def execMrc2 (_opc1 : BitVec 3) (_crn : BitVec 4) (rd : Reg) (cp : BitVec 4) (_opc2 : BitVec 3) (_crm : BitVec 4)
    (s : State) : Outcome :=
  finish (do
    secondAccess cp
    asspWord rd
    next) s

/-- LDC2 (R630). -/
def execLdc2 (p u _n w : Bool) (rn : Reg) (_crd cp : BitVec 4) (off8 : BitVec 8) (s : State) : Outcome :=
  finish (foreignLoad cp p u w rn off8) s

/-- STC2 (R630). -/
def execStc2 (p u _n w : Bool) (rn : Reg) (_crd cp : BitVec 4) (off8 : BitVec 8) (s : State) : Outcome :=
  finish (foreignStore cp p u w rn off8) s

end Sys2Proof.Machine
end

