-- ==== Sys2Proof/Machine/Accumulator.lean ====
section
/-! DEFINITION. The media processing coprocessor CP0 (spec 44). -/

namespace Sys2Proof.Machine

/-- The accumulator plus a product, modulo 2^40 (44 R649); an accumulator other than acc0 is the ASSP's, if any (U60). -/
def accumulate (rs : Reg) (acc : BitVec 3) (rm : Reg) (product : Word → Word → Int) : M Unit :=
  if acc != 0 then do
    cp0Access
    next
  else do
    accumulatorAccess
    allowed (notPc [rs, rm])
    let m ← reg rm
    let x ← reg rs
    M.update fun s => s.setAcc0 (s.acc0 + BitVec.ofInt 40 (product m x))
    next

/-- The product of two chosen halves (44 R644). -/
def halves (top1 top2 : Bool) (m x : Word) : Int := (halfOf m top1).toInt * (halfOf x top2).toInt

/-! ## The instructions -/

/-- MIA (R642). -/
def execMia (c : Cond) (rs : Reg) (acc : BitVec 3) (rm : Reg) (s : State) : Outcome :=
  runIf c (accumulate rs acc rm fun m x => m.toInt * x.toInt) s

/-- MIAPH (R643). -/
def execMiaph (c : Cond) (rs : Reg) (acc : BitVec 3) (rm : Reg) (s : State) : Outcome :=
  runIf c (accumulate rs acc rm fun m x => halves true true m x + halves false false m x) s

/-- MIABB (R645). -/
def execMiabb (c : Cond) (rs : Reg) (acc : BitVec 3) (rm : Reg) (s : State) : Outcome :=
  runIf c (accumulate rs acc rm (halves false false)) s

/-- MIABT (R646). -/
def execMiabt (c : Cond) (rs : Reg) (acc : BitVec 3) (rm : Reg) (s : State) : Outcome :=
  runIf c (accumulate rs acc rm (halves false true)) s

/-- MIATB (R651). -/
def execMiatb (c : Cond) (rs : Reg) (acc : BitVec 3) (rm : Reg) (s : State) : Outcome :=
  runIf c (accumulate rs acc rm (halves true false)) s

/-- MIATT (R652). -/
def execMiatt (c : Cond) (rs : Reg) (acc : BitVec 3) (rm : Reg) (s : State) : Outcome :=
  runIf c (accumulate rs acc rm (halves true true)) s

/-- MAR (R647). -/
def execMar (c : Cond) (rdHi rdLo : Reg) (acc : BitVec 3) (s : State) : Outcome :=
  runIf c (if acc != 0 then do
    cp0Access
    next
  else do
    accumulatorAccess
    allowed (notPc [rdHi, rdLo])
    let hi ← reg rdHi
    let lo ← reg rdLo
    M.update (·.setAcc0 (hi.extractLsb' 0 8 ++ lo))
    next) s

/-- MRA (R648). -/
def execMra (c : Cond) (rdHi rdLo : Reg) (acc : BitVec 3) (s : State) : Outcome :=
  runIf c (if acc != 0 then do
    cp0Access
    asspPair rdHi rdLo
    next
  else do
    accumulatorAccess
    allowed (notPc [rdHi, rdLo] && rdHi != rdLo)
    let s ← M.state
    setReg rdLo (s.acc0.extractLsb' 0 32)
    setReg rdHi ((s.acc0.extractLsb' 32 8).signExtend 32)
    next) s

end Sys2Proof.Machine
end

