-- ==== Sys2Proof/Machine/Branch.lean ====
section
/-! DEFINITION. Branches, the status registers, and the instructions that raise exceptions (spec 43 R590 to R611). -/

namespace Sys2Proof.Machine

/-- The target of a B, BL or BLX with a 24-bit offset (43 R590). -/
def branchTarget (pc : Word) (imm24 : BitVec 24) : Word := pc + 8 + (imm24.signExtend 32 <<< 2)

/-- A direct branch. -/
def branchTo (target : State → Word) : M Unit := M.update fun s => s.jump (target s) (.direct true)

/-- Writes R14 with the address of the next ARM instruction. -/
def linkArm : M Unit := M.update fun s => s.writeReg 14 (s.pc + 4)

/-- SWI (43 R610, 60 R833); in Special Debug State it refuses (U71). -/
def raiseSwi : M Unit := do
  let s ← M.state
  M.require (!s.dbg.sds) .sdsUndefined
  M.update State.softwareInterrupt

/-- BKPT (43 R611, 61 R908): a debug exception with DCSR.GE, else only the pc advances; ignored in Special Debug
State (61 R894). -/
def breakpointBody : M Unit := do
  let s ← M.state
  if s.dbg.dcsr.ge && !s.dbg.sds then M.update fun s => s.debugEntry 0b011 (s.pc + 4) true
  else next

/-- The bytes of a status register that a field mask selects (43 R606). -/
def fieldMask (mask : BitVec 4) : Word :=
  (if mask.getLsbD 0 then 0x000000FF else 0) ||| (if mask.getLsbD 1 then 0x0000FF00 else 0) |||
    (if mask.getLsbD 2 then 0x00FF0000 else 0) ||| (if mask.getLsbD 3 then 0xFF000000 else 0)

/-- The masked bits of a status register replaced (43 R606). -/
def Psr.insert (p : Psr) (operand mask : Word) : Psr := Psr.ofWord ((p.toWord &&& ~~~mask) ||| (operand &&& mask))

/-- A mode an MSR may write (43 R606, U12, U14, 61 R894 item 6). -/
def modeWritable (m : BitVec 5) : M Unit := do
  let s ← M.state
  M.require (legalMode m) .illegalMode
  M.require (m != modeDbg || s.dbg.sds) .debugModeOutsideSds
  M.require (m != modeUsr || !s.dbg.sds) .sdsUserMode

/-- MSR (43 R606). -/
def writeStatus (r : Bool) (mask : BitVec 4) (operand : Word) : M Unit := do
  let s ← M.state
  if r then
    match spsrOf s.cpsr.m with
    | none => M.refuse .noSpsr
    | some k =>
      M.update fun s => s.setSpsr (s.spsr.set k (s.spsr[k].insert operand (fieldMask mask &&& 0xF80000FF)))
  else if s.privileged then do
    M.require (!(mask.getLsbD 0 && operand.getLsbD 5)) .operandRestriction
    if mask.getLsbD 0 then modeWritable (operand.extractLsb' 0 5) else pure ()
    M.update (·.mapCpsr fun p => p.insert operand (fieldMask mask &&& 0xF80000DF))
  else M.update (·.mapCpsr fun p => p.insert operand (fieldMask mask &&& 0xF8000000))
  next

/-- MRS (43 R605). -/
def readStatus (r : Bool) (rd : Reg) : M Unit := do
  let s ← M.state
  let p ← if r then readSpsr else pure s.cpsr
  setReg rd p.toWord
  next

/-! ## The instructions -/

/-- B (R590). -/
def execB (c : Cond) (imm24 : BitVec 24) (s : State) : Outcome :=
  runBranch c (.direct false) (branchTo fun s => branchTarget s.pc imm24) s

/-- BL (R591). -/
def execBl (c : Cond) (imm24 : BitVec 24) (s : State) : Outcome :=
  runBranch c (.direct false) (do
    let s0 ← M.state
    linkArm
    branchTo fun _ => branchTarget s0.pc imm24) s

/-- BLX (R592). -/
def execBlxImm (h : Bool) (imm24 : BitVec 24) (s : State) : Outcome :=
  finish (do
    let s0 ← M.state
    linkArm
    M.update fun s => (s.mapCpsr ({ · with t := true })).jump
      (branchTarget s0.pc imm24 + (if h then 2 else 0)) (.indirect true)) s

/-- BLX (R593). -/
def execBlxReg (c : Cond) (sbo sbo2 sbo3 : BitVec 4) (rm : Reg) (s : State) : Outcome :=
  runBranch c (.indirect false) (do
    allowed (isOnes sbo && isOnes sbo2 && isOnes sbo3 && notPc [rm])
    let target ← reg rm
    linkArm
    writePcInterworking target) s

/-- BX (R594). -/
def execBx (c : Cond) (sbo sbo2 sbo3 : BitVec 4) (rm : Reg) (s : State) : Outcome :=
  runBranch c (.indirect false) (do
    allowed (isOnes sbo && isOnes sbo2 && isOnes sbo3)
    let target ← reg rm
    writePcInterworking target) s

/-- MRS (R605). -/
def execMrs (c : Cond) (r : Bool) (sbo : BitVec 4) (rd : Reg) (sbz sbz2 : BitVec 4) (s : State) : Outcome :=
  runIf c (do
    allowed (isOnes sbo && isZero sbz && isZero sbz2 && notPc [rd])
    readStatus r rd) s

/-- MSR (R606). -/
def execMsrImm (c : Cond) (r : Bool) (mask sbo rot : BitVec 4) (imm8 : BitVec 8) (s : State) : Outcome :=
  runIf c (do
    allowed (isOnes sbo)
    writeStatus r mask (rotatedImm rot imm8)) s

/-- MSR (R606). -/
def execMsrReg (c : Cond) (r : Bool) (mask sbo sbz : BitVec 4) (rm : Reg) (s : State) : Outcome :=
  runIf c (do
    allowed (isOnes sbo && isZero sbz)
    let v ← reg rm
    writeStatus r mask v) s

/-- SWI (R610). -/
def execSwi (c : Cond) (_imm24 : BitVec 24) (s : State) : Outcome :=
  runIf c raiseSwi s

/-- BKPT (R611). -/
def execBkpt (_immHi : BitVec 12) (_immLo : BitVec 4) (s : State) : Outcome :=
  finish breakpointBody s

/-- UNDEFINED (R631). -/
def execUndefinedSpace (c : Cond) (_any : BitVec 20) (_any2 : BitVec 4) (s : State) : Outcome :=
  runIf c (M.stop .undefined) s

end Sys2Proof.Machine
end

