-- ==== Sys2Proof/Machine/DataProc.lean ====
section
/-! DEFINITION. Data processing and CLZ (spec 40 R430 to R456). -/

namespace Sys2Proof.Machine

/-- A data-processing instruction with a destination (40 R430 to R434): operand restrictions, both operands, the
result, then flags and destination, or the pc. -/
def dataProcess (op : DpOp) (ok sf : Bool) (a : M Word) (rd : Reg) (so : ShifterOperand) : M Unit := do
  allowed ok
  let x ← a
  let (y, k) ← shifterOperand so
  let s ← M.state
  let r := dpResult op s.cpsr x y k
  if rd = 15 then
    if sf then returnTo r.value else writePc r.value
  else do
    if sf then M.update (·.mapCpsr fun p => p.withNZCV r.value r.carry r.overflow) else pure ()
    setReg rd r.value
    next

/-- Operations with two operands. -/
def dataTwo (op : DpOp) (sf : Bool) (rn rd : Reg) (so : ShifterOperand) : M Unit :=
  dataProcess op (shifterAllowed [rn, rd] so) sf (reg rn) rd so

/-- MOV and MVN, whose Rn field should be zero (40 R453, R455). -/
def dataMove (op : DpOp) (sf : Bool) (sbz : BitVec 4) (rd : Reg) (so : ShifterOperand) : M Unit :=
  dataProcess op (isZero sbz && shifterAllowed [rd] so) sf (pure 0) rd so

/-- TST, TEQ, CMP and CMN: flags only, whose Rd field should be zero (40 R448 to R451). -/
def dataCompare (op : DpOp) (rn : Reg) (sbz : BitVec 4) (so : ShifterOperand) : M Unit := do
  allowed (isZero sbz && shifterAllowed [rn] so)
  let x ← reg rn
  let (y, k) ← shifterOperand so
  M.update fun s =>
    let r := dpResult op s.cpsr x y k
    s.mapCpsr fun p => p.withNZCV r.value r.carry r.overflow
  next

/-! ## The instructions -/

/-- AND (R440). -/
def execAnd (c : Cond) (sf : Bool) (rn rd : Reg) (op : ShifterOperand) (s : State) : Outcome :=
  runToPc (rd == 15) c (dataTwo .and sf rn rd op) s

/-- EOR (R441). -/
def execEor (c : Cond) (sf : Bool) (rn rd : Reg) (op : ShifterOperand) (s : State) : Outcome :=
  runToPc (rd == 15) c (dataTwo .eor sf rn rd op) s

/-- SUB (R442). -/
def execSub (c : Cond) (sf : Bool) (rn rd : Reg) (op : ShifterOperand) (s : State) : Outcome :=
  runToPc (rd == 15) c (dataTwo .sub sf rn rd op) s

/-- RSB (R443). -/
def execRsb (c : Cond) (sf : Bool) (rn rd : Reg) (op : ShifterOperand) (s : State) : Outcome :=
  runToPc (rd == 15) c (dataTwo .rsb sf rn rd op) s

/-- ADD (R444). -/
def execAdd (c : Cond) (sf : Bool) (rn rd : Reg) (op : ShifterOperand) (s : State) : Outcome :=
  runToPc (rd == 15) c (dataTwo .add sf rn rd op) s

/-- ADC (R445). -/
def execAdc (c : Cond) (sf : Bool) (rn rd : Reg) (op : ShifterOperand) (s : State) : Outcome :=
  runToPc (rd == 15) c (dataTwo .adc sf rn rd op) s

/-- SBC (R446). -/
def execSbc (c : Cond) (sf : Bool) (rn rd : Reg) (op : ShifterOperand) (s : State) : Outcome :=
  runToPc (rd == 15) c (dataTwo .sbc sf rn rd op) s

/-- RSC (R447). -/
def execRsc (c : Cond) (sf : Bool) (rn rd : Reg) (op : ShifterOperand) (s : State) : Outcome :=
  runToPc (rd == 15) c (dataTwo .rsc sf rn rd op) s

/-- TST (R448). -/
def execTst (c : Cond) (rn : Reg) (sbz : BitVec 4) (op : ShifterOperand) (s : State) : Outcome :=
  runIf c (dataCompare .tst rn sbz op) s

/-- TEQ (R449). -/
def execTeq (c : Cond) (rn : Reg) (sbz : BitVec 4) (op : ShifterOperand) (s : State) : Outcome :=
  runIf c (dataCompare .teq rn sbz op) s

/-- CMP (R450). -/
def execCmp (c : Cond) (rn : Reg) (sbz : BitVec 4) (op : ShifterOperand) (s : State) : Outcome :=
  runIf c (dataCompare .cmp rn sbz op) s

/-- CMN (R451). -/
def execCmn (c : Cond) (rn : Reg) (sbz : BitVec 4) (op : ShifterOperand) (s : State) : Outcome :=
  runIf c (dataCompare .cmn rn sbz op) s

/-- ORR (R452). -/
def execOrr (c : Cond) (sf : Bool) (rn rd : Reg) (op : ShifterOperand) (s : State) : Outcome :=
  runToPc (rd == 15) c (dataTwo .orr sf rn rd op) s

/-- MOV (R453). -/
def execMov (c : Cond) (sf : Bool) (sbz : BitVec 4) (rd : Reg) (op : ShifterOperand) (s : State) : Outcome :=
  runToPc (rd == 15) c (dataMove .mov sf sbz rd op) s

/-- BIC (R454). -/
def execBic (c : Cond) (sf : Bool) (rn rd : Reg) (op : ShifterOperand) (s : State) : Outcome :=
  runToPc (rd == 15) c (dataTwo .bic sf rn rd op) s

/-- MVN (R455). -/
def execMvn (c : Cond) (sf : Bool) (sbz : BitVec 4) (rd : Reg) (op : ShifterOperand) (s : State) : Outcome :=
  runToPc (rd == 15) c (dataMove .mvn sf sbz rd op) s

/-- CLZ (R456). -/
def execClz (c : Cond) (sbo : BitVec 4) (rd : Reg) (sbo2 : BitVec 4) (rm : Reg) (s : State) : Outcome :=
  runIf c (do
    allowed (isOnes sbo && isOnes sbo2 && notPc [rd, rm])
    let m ← reg rm
    setReg rd (countLeadingZeros m)
    next) s

end Sys2Proof.Machine
end

