-- ==== Sys2Proof/Machine/SystemRegisters.lean ====
section
/-! DEFINITION. The CP15 registers (spec 11). -/

namespace Sys2Proof.Machine

/-- The bits of the Control Register that are state (11 R78). -/
def Ctrl.toWord (c : Ctrl) : Word :=
  0#5 ++ BitVec.ofBool c.l2 ++ 0#12 ++ BitVec.ofBool c.highVectors ++ BitVec.ofBool c.icache ++ BitVec.ofBool c.btb ++
    0#1 ++ BitVec.ofBool c.rom ++ BitVec.ofBool c.system ++ BitVec.ofBool c.bigEndian ++ 0#4 ++ BitVec.ofBool c.dcache ++
    BitVec.ofBool c.align ++ BitVec.ofBool c.mmu

/-- The positions of those bits. -/
def ctrlMask : Word := 0x04003B87

/-- A written Control Register. -/
def Ctrl.ofWord (w : Word) : Ctrl where
  mmu := w.getLsbD 0
  align := w.getLsbD 1
  dcache := w.getLsbD 2
  bigEndian := w.getLsbD 7
  system := w.getLsbD 8
  rom := w.getLsbD 9
  btb := w.getLsbD 11
  icache := w.getLsbD 12
  highVectors := w.getLsbD 13
  l2 := w.getLsbD 26

/-- The product has a byte order (11 R82). -/
def EndianSupport.allows (e : EndianSupport) (big : Bool) : Bool :=
  match e with
  | .little => !big
  | .big => big
  | .both => true

/-- MCR to the Control Register (11 R78, R81 to R83): L2 may be set only before the MMU is ever enabled, or together with it,
and is never cleared (70 R978, U22). A 1 in bits 10, 14 and 15, which read as zero, is ignored: DESIGN CHOICE (log 56). -/
def writeControl (v : Word) : M Unit := do
  zeroBits v 0xFBFF0000
  let s ← M.state
  let old := s.cp15.ctrl
  let new := Ctrl.ofWord v
  M.require (old.l2 == new.l2 || (new.l2 && !(old.mmu || s.cp15.mmuUsed))) .l2EnableChanged
  M.require (EndianSupport.allows s.cfg.endian new.bigEndian) .endianUnsupported
  M.require (!new.dcache || new.mmu) .dcacheWithoutMmu
  M.update (·.mapCp15 fun c => { c with ctrl := new, mmuUsed := c.mmuUsed || new.mmu })

/-- AUXCTRL as read: reserved bits free (11 R84). -/
def readAuxControl : M Word := do
  let s ← M.state
  anyBits (0#20 ++ s.cp15.auxOC ++ 0#4 ++ s.cp15.auxIC ++ 0#2 ++ BitVec.ofBool s.cp15.auxP ++ 0#1) 0xFFFFF3CD

/-- The Control Register as read (11 R78): on a product with no L2 an L2 bit that has been set reads as any value (91 N14,
log 52). -/
def readControl : M Word := do
  let s ← M.state
  let w := s.cp15.ctrl.toWord ||| (s.cfg.ctrlReservedRead &&& ~~~ctrlMask)
  if s.l2Present || !s.cp15.ctrl.l2 then pure w else anyBits w 0x04000000

/-- MCR to AUXCTRL: the LLR attributes change only with no line held (11 R85, U24). -/
def writeAuxControl (v : Word) : M Unit := do
  zeroBits v 0xFFFFF3CD
  let s ← M.state
  let oc : BitVec 2 := v.extractLsb' 10 2
  let ic : BitVec 2 := v.extractLsb' 4 2
  M.require ((oc == s.cp15.auxOC && ic == s.cp15.auxIC) || (s.caches.d.lines.isEmpty && s.caches.l2.lines.isEmpty))
    .llrChangedWithLines
  M.update (·.mapCp15 ({ · with auxOC := oc, auxIC := ic, auxP := v.getLsbD 1 }))

/-- TTBASE as read (11 R86). -/
def readTtBase : M Word := do
  let s ← M.state
  anyBits (s.cp15.ttBase ++ 0#9 ++ s.cp15.ttOC ++ BitVec.ofBool s.cp15.ttP ++ 0#2) 0x00003FE3

/-- MCR to TTBASE (11 R86). -/
def writeTtBase (v : Word) : M Unit := do
  zeroBits v 0x00003FE3
  M.update (·.mapCp15 ({ · with ttBase := v.extractLsb' 14 18, ttOC := v.extractLsb' 3 2, ttP := v.getLsbD 2 }))

/-- FSR as read: bit 8 reads 0 (11 R89). -/
def readFsr : M Word := do
  let s ← M.state
  let f := s.cp15.fsr
  anyBits (0#21 ++ BitVec.ofBool f.x ++ BitVec.ofBool f.d ++ 0#1 ++ f.domain ++ f.status) 0xFFFFF800

/-- MCR to FSR (11 R89). -/
def writeFsr (v : Word) : M Unit := do
  zeroBits v 0xFFFFF900
  M.update (·.mapCp15 ({ · with fsr := ⟨v.getLsbD 10, v.getLsbD 9, v.extractLsb' 4 4, v.extractLsb' 0 4⟩ }))

/-- The Data Cache Lock Register as read (11 R118). -/
def readDcLock : M Word := do
  let s ← M.state
  anyBits (0#31 ++ BitVec.ofBool s.cp15.dcLock) 0xFFFFFFFE

/-- MCR to the Data Cache Lock Register (11 R118). -/
def writeDcLock (v : Word) : M Unit := do
  zeroBits v 0xFFFFFFFE
  M.update (·.mapCp15 ({ · with dcLock := v.getLsbD 0 }))

/-- MCR to the PID register: the BTB becomes invalid (11 R120). -/
def writePid (v : Word) : M Unit := do
  zeroBits v 0x01FFFFFF
  M.update fun s => (s.mapCp15 ({ · with pid := v.extractLsb' 25 7 })).mapCaches ({ · with btb := [] })

/-- Software writes of the breakpoint registers and DCSR are ignored in Halt Mode outside Special Debug State
(61 R895). -/
def State.haltLocked (s : State) : Bool := s.dbg.dcsr.h && !s.dbg.sds

/-- A write of a breakpoint register, ignored where 61 R895 says so. -/
def breakpointWrite (m : M Unit) : M Unit := do
  let s ← M.state
  if s.haltLocked then pure () else m

/-- An instruction breakpoint is not enabled with DCSR.GE = 0 (U73). -/
def breakpointEnable (v : Word) : M Unit := do
  let s ← M.state
  M.require (!v.getLsbD 0 || s.dbg.dcsr.ge) .breakpointWithoutGe

/-- DBR0 is enabled (11 R126). -/
def Dbcon.enabled0 (d : Dbcon) : Bool := d.e0 != 0

/-- DBR1 is enabled, as an address or as the mask of an enabled DBR0 (11 R126). -/
def Dbcon.enabled1 (d : Dbcon) : Bool := if d.mask then d.e0 != 0 else d.e1 != 0

/-- MCR to DBR0: only while it is disabled (11 R126, U74). -/
def writeDbr0 (v : Word) : M Unit := do
  let s ← M.state
  M.require (!s.cp15.dbcon.enabled0) .dbrWrittenEnabled
  M.update (·.mapCp15 ({ · with dbr0 := v }))

/-- MCR to DBR1. -/
def writeDbr1 (v : Word) : M Unit := do
  let s ← M.state
  M.require (!s.cp15.dbcon.enabled1) .dbrWrittenEnabled
  M.update (·.mapCp15 ({ · with dbr1 := v }))

/-- DBCON as read (11 R126). -/
def readDbcon : M Word := do
  let s ← M.state
  let d := s.cp15.dbcon
  anyBits (0#23 ++ BitVec.ofBool d.mask ++ 0#4 ++ d.e1 ++ d.e0) 0xFFFFFEF0

/-- MCR to DBCON (11 R126). -/
def writeDbcon (v : Word) : M Unit := do
  zeroBits v 0xFFFFFEF0
  M.update (·.mapCp15 ({ · with dbcon := ⟨v.getLsbD 8, v.extractLsb' 2 2, v.extractLsb' 0 2⟩ }))

/-- CPAR as read (11 R133). -/
def readCpar : M Word := do
  let s ← M.state
  anyBits (0#18 ++ s.cp15.cpar) 0xFFFFC000

/-- MCR to CPAR (11 R133). -/
def writeCpar (v : Word) : M Unit := do
  zeroBits v 0xFFFFC000
  M.update (·.mapCp15 ({ · with cpar := v.extractLsb' 0 14 }))

/-- The Main ID Register (11 R71). -/
def Config.mainId (c : Config) : Word :=
  0x69#8 ++ 0x05#8 ++ 0b011#3 ++ c.uarchRevision ++ c.productNumber ++ c.productRevision

/-- The L2 Cache Type Register: with no L2 the way-size fields are any value (11 R74). -/
def readL2CacheType : M Word := do
  let s ← M.state
  match s.cfg.l2 with
  | .kb256 => pure 0x0A240240
  | .kb512 => pure 0x0A340340
  | .absent =>
    let w ← M.draw 4
    pure (0x0A#8 ++ w ++ 0#8 ++ w ++ 0#8)

/-- A register that reads as it is held. -/
def plainRead (f : State → Word) : M Word := do
  let s ← M.state
  pure (f s)

/-! ## The instructions -/

/-- MRC_p15__0__Rd__c0__c0__0___read_Main_ID (R71). -/
def execMrcMainId (c : Cond) (rd : Reg) (s : State) : Outcome :=
  systemRead c rd (plainRead fun s => Config.mainId s.cfg) s

/-- MRC_p15__1__Rd__c0__c0__0___read_L2_System_ID (R72). -/
def execMrcL2Id (c : Cond) (rd : Reg) (s : State) : Outcome :=
  systemRead c rd (anyBits 0x69000000 0x00FFFFFF) s

/-- MRC_p15__0__Rd__c0__c0__1___read_Cache_Type (R73). -/
def execMrcCacheType (c : Cond) (rd : Reg) (s : State) : Outcome :=
  systemRead c rd (pure 0x0B192192) s

/-- MRC_p15__1__Rd__c0__c0__1___read_L2_Cache_Type (R74). -/
def execMrcL2CacheType (c : Cond) (rd : Reg) (s : State) : Outcome :=
  systemRead c rd readL2CacheType s

/-- MCR_p15__0__Rd__c1__c0__0___Control_Register (R78). -/
def execMcrControl (c : Cond) (rd : Reg) (s : State) : Outcome :=
  systemWrite c rd writeControl s

/-- MRC_p15__0__Rd__c1__c0__0___Control_Register (R78). -/
def execMrcControl (c : Cond) (rd : Reg) (s : State) : Outcome :=
  systemRead c rd readControl s

/-- MCR_p15__0__Rd__c1__c0__1___Auxiliary_Control_Register (R84). -/
def execMcrAuxControl (c : Cond) (rd : Reg) (s : State) : Outcome :=
  systemWrite c rd writeAuxControl s

/-- MRC_p15__0__Rd__c1__c0__1___Auxiliary_Control_Register (R84). -/
def execMrcAuxControl (c : Cond) (rd : Reg) (s : State) : Outcome :=
  systemRead c rd readAuxControl s

/-- MCR_p15__0__Rd__c2__c0__0___Translation_Table_Base_Regis (R86). -/
def execMcrTtBase (c : Cond) (rd : Reg) (s : State) : Outcome :=
  systemWrite c rd writeTtBase s

/-- MRC_p15__0__Rd__c2__c0__0___Translation_Table_Base_Regis (R86). -/
def execMrcTtBase (c : Cond) (rd : Reg) (s : State) : Outcome :=
  systemRead c rd readTtBase s

/-- MCR_p15__0__Rd__c3__c0__0___Domain_Access_Control_Regist (R87). -/
def execMcrDacr (c : Cond) (rd : Reg) (s : State) : Outcome :=
  systemWrite c rd (fun v => M.update (·.mapCp15 ({ · with dacr := v }))) s

/-- MRC_p15__0__Rd__c3__c0__0___Domain_Access_Control_Regist (R87). -/
def execMrcDacr (c : Cond) (rd : Reg) (s : State) : Outcome :=
  systemRead c rd (plainRead (·.cp15.dacr)) s

/-- MCR_p15__0__Rd__c5__c0__0___Fault_Status_Register (R89). -/
def execMcrFsr (c : Cond) (rd : Reg) (s : State) : Outcome :=
  systemWrite c rd writeFsr s

/-- MRC_p15__0__Rd__c5__c0__0___Fault_Status_Register (R89). -/
def execMrcFsr (c : Cond) (rd : Reg) (s : State) : Outcome :=
  systemRead c rd readFsr s

/-- MCR_p15__0__Rd__c6__c0__0___Fault_Address_Register (R90). -/
def execMcrFar (c : Cond) (rd : Reg) (s : State) : Outcome :=
  systemWrite c rd (fun v => M.update (·.mapCp15 ({ · with far := v }))) s

/-- MRC_p15__0__Rd__c6__c0__0___Fault_Address_Register (R90). -/
def execMrcFar (c : Cond) (rd : Reg) (s : State) : Outcome :=
  systemRead c rd (plainRead (·.cp15.far)) s

/-- MCR_p15__0__Rd__c9__c6__0___Data_Cache_Lock_Register (R698). -/
def execMcrDcLock (c : Cond) (rd : Reg) (s : State) : Outcome :=
  systemWrite c rd writeDcLock s

/-- MRC_p15__0__Rd__c9__c6__0___Data_Cache_Lock_Register (R698). -/
def execMrcDcLock (c : Cond) (rd : Reg) (s : State) : Outcome :=
  systemRead c rd readDcLock s

/-- MCR_p15__0__Rd__c9__c2__0___Data_Cache_Lock_Register__le (R698). -/
def execMcrDcLockLegacy (c : Cond) (rd : Reg) (s : State) : Outcome :=
  systemWrite c rd writeDcLock s

/-- MRC_p15__0__Rd__c9__c2__0___Data_Cache_Lock_Register__le (R698). -/
def execMrcDcLockLegacy (c : Cond) (rd : Reg) (s : State) : Outcome :=
  systemRead c rd readDcLock s

/-- MCR_p15__0__Rd__c13__c0__0___Process_ID_Register (R120). -/
def execMcrPid (c : Cond) (rd : Reg) (s : State) : Outcome :=
  systemWrite c rd writePid s

/-- MRC_p15__0__Rd__c13__c0__0___Process_ID_Register (R120). -/
def execMrcPid (c : Cond) (rd : Reg) (s : State) : Outcome :=
  systemRead c rd (plainRead fun s => s.cp15.pid ++ 0#25) s

/-- MCR_p15__0__Rd__c14__c8__0___IBR0 (R122). -/
def execMcrIbr0 (c : Cond) (rd : Reg) (s : State) : Outcome :=
  systemWrite c rd (fun v => breakpointWrite (do
    breakpointEnable v
    M.update (·.mapCp15 ({ · with ibr0 := v })))) s

/-- MRC_p15__0__Rd__c14__c8__0___IBR0 (R122). -/
def execMrcIbr0 (c : Cond) (rd : Reg) (s : State) : Outcome :=
  systemRead c rd (plainRead (·.cp15.ibr0)) s

/-- MCR_p15__0__Rd__c14__c9__0___IBR1 (R123). -/
def execMcrIbr1 (c : Cond) (rd : Reg) (s : State) : Outcome :=
  systemWrite c rd (fun v => breakpointWrite (do
    breakpointEnable v
    M.update (·.mapCp15 ({ · with ibr1 := v })))) s

/-- MRC_p15__0__Rd__c14__c9__0___IBR1 (R123). -/
def execMrcIbr1 (c : Cond) (rd : Reg) (s : State) : Outcome :=
  systemRead c rd (plainRead (·.cp15.ibr1)) s

/-- MCR_p15__0__Rd__c14__c0__0___DBR0 (R124). -/
def execMcrDbr0 (c : Cond) (rd : Reg) (s : State) : Outcome :=
  systemWrite c rd (fun v => breakpointWrite (writeDbr0 v)) s

/-- MRC_p15__0__Rd__c14__c0__0___DBR0 (R124). -/
def execMrcDbr0 (c : Cond) (rd : Reg) (s : State) : Outcome :=
  systemRead c rd (plainRead (·.cp15.dbr0)) s

/-- MCR_p15__0__Rd__c14__c3__0___DBR1 (R125). -/
def execMcrDbr1 (c : Cond) (rd : Reg) (s : State) : Outcome :=
  systemWrite c rd (fun v => breakpointWrite (writeDbr1 v)) s

/-- MRC_p15__0__Rd__c14__c3__0___DBR1 (R125). -/
def execMrcDbr1 (c : Cond) (rd : Reg) (s : State) : Outcome :=
  systemRead c rd (plainRead (·.cp15.dbr1)) s

/-- MCR_p15__0__Rd__c14__c4__0___DBCON (R126). -/
def execMcrDbcon (c : Cond) (rd : Reg) (s : State) : Outcome :=
  systemWrite c rd (fun v => breakpointWrite (writeDbcon v)) s

/-- MRC_p15__0__Rd__c14__c4__0___DBCON (R126). -/
def execMrcDbcon (c : Cond) (rd : Reg) (s : State) : Outcome :=
  systemRead c rd readDbcon s

/-- MCR_p15__0__Rd__c15__c1__0___Coprocessor_Access_Register (R133). -/
def execMcrCpar (c : Cond) (rd : Reg) (s : State) : Outcome :=
  systemWrite c rd writeCpar s

/-- MRC_p15__0__Rd__c15__c1__0___Coprocessor_Access_Register (R133). -/
def execMrcCpar (c : Cond) (rd : Reg) (s : State) : Outcome :=
  systemRead c rd readCpar s

end Sys2Proof.Machine
end

