-- ==== Sys2Proof/Machine/DebugRegisters.lean ====
section
/-! DEFINITION. The CP14 and CP7 registers (spec 12). -/

namespace Sys2Proof.Machine

/-! ## Performance monitoring (12 R141 to R149) -/

/-- Changes the performance monitor. -/
def State.mapPmu (s : State) (f : Pmu → Pmu) : State := s.setPmu (f s.pmu)

/-- The event counters count (12 R147). -/
def Pmu.counting (p : Pmu) : Bool := p.enable && !p.disable

/-- Counters and flags after a use outside 12 R149: any value (U31). -/
def scramblePmu : M Unit := do
  let v ← M.draw 165
  M.update (·.mapPmu fun p => { p with
    ccnt := v.extractLsb' 128 32
    pmn := Vector.ofFn (fun i : Fin 4 => v.extractLsb' (32 * i.val) 32)
    flag := v.extractLsb' 160 5 })

/-- PMNC as read: C and P read 0 (12 R141). -/
def readPmnc : M Word := do
  let s ← M.state
  let p := s.pmu
  anyBits (0x24#8 ++ 0#19 ++ BitVec.ofBool p.disable ++ BitVec.ofBool p.divide ++ 0#2 ++ BitVec.ofBool p.enable) 0x00FFFFE0

/-- MCR to PMNC (12 R141). C also restarts the divide-by-64 phase of CCNT, which a write of CCNT itself keeps: DESIGN CHOICE
(log 4). A reset of the event counters that also disables them, or while they count, leaves counters and flags any value
(12 R149, 70 R986, U31). -/
def writePmnc (v : Word) : M Unit := do
  zeroBits v 0x00FFFFE0
  let s ← M.state
  M.update (·.mapPmu fun p => { p with
    enable := v.getLsbD 0
    divide := v.getLsbD 3
    disable := v.getLsbD 4
    ccnt := if v.getLsbD 2 then 0 else p.ccnt
    phase := if v.getLsbD 2 then 0 else p.phase
    pmn := if v.getLsbD 1 then Vector.replicate 4 0 else p.pmn })
  if v.getLsbD 1 && (s.pmu.counting || !(v.getLsbD 0 && !v.getLsbD 4)) then scramblePmu else pure ()

/-- A register of five bits with the others free. -/
def readFive (f : State → BitVec 5) : M Word := do
  let s ← M.state
  anyBits (0#27 ++ f s) 0xFFFFFFE0

/-- MCR to INTEN (12 R143). -/
def writeInten (v : Word) : M Unit := do
  zeroBits v 0xFFFFFFE0
  M.update (·.mapPmu ({ · with inten := v.extractLsb' 0 5 }))

/-- MCR to FLAG: ones clear (12 R144); reserved bits are ignored, so that a value read may be written back (log 43). -/
def writeFlag (v : Word) : M Unit :=
  M.update (·.mapPmu fun p => { p with flag := p.flag &&& ~~~(v.extractLsb' 0 5) })

/-- MCR to EVTSEL: while counting, counters and flags are any value (12 R149, U31). -/
def writeEvtsel (v : Word) : M Unit := do
  let s ← M.state
  if s.pmu.counting then scramblePmu else pure ()
  M.update (·.mapPmu ({ · with evtsel := v }))

/-- MCR to a performance counter (12 R146). -/
def writePmn (i : Fin 4) (v : Word) : M Unit := M.update (·.mapPmu fun p => { p with pmn := p.pmn.set i v })

/-! ## Clock and power (12 R151, R152) -/

/-- A register of four bits with the others free. -/
def readFour (f : State → BitVec 4) : M Word := do
  let s ← M.state
  anyBits (0#28 ++ f s) 0xFFFFFFF0

/-- CCLKCFG as read: the current setting, any value where the ASSP sets it (12 R152, `P_CCLKCFG`). -/
def readCclkcfg : M Word := do
  let s ← M.state
  let w ← readFour (·.clk.cclkcfg)
  if s.cfg.clockDefined then anyBits w 0x0000000F else pure w

/-- MCR to CCLKCFG (12 R152). -/
def writeCclkcfg (v : Word) : M Unit := do
  zeroBits v 0xFFFFFFF0
  M.update fun s => s.setClk { s.clk with cclkcfg := v.extractLsb' 0 4 }

/-- MCR to PWRMODE (12 R151, 61 R950): a mode that the ASSP does not give the core runs on, and M reads 0. -/
def writePwrmode (v : Word) : M Unit := do
  zeroBits v 0xFFFFFFF0
  M.update fun s => s.setClk { s.clk with
    pwrmode := if s.cfg.pwrIdle.getLsbD (v.extractLsb' 0 4).toNat then v.extractLsb' 0 4 else 0 }

/-! ## Debug (12 R153 to R161) -/

/-- MCR to TX: sets TR (12 R157). -/
def writeTx (v : Word) : M Unit := M.update (·.mapDebug ({ · with tx := v, txr := true }))

/-- MRC of RX: clears RR (12 R158). -/
def readRx : M Word := do
  let s ← M.state
  M.update (·.mapDebug ({ · with rr := false }))
  pure s.dbg.rx

/-- DCSR as read (12 R154). -/
def readDcsr : M Word := do
  let s ← M.state
  anyBits s.dcsrWord 0x1F20FF80

/-- The bits of DCSR that software writes (12 R154). -/
def Dcsr.withSoftware (d : Dcsr) (v : Word) : Dcsr :=
  { d with
    ge := v.getLsbD 31, tt := v.getLsbD 6, sa := v.getLsbD 5, moe := v.extractLsb' 2 3, m := v.getLsbD 1, e := v.getLsbD 0 }

/-- MCR to DCSR (12 R154, R155; 61 R895): TT or M changed while tracing leaves the trace buffer any value (U81). E going from 0 to 1
restarts the written-entry count (92 D34, log 30); enabling the buffer, by E or by GE, sets the instruction count to 0 (61
R940, R943). -/
def writeDcsr (v : Word) : M Unit := breakpointWrite (do
  zeroBits v 0x1F20FF80
  let s ← M.state
  let old := s.dbg.dcsr
  if s.tracing && (old.tt != v.getLsbD 6 || old.m != v.getLsbD 1) then M.update State.scrambleTrace else pure ()
  M.update (·.mapDebug fun d => { d with dcsr := d.dcsr.withSoftware v })
  if v.getLsbD 0 && !old.e then M.update fun s => s.setTrace { s.trace with written := 0 } else pure ()
  if v.getLsbD 0 && v.getLsbD 31 && !(old.e && old.ge) then M.update (·.setCount 0) else pure ())

/-- MRC of TBREG: pops the oldest trace entry (12 R159); while tracing the result and the buffer are any value (U81). -/
def readTbreg : M Word := do
  let s ← M.state
  let any ← M.draw 24
  if s.tracing then do
    M.update State.scrambleTrace
    let b ← M.draw 8
    pure (any ++ b)
  else do
    let s ← M.state
    let (b, s') := s.popTrace
    M.update fun _ => s'
    pure (any ++ b)

/-- MRC of a checkpoint register: any value while tracing (12 R160, U81). -/
def readChkpt (f : Debug → Word) : M Word := do
  let s ← M.state
  if s.tracing then do
    M.update State.scrambleTrace
    M.draw 32
  else pure (f s.dbg)

/-- MCR to a checkpoint register: while tracing it and the trace buffer are any value (12 R160, U81). -/
def writeChkpt (put : Debug → Word → Debug) (v : Word) : M Unit := do
  let s ← M.state
  if s.tracing then do
    M.update State.scrambleTrace
    let any ← M.draw 32
    M.update (·.mapDebug fun d => put d any)
  else M.update (·.mapDebug fun d => put d v)

/-- TXRXCTRL as read (12 R156). -/
def readTxrxctrl : M Word := do
  let s ← M.state
  let d := s.dbg
  anyBits (BitVec.ofBool d.rr ++ BitVec.ofBool d.ov ++ BitVec.ofBool d.dl ++ BitVec.ofBool d.txr ++ 0#28) 0x0FFFFFFF

/-- MCR to TXRXCTRL: only OV is written (12 R156). -/
def writeTxrxctrl (v : Word) : M Unit := do
  zeroBits v 0x0FFFFFFF
  M.update (·.mapDebug ({ · with ov := v.getLsbD 30 }))

/-- The CP14 register that an LDC loads (12 R162); others refuse (U30). -/
def debugRegisterWrite (crd : BitVec 4) : Option (Word → M Unit) :=
  match crd.toNat with
  | 6 => some writeCclkcfg
  | 7 => some writePwrmode
  | 8 => some writeTx
  | 10 => some writeDcsr
  | 12 => some (writeChkpt fun d v => { d with chkpt0 := v })
  | 13 => some (writeChkpt fun d v => { d with chkpt1 := v })
  | 14 => some writeTxrxctrl
  | _ => none

/-- The CP14 register that an STC stores (12 R162): naming TX refuses as a read of TX (U32). -/
def debugRegisterRead (crd : BitVec 4) : Option (M Word) :=
  match crd.toNat with
  | 6 => some readCclkcfg
  | 7 => some (readFour (·.clk.pwrmode))
  | 8 => some (M.refuse .txRead)
  | 9 => some readRx
  | 10 => some readDcsr
  | 11 => some readTbreg
  | 12 => some (readChkpt (·.chkpt0))
  | 13 => some (readChkpt (·.chkpt1))
  | 14 => some readTxrxctrl
  | _ => none

/-! ## CP7 (12 R170 to R174) -/

/-- ERRLOG as read (12 R171). -/
def readErrlog : M Word := do
  let s ← M.state
  anyBits (0#24 ++ s.errlog.log) 0xFFFFFF00

/-- MCR to ERRLOG (12 R171). -/
def writeErrlog (v : Word) : M Unit := do
  zeroBits v 0xFFFFFF00
  M.update fun s => s.setErrlog { s.errlog with log := v.extractLsb' 0 8 }

/-- MCR to ERRADRU (12 R174). -/
def writeErradru (v : Word) : M Unit := do
  zeroBits v 0xFFFFFFF0
  M.update fun s => s.setErrlog { s.errlog with adrU := v.extractLsb' 0 4 }

/-! ## The instructions -/

/-- MCR_p14__0__Rd__c0__c1__0___PMNC (R141). -/
def execMcrPmnc (c : Cond) (rd : Reg) (s : State) : Outcome :=
  systemWrite c rd writePmnc s

/-- MRC_p14__0__Rd__c0__c1__0___PMNC (R141). -/
def execMrcPmnc (c : Cond) (rd : Reg) (s : State) : Outcome :=
  flagRead c rd readPmnc s

/-- MCR_p14__0__Rd__c1__c1__0___CCNT (R142). -/
def execMcrCcnt (c : Cond) (rd : Reg) (s : State) : Outcome :=
  systemWrite c rd (fun v => M.update (·.mapPmu ({ · with ccnt := v }))) s

/-- MRC_p14__0__Rd__c1__c1__0___CCNT (R142). -/
def execMrcCcnt (c : Cond) (rd : Reg) (s : State) : Outcome :=
  flagRead c rd (plainRead (·.pmu.ccnt)) s

/-- MCR_p14__0__Rd__c4__c1__0___INTEN (R143). -/
def execMcrInten (c : Cond) (rd : Reg) (s : State) : Outcome :=
  systemWrite c rd writeInten s

/-- MRC_p14__0__Rd__c4__c1__0___INTEN (R143). -/
def execMrcInten (c : Cond) (rd : Reg) (s : State) : Outcome :=
  flagRead c rd (readFive (·.pmu.inten)) s

/-- MCR_p14__0__Rd__c5__c1__0___FLAG (R144). -/
def execMcrFlag (c : Cond) (rd : Reg) (s : State) : Outcome :=
  systemWrite c rd writeFlag s

/-- MRC_p14__0__Rd__c5__c1__0___FLAG (R144). -/
def execMrcFlag (c : Cond) (rd : Reg) (s : State) : Outcome :=
  flagRead c rd (readFive (·.pmu.flag)) s

/-- MCR_p14__0__Rd__c8__c1__0___EVTSEL (R145). -/
def execMcrEvtsel (c : Cond) (rd : Reg) (s : State) : Outcome :=
  systemWrite c rd writeEvtsel s

/-- MRC_p14__0__Rd__c8__c1__0___EVTSEL (R145). -/
def execMrcEvtsel (c : Cond) (rd : Reg) (s : State) : Outcome :=
  flagRead c rd (plainRead (·.pmu.evtsel)) s

/-- MCR_p14__0__Rd__c0__c2__0___PMN0 (R146). -/
def execMcrPmn0 (c : Cond) (rd : Reg) (s : State) : Outcome :=
  systemWrite c rd (writePmn 0) s

/-- MRC_p14__0__Rd__c0__c2__0___PMN0 (R146). -/
def execMrcPmn0 (c : Cond) (rd : Reg) (s : State) : Outcome :=
  flagRead c rd (plainRead fun s => s.pmu.pmn[0]) s

/-- MCR_p14__0__Rd__c1__c2__0___PMN1 (R146). -/
def execMcrPmn1 (c : Cond) (rd : Reg) (s : State) : Outcome :=
  systemWrite c rd (writePmn 1) s

/-- MRC_p14__0__Rd__c1__c2__0___PMN1 (R146). -/
def execMrcPmn1 (c : Cond) (rd : Reg) (s : State) : Outcome :=
  flagRead c rd (plainRead fun s => s.pmu.pmn[1]) s

/-- MCR_p14__0__Rd__c2__c2__0___PMN2 (R146). -/
def execMcrPmn2 (c : Cond) (rd : Reg) (s : State) : Outcome :=
  systemWrite c rd (writePmn 2) s

/-- MRC_p14__0__Rd__c2__c2__0___PMN2 (R146). -/
def execMrcPmn2 (c : Cond) (rd : Reg) (s : State) : Outcome :=
  flagRead c rd (plainRead fun s => s.pmu.pmn[2]) s

/-- MCR_p14__0__Rd__c3__c2__0___PMN3 (R146). -/
def execMcrPmn3 (c : Cond) (rd : Reg) (s : State) : Outcome :=
  systemWrite c rd (writePmn 3) s

/-- MRC_p14__0__Rd__c3__c2__0___PMN3 (R146). -/
def execMrcPmn3 (c : Cond) (rd : Reg) (s : State) : Outcome :=
  flagRead c rd (plainRead fun s => s.pmu.pmn[3]) s

/-- MCR_p14__0__Rd__c6__c0__0___CCLKCFG (R152). -/
def execMcrCclkcfg (c : Cond) (rd : Reg) (s : State) : Outcome :=
  systemWrite c rd writeCclkcfg s

/-- MRC_p14__0__Rd__c6__c0__0___CCLKCFG (R152). -/
def execMrcCclkcfg (c : Cond) (rd : Reg) (s : State) : Outcome :=
  flagRead c rd readCclkcfg s

/-- MCR_p14__0__Rd__c7__c0__0___PWRMODE (R151). -/
def execMcrPwrmode (c : Cond) (rd : Reg) (s : State) : Outcome :=
  systemWrite c rd writePwrmode s

/-- MRC_p14__0__Rd__c7__c0__0___PWRMODE (R151). -/
def execMrcPwrmode (c : Cond) (rd : Reg) (s : State) : Outcome :=
  flagRead c rd (readFour (·.clk.pwrmode)) s

/-- MCR_p14__0__Rd__c8__c0__0___TX (R157). -/
def execMcrTx (c : Cond) (rd : Reg) (s : State) : Outcome :=
  systemWrite c rd writeTx s

/-- MRC_p14__0__Rd__c9__c0__0___RX (R158). -/
def execMrcRx (c : Cond) (rd : Reg) (s : State) : Outcome :=
  flagRead c rd readRx s

/-- MCR_p14__0__Rd__c10__c0__0___DCSR (R154). -/
def execMcrDcsr (c : Cond) (rd : Reg) (s : State) : Outcome :=
  systemWrite c rd writeDcsr s

/-- MRC_p14__0__Rd__c10__c0__0___DCSR (R154). -/
def execMrcDcsr (c : Cond) (rd : Reg) (s : State) : Outcome :=
  flagRead c rd readDcsr s

/-- MRC_p14__0__Rd__c11__c0__0___TBREG (R159). -/
def execMrcTbreg (c : Cond) (rd : Reg) (s : State) : Outcome :=
  flagRead c rd readTbreg s

/-- MCR_p14__0__Rd__c12__c0__0___CHKPT0 (R160). -/
def execMcrChkpt0 (c : Cond) (rd : Reg) (s : State) : Outcome :=
  systemWrite c rd (writeChkpt fun d v => { d with chkpt0 := v }) s

/-- MRC_p14__0__Rd__c12__c0__0___CHKPT0 (R160). -/
def execMrcChkpt0 (c : Cond) (rd : Reg) (s : State) : Outcome :=
  flagRead c rd (readChkpt (·.chkpt0)) s

/-- MCR_p14__0__Rd__c13__c0__0___CHKPT1 (R160). -/
def execMcrChkpt1 (c : Cond) (rd : Reg) (s : State) : Outcome :=
  systemWrite c rd (writeChkpt fun d v => { d with chkpt1 := v }) s

/-- MRC_p14__0__Rd__c13__c0__0___CHKPT1 (R160). -/
def execMrcChkpt1 (c : Cond) (rd : Reg) (s : State) : Outcome :=
  flagRead c rd (readChkpt (·.chkpt1)) s

/-- MCR_p14__0__Rd__c14__c0__0___TXRXCTRL (R156). -/
def execMcrTxrxctrl (c : Cond) (rd : Reg) (s : State) : Outcome :=
  systemWrite c rd writeTxrxctrl s

/-- MRC_p14__0__Rd__c14__c0__0___TXRXCTRL (R156). -/
def execMrcTxrxctrl (c : Cond) (rd : Reg) (s : State) : Outcome :=
  flagRead c rd readTxrxctrl s

/-- LDC_p14__c_N____addressing_mode (R162). -/
def execLdcP14 (c : Cond) (p u _n w : Bool) (rn : Reg) (crd : BitVec 4) (off8 : BitVec 8) (s : State) : Outcome :=
  runIf c (do
    privilegedOnly
    allowed (!w || rn != 15)
    match debugRegisterWrite crd with
    | none => M.refuse .coprocTransferUnlisted
    | some write => do
      let (a, ea) ← coprocAddress p u rn off8
      let v ← memRead a 4 false
      write v
      writeBack w rn ea
      next) s

/-- STC_p14__c_N____addressing_mode (R162). -/
def execStcP14 (c : Cond) (p u _n w : Bool) (rn : Reg) (crd : BitVec 4) (off8 : BitVec 8) (s : State) : Outcome :=
  runIf c (do
    privilegedOnly
    allowed (!w || rn != 15)
    match debugRegisterRead crd with
    | none => M.refuse .coprocTransferUnlisted
    | some read => do
      let (a, ea) ← coprocAddress p u rn off8
      let l ← locate a 4 .write false
      let v ← read
      dWrite l.mva l.pa l.attr 4 v
      writeBack w rn ea
      next) s

/-- MCR_p7__0__Rd__c0__c2__0___ERRLOG (R171). -/
def execMcrErrlog (c : Cond) (rd : Reg) (s : State) : Outcome :=
  systemWrite c rd writeErrlog s

/-- MRC_p7__0__Rd__c0__c2__0___ERRLOG (R171). -/
def execMrcErrlog (c : Cond) (rd : Reg) (s : State) : Outcome :=
  flagRead c rd readErrlog s

/-- MCR_p7__0__Rd__c1__c2__0___ERRADRL (R173). -/
def execMcrErradrl (c : Cond) (rd : Reg) (s : State) : Outcome :=
  systemWrite c rd (fun v => M.update fun s => s.setErrlog { s.errlog with adrL := v }) s

/-- MRC_p7__0__Rd__c1__c2__0___ERRADRL (R173). -/
def execMrcErradrl (c : Cond) (rd : Reg) (s : State) : Outcome :=
  flagRead c rd (plainRead (·.errlog.adrL)) s

/-- MCR_p7__0__Rd__c2__c2__0___ERRADRU (R174). -/
def execMcrErradru (c : Cond) (rd : Reg) (s : State) : Outcome :=
  systemWrite c rd writeErradru s

/-- MRC_p7__0__Rd__c2__c2__0___ERRADRU (R174). -/
def execMrcErradru (c : Cond) (rd : Reg) (s : State) : Outcome :=
  flagRead c rd (readFour (·.errlog.adrU)) s

end Sys2Proof.Machine
end

