-- ==== Sys2Proof/Machine/Multiply.lean ====
section
/-! DEFINITION. Multiplies and the Enhanced DSP instructions (spec 41). -/

namespace Sys2Proof.Machine

/-- MUL and MLA: the low word, N and Z where S (41 R485, R486). -/
def multiplyWord (sf : Bool) (rd : Reg) (r : Word) : M Unit := do
  if sf then M.update (·.mapCpsr fun p => p.withNZ r) else pure ()
  setReg rd r
  next

/-- A 64-bit result in RdHi and RdLo, N and Z where S (41 R487 to R490). -/
def multiplyLong (sf : Bool) (rdHi rdLo : Reg) (r : BitVec 64) : M Unit := do
  if sf then M.update (·.mapCpsr fun p => p.withNZ64 r) else pure ()
  setReg rdLo (r.extractLsb' 0 32)
  setReg rdHi (r.extractLsb' 32 32)
  next

/-- The exact unsigned product (41 R487). -/
def unsignedProduct (a b : Word) : BitVec 64 := BitVec.ofNat 64 (a.toNat * b.toNat)

/-- The exact signed product (41 R489). -/
def signedProduct (a b : Word) : BitVec 64 := BitVec.ofInt 64 (a.toInt * b.toInt)

/-- A long multiply: the product of Rm and Rs, plus RdHi and RdLo where it accumulates (41 R487 to R490, R481). -/
def longMultiply (product : Word → Word → BitVec 64) (accumulate sf : Bool) (rdHi rdLo rs rm : Reg) : M Unit := do
  allowed (notPc [rdHi, rdLo, rs, rm] && rdHi != rdLo)
  let m ← reg rm
  let x ← reg rs
  if accumulate then do
    let hi ← reg rdHi
    let lo ← reg rdLo
    multiplyLong sf rdHi rdLo (product m x + (hi ++ lo))
  else multiplyLong sf rdHi rdLo (product m x)

/-- A word result that may set Q (41 R497, R502). -/
def writeSticky (rd : Reg) (r : Word) (sat : Bool) : M Unit := do
  M.update (·.mapCpsr fun p => p.stickyQ sat)
  setReg rd r
  next

/-- The product of two selected halves (41 R495). -/
def halfProduct (m : Word) (x : Bool) (r : Word) (y : Bool) : Int := (halfOf m x).toInt * (halfOf r y).toInt

/-- The top 32 bits of the 48-bit product of a word and a selected half (41 R496). -/
def wideProduct (m r : Word) (y : Bool) : Word := (BitVec.ofInt 48 (m.toInt * (halfOf r y).toInt)).extractLsb' 16 32

/-- A saturating addition or subtraction of Rm and Rn, Rn doubled first where `double` (41 R502 to R505). -/
def saturating (double subtract : Bool) (rn rd : Reg) (sbz : BitVec 4) (rm : Reg) : M Unit := do
  allowed (isZero sbz && notPc [rn, rd, rm])
  let m ← reg rm
  let x ← reg rn
  let (d, sat1) := if double then signedSat (2 * x.toInt) else (x, false)
  let (r, sat2) := signedSat (if subtract then m.toInt - d.toInt else m.toInt + d.toInt)
  writeSticky rd r (sat1 || sat2)

/-! ## The instructions -/

/-- MUL (R485). -/
def execMul (c : Cond) (sf : Bool) (rd : Reg) (sbz : BitVec 4) (rs rm : Reg) (s : State) : Outcome :=
  runIf c (do
    allowed (isZero sbz && notPc [rd, rs, rm])
    let m ← reg rm
    let x ← reg rs
    multiplyWord sf rd (m * x)) s

/-- MLA (R486). -/
def execMla (c : Cond) (sf : Bool) (rd rn rs rm : Reg) (s : State) : Outcome :=
  runIf c (do
    allowed (notPc [rd, rn, rs, rm])
    let m ← reg rm
    let x ← reg rs
    let n ← reg rn
    multiplyWord sf rd (m * x + n)) s

/-- UMULL (R487). -/
def execUmull (c : Cond) (sf : Bool) (rdHi rdLo rs rm : Reg) (s : State) : Outcome :=
  runIf c (longMultiply unsignedProduct false sf rdHi rdLo rs rm) s

/-- UMLAL (R488). -/
def execUmlal (c : Cond) (sf : Bool) (rdHi rdLo rs rm : Reg) (s : State) : Outcome :=
  runIf c (longMultiply unsignedProduct true sf rdHi rdLo rs rm) s

/-- SMULL (R489). -/
def execSmull (c : Cond) (sf : Bool) (rdHi rdLo rs rm : Reg) (s : State) : Outcome :=
  runIf c (longMultiply signedProduct false sf rdHi rdLo rs rm) s

/-- SMLAL (R490). -/
def execSmlal (c : Cond) (sf : Bool) (rdHi rdLo rs rm : Reg) (s : State) : Outcome :=
  runIf c (longMultiply signedProduct true sf rdHi rdLo rs rm) s

/-- SMUL<x><y> (R495). -/
def execSmulxy (c : Cond) (rd : Reg) (sbz : BitVec 4) (rs : Reg) (y x : Bool) (rm : Reg) (s : State) : Outcome :=
  runIf c (do
    allowed (isZero sbz && notPc [rd, rs, rm])
    let m ← reg rm
    let r ← reg rs
    setReg rd (BitVec.ofInt 32 (halfProduct m x r y))
    next) s

/-- SMULW<y> (R496). -/
def execSmulwy (c : Cond) (rd : Reg) (sbz : BitVec 4) (rs : Reg) (y : Bool) (rm : Reg) (s : State) : Outcome :=
  runIf c (do
    allowed (isZero sbz && notPc [rd, rs, rm])
    let m ← reg rm
    let r ← reg rs
    setReg rd (wideProduct m r y)
    next) s

/-- SMLA<x><y> (R497). -/
def execSmlaxy (c : Cond) (rd rn rs : Reg) (y x : Bool) (rm : Reg) (s : State) : Outcome :=
  runIf c (do
    allowed (notPc [rd, rn, rs, rm])
    let m ← reg rm
    let r ← reg rs
    let n ← reg rn
    let (v, ov) := addSigned (halfProduct m x r y) n.toInt
    writeSticky rd v ov) s

/-- SMLAW<y> (R498). -/
def execSmlawy (c : Cond) (rd rn rs : Reg) (y : Bool) (rm : Reg) (s : State) : Outcome :=
  runIf c (do
    allowed (notPc [rd, rn, rs, rm])
    let m ← reg rm
    let r ← reg rs
    let n ← reg rn
    let (v, ov) := addSigned (wideProduct m r y).toInt n.toInt
    writeSticky rd v ov) s

/-- SMLAL<x><y> (R499). -/
def execSmlalxy (c : Cond) (rdHi rdLo rs : Reg) (y x : Bool) (rm : Reg) (s : State) : Outcome :=
  runIf c (do
    allowed (notPc [rdHi, rdLo, rs, rm] && rdHi != rdLo)
    let m ← reg rm
    let r ← reg rs
    let hi ← reg rdHi
    let lo ← reg rdLo
    multiplyLong false rdHi rdLo ((hi ++ lo) + BitVec.ofInt 64 (halfProduct m x r y))) s

/-- QADD (R502). -/
def execQadd (c : Cond) (rn rd : Reg) (sbz : BitVec 4) (rm : Reg) (s : State) : Outcome :=
  runIf c (saturating false false rn rd sbz rm) s

/-- QSUB (R503). -/
def execQsub (c : Cond) (rn rd : Reg) (sbz : BitVec 4) (rm : Reg) (s : State) : Outcome :=
  runIf c (saturating false true rn rd sbz rm) s

/-- QDADD (R504). -/
def execQdadd (c : Cond) (rn rd : Reg) (sbz : BitVec 4) (rm : Reg) (s : State) : Outcome :=
  runIf c (saturating true false rn rd sbz rm) s

/-- QDSUB (R505). -/
def execQdsub (c : Cond) (rn rd : Reg) (sbz : BitVec 4) (rm : Reg) (s : State) : Outcome :=
  runIf c (saturating true true rn rd sbz rm) s

end Sys2Proof.Machine
end

