-- ==== Sys2Proof/Machine/SystemFunctions.lean ====
section
/-! DEFINITION. Cache, barrier, TLB and lock functions (spec 45). -/

namespace Sys2Proof.Machine

/-! ## Level 1 caches and the BTB (45 R664 to R673) -/

/-- Every I-cache line that is not locked becomes invalid, the fetch buffers and the BTB empty (45 R664); the replacement
state is as after reset (22 R314, log 18). -/
def State.invalidateI (s : State) : State :=
  ((s.mapI fun i => { i with lines := mapKeys (fun _ x => if x.locked then some x else none) i.lines, lru := [] }).emptyBuffers).mapCaches
    ({ · with btb := [] })

/-- The I-cache line of an MVA becomes invalid and unlocked, and its way the next victim (45 R665). -/
def State.invalidateILine (s : State) (mva : Word) : State :=
  let set := l1Set (mvaLine mva)
  (match s.iFind (mvaLine mva) with
    | some (way, _) => s.mapI fun i => { i with
        lines := eraseKey (4 * set + way) i.lines
        lru := insertKey set ((lruAt i.lru set).point way) i.lru }
    | none => s).emptyBuffers

/-- Every D-cache line that is not locked becomes invalid, dirty or not (45 R667); the replacement state stays (45 R663). -/
def State.invalidateD (s : State) : State :=
  s.mapD fun d => { d with lines := mapKeys (fun _ x => if x.locked then some x else none) d.lines }

/-- The D-cache functions need the MMU (45 R663, U56). -/
def dFunction : M Unit := do
  let s ← M.state
  M.require s.cp15.ctrl.mmu .dcacheWithoutMmu

/-- A D-cache line cleaned: written to the next level if dirty (45 R662), an L2 request that is a cache operation. -/
def dClean (set way : Nat) (x : DLine) : M Unit :=
  if x.dirty then do
    dWriteBack x false
    M.update (·.dPut set way { x with dirty := false })
  else pure ()

/-- A function on the D-cache line of an MVA, if the cache holds it. -/
def dByMva (mva : Word) (f : Nat → Nat → DLine → M Unit) : M Unit := do
  dFunction
  let s ← M.state
  match s.dFind (mvaLine mva) with
  | some (way, x) => f (l1Set (mvaLine mva)) way x
  | none => pure ()

/-- A function on the D-cache line at a set and way (11 R117), if it is valid and not locked. -/
def dBySetWay (v : Word) (f : Nat → Nat → DLine → M Unit) : M Unit := do
  dFunction
  let s ← M.state
  let set := (v.extractLsb' 5 8).toNat
  let way := (v.extractLsb' 30 2).toNat
  match lookupKey (4 * set + way) s.caches.d.lines with
  | some x => if x.locked then pure () else f set way x
  | none => pure ()

/-- A D-cache line cleaned and made invalid (45 R672). -/
def dCleanDrop (set way : Nat) (x : DLine) : M Unit := do
  dClean set way x
  M.update (·.dDrop set way)

/-! ## L2 (45 R679 to R683, R700 to R702) -/

/-- An L2 function: nothing with no L2, UNPREDICTABLE with the L2 disabled (45 R679, U57). -/
def l2Function (m : M Unit) : M Unit := do
  let s ← M.state
  if s.l2Present then do
    M.require s.cp15.ctrl.l2 .l2Disabled
    m
  else pure ()

/-- The entry of an MVA, for functions that check neither domain nor permission (45 R679, R700); `none` with the MMU
off, where the physical address is the MVA. -/
def functionEntry (mva : Word) : M (Option TlbEntry) := do
  let s ← M.state
  if s.cp15.ctrl.mmu then
    match ← findEntry mva .read with
    | .error f => M.stop (.abort (f.toAbort mva))
    | .ok e => do
      sharable e
      pure (some e)
  else pure none

/-- The physical address of an MVA by its entry. -/
def entryPa (e : Option TlbEntry) (mva : Word) : PAddr :=
  match e with
  | some e => e.pa mva
  | none => mva.setWidth 36

/-- A function on the L2 line of an MVA: waiting stores to the line go first (45 R684); a miss checks the tags (22 R368). -/
def l2ByMva (mva : Word) (f : Nat → Nat → L2Line → M Unit) : M Unit := do
  let e ← functionEntry mva
  let pline := lineOf (entryPa e mva)
  drainFor pline
  let s ← M.state
  match s.l2Find pline with
  | some (way, x) => f (s.l2Set pline) way x
  | none => do
    let _ ← l2Seen (s.l2Set pline) none
    pure ()

/-- A function on the L2 line at a set and way (11 R117), if it is valid and not locked. -/
def l2BySetWay (v : Word) (f : Nat → Nat → L2Line → M Unit) : M Unit := do
  let s ← M.state
  let set := match s.cfg.l2 with
    | .kb512 => (v.extractLsb' 5 11).toNat
    | _ => (v.extractLsb' 5 10).toNat
  let way := (v.extractLsb' 29 3).toNat
  match lookupKey (8 * set + way) s.caches.l2.lines with
  | some x => if x.locked then pure () else f set way x
  | none => pure ()

/-- The state of a line whose data memory has. -/
def Moesi.cleaned : Moesi → Moesi
  | .modified => .exclusive
  | .owned => .shared
  | st => st

/-- A line whose data has been read out: in a clean state, its single-bit error corrected. -/
def L2Line.cleaned (x : L2Line) : L2Line :=
  { x with state := x.state.cleaned, errors := x.errors.filter (· != .singleBit) }

/-- An L2 line written to memory if modified, and clean (45 R681); the access checks it (22 R368). That it does not set the
line's Used bit is a DESIGN CHOICE (22 R358, log 33). -/
def l2Clean (set way : Nat) (x : L2Line) : M Unit :=
  if x.dirty then do
    l2WriteBack set way x
    M.update (·.l2Put set way x.cleaned)
  else do
    let _ ← l2Seen set (some (way, x))
    pure ()

/-- An L2 line made invalid and unlocked, its data lost (45 R680); the access checks it (22 R368). -/
def l2Invalidate (set way : Nat) (x : L2Line) : M Unit := do
  let _ ← l2Seen set (some (way, x))
  M.update (·.l2Drop set way)

/-- An L2 line cleaned by set and way (45 R682): its data leaves for memory and arrives later, by a DMB or DWB at the
latest (22 R369, 45 R684, log 34). That this does not set the line's Used bit is a DESIGN CHOICE (22 R358, log 33). -/
def l2CleanOut (set way : Nat) (x : L2Line) : M Unit :=
  if x.dirty then do
    match ← l2ReadOut set way x with
    | some v => M.update fun s => s.setLeaving (s.caches.l2.leaving ++ [(x.pline, v)])
    | none => pure ()
    M.update (·.l2Put set way x.cleaned)
  else pure ()

/-- An L2 line cleaned by set and way and made invalid (45 R683). -/
def l2CleanDrop (set way : Nat) (x : L2Line) : M Unit := do
  l2CleanOut set way x
  M.update (·.l2Drop set way)

/-- The locked lines of an L2 set. -/
def State.l2LockedWays (s : State) (set : Nat) : Nat :=
  (l2Ways.filter fun w => ((lookupKey (8 * set + w) s.caches.l2.lines).map (·.locked)).getD false).length

/-- Locks the L2 line of an MVA (45 R700, R701): a resident line gets its lock bit, an absent one is brought in by
`bring`, unless a tag of its set is in error; either counts as an access that sets the Used bit, for the resident line a
DESIGN CHOICE (22 R358, log 33), and checks the line or the tags (22 R368).
Memory that is not L2 cacheable refuses (U64), and so does an eighth locked way (U55). -/
def l2Lock (mva : Word) (bring : BitVec 31 → Bool → M (Option L2Line)) : M Unit := do
  match ← functionEntry mva with
  | none => M.refuse .lockOnDisabledCache
  | some e => do
    let a ← attributes e
    M.require a.outer .lockOnDisabledCache
    let pline := lineOf (e.pa mva)
    drainFor pline
    let s ← M.state
    let set := s.l2Set pline
    match s.l2Find pline with
    | some (way, x) => do
      M.require (x.locked || s.l2LockedWays set < 7) .l2AllWaysLocked
      let _ ← l2Seen set (some (way, x))
      M.update fun s => (s.l2Put set way { x with locked := true, mvas := joinMvas x.mvas [mvaLine mva] }).l2Touch set way
    | none => do
      M.require (s.l2LockedWays set < 7) .l2AllWaysLocked
      if ← l2Seen set none then pure ()
      else
        match ← bring pline a.shared with
        | some x => l2Allocate { x with mvas := [mvaLine mva] }
        | none => pure ()

/-- The line of Fetch and Lock: read as a load would; a bus error is an imprecise abort and locks nothing (45 R709). -/
def fetchToLock (pline : BitVec 31) (shared : Bool) : M (Option L2Line) := do
  let (v, err) ← busRead (lineAddr pline) 32
  if err then do
    M.update (·.pendAbort fsExternal)
    pure none
  else do
    let st ← fillState shared
    pure (some ⟨pline, st.getD .shared, true, v, fullMask, [], []⟩)

/-- The line of Allocate and Lock: its bytes are not known until written (45 R701, U58). -/
def allocateToLock (pline : BitVec 31) (_shared : Bool) : M (Option L2Line) := do
  let k ← M.draw 1
  pure (some ⟨pline, if k = 1 then .modified else .exclusive, true, 0, 0, [], []⟩)

/-! ## Data cache line allocate (45 R685) -/

/-- Allocates the line of a VA in the D-cache with no data. -/
def allocateLine (va : Word) : M Unit := do
  let s ← M.state
  let mva := s.remap va
  let l ← locateMva mva .write s.userMode
  M.update (·.noteBreak mva 32 true)
  let s ← M.state
  if s.dCaches l.attr && (s.dFind (mvaLine mva)).isNone then dAllocate (mvaLine mva) (lineOf l.pa) l.attr 0 0
  else pure ()

/-! ## TLBs (45 R689 to R694, R703 to R707) -/

/-- No locked entry of a TLB covers an address (U59): where several entries do, each of them counts, a DESIGN CHOICE (45 R692,
R694, log 50). -/
def Tlb.unlockedAt (t : Tlb) (mva : Word) : Bool :=
  t.entries.toList.all fun o => match o with
    | some e => !(e.locked && e.covers mva)
    | none => true

/-- Changes the ITLB. -/
def State.mapItlb (s : State) (f : Tlb → Tlb) : State := s.setTlbs { s.tlbs with i := f s.tlbs.i }

/-- Changes the DTLB. -/
def State.mapDtlb (s : State) (f : Tlb → Tlb) : State := s.setTlbs { s.tlbs with d := f s.tlbs.d }

/-- A lock abort (45 R696, R704; 60 R846). -/
def lockAbort {α : Type} : M α := M.stop (.abort ⟨0b10100, none, none⟩)

/-- TLB lock and unlock need the MMU (45 R703, U65). -/
def tlbLockable : M Unit := do
  let s ← M.state
  M.require s.cp15.ctrl.mmu .tlbLockMmuOff

/-- Translate and Lock (45 R704, R706): a walk with no checks; a translation already there refuses (U49). That this walk counts
as no TLB miss, 0x03 or 0x04, is a DESIGN CHOICE (12 R150, 21 R294, log 27). -/
def walkToLock (t : Tlb) (mva : Word) : M TlbEntry := do
  tlbLockable
  M.require (t.lookup mva).isNone .translationResident
  match ← tableWalk mva with
  | .error _ => lockAbort
  | .ok e => do
    sharable e
    pure e

/-! ## L1 locks (45 R695 to R699) -/

/-- The page of an I-cache line to lock: address, cacheability, L2 cacheability, S; no checks (45 R696). -/
def lockPage (mva : Word) : M (PAddr × Bool × Bool × Bool) := do
  let s ← M.state
  if s.cp15.ctrl.mmu then
    match ← findEntry mva .fetch with
    | .error _ => lockAbort
    | .ok e => do
      let a ← attributes e
      pure (e.pa mva, a.icache, a.outer, a.shared)
  else pure (mva.setWidth 36, true, false, false)

/-- Fetch and Lock I Cache Line (45 R696). That its fetch counts as no I-cache miss, 0x00, and no L2 request is a DESIGN CHOICE; a
miss of the ITLB counts (12 R150, log 27). That an L2 error of the line read is a lock abort, as an external bus error is, is a
DESIGN CHOICE (60 R846, log 33). -/
def lockILine (mva : Word) : M Unit := do
  let s ← M.state
  M.require s.cp15.ctrl.icache .lockOnDisabledCache
  M.require (s.iFind (mvaLine mva)).isNone .icacheLockPrecondition
  let (pa, cacheable, outer, shared) ← lockPage mva
  M.require cacheable .icacheLockPrecondition
  let (v, known, err) ← uncounted (readNext (mvaLine mva) (lineOf pa) outer shared false)
  if err then lockAbort
  else do
    let v ← settle v known
    M.update fun s =>
      let set := l1Set (mvaLine mva)
      let way := s.iVictim set true
      s.iPut set way ⟨mvaLine mva, way != 0, v, 0⟩

/-- Unlock Instruction Cache (45 R697). -/
def unlockILines : M Unit := do
  let s ← M.state
  M.require s.cp15.ctrl.icache .lockOnDisabledCache
  M.update (·.mapI fun i => { i with lines := mapKeys (fun _ x => some { x with locked := false }) i.lines })

/-- Unlock Data Cache (45 R699). -/
def unlockDLines : M Unit := do
  let s ← M.state
  M.require s.cp15.ctrl.dcache .lockOnDisabledCache
  M.update (·.mapD fun d => { d with lines := mapKeys (fun _ x => some { x with locked := false }) d.lines })

/-! ## The instructions -/

/-- MCR_p15__0__Rd__c7__c5__0___Invalidate_I_cache___BTB (R664). -/
def execInvIcacheBtb (c : Cond) (rd : Reg) (s : State) : Outcome :=
  systemWrite c rd (fun _ => M.update State.invalidateI) s

/-- MCR_p15__0__Rd__c7__c5__1___Invalidate_I_cache_line (R665). -/
def execInvIcacheLine (c : Cond) (rd : Reg) (s : State) : Outcome :=
  systemWrite c rd (fun v => M.update (·.invalidateILine v)) s

/-- MCR_p15__0__Rd__c7__c5__6___Invalidate_BTB (R666). -/
def execInvBtb (c : Cond) (rd : Reg) (s : State) : Outcome :=
  systemWrite c rd (fun _ => M.update (·.mapCaches ({ · with btb := [] }))) s

/-- MCR_p15__0__Rd__c7__c6__0___Invalidate_D_cache (R667). -/
def execInvDcache (c : Cond) (rd : Reg) (s : State) : Outcome :=
  systemWrite c rd (fun _ => do
    dFunction
    M.update State.invalidateD) s

/-- MCR_p15__0__Rd__c7__c6__1___Invalidate_D_cache_line (R668). -/
def execInvDcacheLine (c : Cond) (rd : Reg) (s : State) : Outcome :=
  systemWrite c rd (fun v => dByMva v fun set way _ => M.update (·.dDrop set way)) s

/-- MCR_p15__0__Rd__c7__c7__0___Invalidate_I_D_cache___BTB (R669). -/
def execInvCachesBtb (c : Cond) (rd : Reg) (s : State) : Outcome :=
  systemWrite c rd (fun _ => do
    dFunction
    M.update fun s => s.invalidateI.invalidateD) s

/-- MCR_p15__0__Rd__c7__c10__1___Clean_D_cache_line_by_MVA (R670). -/
def execCleanDcacheMva (c : Cond) (rd : Reg) (s : State) : Outcome :=
  systemWrite c rd (fun v => dByMva v dClean) s

/-- MCR_p15__0__Rd__c7__c10__2___Clean_D_cache_line_by_set_w (R671). -/
def execCleanDcacheSetWay (c : Cond) (rd : Reg) (s : State) : Outcome :=
  systemWrite c rd (fun v => dBySetWay v dClean) s

/-- MCR_p15__0__Rd__c7__c14__1___Clean___Invalidate_D_cache (R672). -/
def execCleanInvDcacheMva (c : Cond) (rd : Reg) (s : State) : Outcome :=
  systemWrite c rd (fun v => dByMva v dCleanDrop) s

/-- MCR_p15__0__Rd__c7__c14__2___Clean___Invalidate_D_cache (R673). -/
def execCleanInvDcacheSetWay (c : Cond) (rd : Reg) (s : State) : Outcome :=
  systemWrite c rd (fun v => dBySetWay v dCleanDrop) s

/-- MCR_p15__0__Rd__c7__c5__4___Prefetch_Flush__PF (R676). -/
def execPrefetchFlush (c : Cond) (rd : Reg) (s : State) : Outcome :=
  userWrite c rd (fun _ => M.update State.emptyBuffers) s

/-- MCR_p15__0__Rd__c7__c10__4___Data_Write_Barrier__DWB (R677). -/
def execDataWriteBarrier (c : Cond) (rd : Reg) (s : State) : Outcome :=
  userWrite c rd (fun _ => barrier) s

/-- MCR_p15__0__Rd__c7__c10__5___Data_Memory_Barrier__DMB (R678). -/
def execDataMemoryBarrier (c : Cond) (rd : Reg) (s : State) : Outcome :=
  userWrite c rd (fun _ => barrier) s

/-- MCR_p15__1__Rd__c7__c7__1___Invalidate_L2_cache_line_by (R680). -/
def execInvL2Mva (c : Cond) (rd : Reg) (s : State) : Outcome :=
  systemWrite c rd (fun v => l2Function (l2ByMva v l2Invalidate)) s

/-- MCR_p15__1__Rd__c7__c11__1___Clean_L2_cache_line_by_MVA (R681). -/
def execCleanL2Mva (c : Cond) (rd : Reg) (s : State) : Outcome :=
  systemWrite c rd (fun v => l2Function (l2ByMva v l2Clean)) s

/-- MCR_p15__1__Rd__c7__c11__2___Clean_L2_cache_line_by_set (R682). -/
def execCleanL2SetWay (c : Cond) (rd : Reg) (s : State) : Outcome :=
  systemWrite c rd (fun v => l2Function (l2BySetWay v l2CleanOut)) s

/-- MCR_p15__1__Rd__c7__c15__2___Clean___Invalidate_L2_cache (R683). -/
def execCleanInvL2SetWay (c : Cond) (rd : Reg) (s : State) : Outcome :=
  systemWrite c rd (fun v => l2Function (l2BySetWay v l2CleanDrop)) s

/-- MCR_p15__0__Rd__c7__c2__5___Data_Cache_Line_Allocate (R685). -/
def execAllocDcacheLine (c : Cond) (rd : Reg) (s : State) : Outcome :=
  userWrite c rd allocateLine s

/-- MCR_p15__0__Rd__c8__c7__0___Invalidate_I_D_TLB (R690). -/
def execInvTlbs (c : Cond) (rd : Reg) (s : State) : Outcome :=
  systemWrite c rd (fun _ => M.update fun s => (s.mapItlb Tlb.invalidate).mapDtlb Tlb.invalidate) s

/-- MCR_p15__0__Rd__c8__c5__0___Invalidate_I_TLB (R691). -/
def execInvItlb (c : Cond) (rd : Reg) (s : State) : Outcome :=
  systemWrite c rd (fun _ => M.update (·.mapItlb Tlb.invalidate)) s

/-- MCR_p15__0__Rd__c8__c5__1___Invalidate_I_TLB_entry (R692). -/
def execInvItlbEntry (c : Cond) (rd : Reg) (s : State) : Outcome :=
  systemWrite c rd (fun v => do
    let s ← M.state
    M.require (s.tlbs.i.unlockedAt v) .lockedTlbEntryInvalidated
    M.update (·.mapItlb (·.invalidateAt v))) s

/-- MCR_p15__0__Rd__c8__c6__0___Invalidate_D_TLB (R693). -/
def execInvDtlb (c : Cond) (rd : Reg) (s : State) : Outcome :=
  systemWrite c rd (fun _ => M.update (·.mapDtlb Tlb.invalidate)) s

/-- MCR_p15__0__Rd__c8__c6__1___Invalidate_D_TLB_entry (R694). -/
def execInvDtlbEntry (c : Cond) (rd : Reg) (s : State) : Outcome :=
  systemWrite c rd (fun v => do
    let s ← M.state
    M.require (s.tlbs.d.unlockedAt v) .lockedTlbEntryInvalidated
    M.update (·.mapDtlb (·.invalidateAt v))) s

/-- MCR_p15__0__Rd__c9__c5__0___Fetch_and_Lock_I_cache_line (R696). -/
def execLockIcacheLine (c : Cond) (rd : Reg) (s : State) : Outcome :=
  systemWrite c rd lockILine s

/-- MCR_p15__0__Rd__c9__c1__0___Fetch_and_Lock_I_cache_line (R696). -/
def execLockIcacheLineLegacy (c : Cond) (rd : Reg) (s : State) : Outcome :=
  systemWrite c rd lockILine s

/-- MCR_p15__0__Rd__c9__c5__1___Unlock_I_cache (R697). -/
def execUnlockIcache (c : Cond) (rd : Reg) (s : State) : Outcome :=
  systemWrite c rd (fun _ => unlockILines) s

/-- MCR_p15__0__Rd__c9__c1__1___Unlock_I_cache__legacy_encod (R697). -/
def execUnlockIcacheLegacy (c : Cond) (rd : Reg) (s : State) : Outcome :=
  systemWrite c rd (fun _ => unlockILines) s

/-- MCR_p15__0__Rd__c9__c6__1___Unlock_D_cache (R699). -/
def execUnlockDcache (c : Cond) (rd : Reg) (s : State) : Outcome :=
  systemWrite c rd (fun _ => unlockDLines) s

/-- MCR_p15__0__Rd__c9__c2__1___Unlock_D_cache__legacy_encod (R699). -/
def execUnlockDcacheLegacy (c : Cond) (rd : Reg) (s : State) : Outcome :=
  systemWrite c rd (fun _ => unlockDLines) s

/-- MCR_p15__1__Rd__c9__c5__0___Fetch_and_Lock_L2_cache_line (R700). -/
def execLockL2Line (c : Cond) (rd : Reg) (s : State) : Outcome :=
  systemWrite c rd (fun v => l2Function (l2Lock v fetchToLock)) s

/-- MCR_p15__1__Rd__c9__c5__2___Allocate_and_Lock_L2_cache_l (R701). -/
def execAllocLockL2Line (c : Cond) (rd : Reg) (s : State) : Outcome :=
  systemWrite c rd (fun v => l2Function (l2Lock v allocateToLock)) s

/-- MCR_p15__1__Rd__c9__c5__1___Unlock_L2_cache (R702). -/
def execUnlockL2 (c : Cond) (rd : Reg) (s : State) : Outcome :=
  systemWrite c rd (fun _ => l2Function (M.update (·.mapL2 fun l =>
    { l with lines := mapKeys (fun _ x => some { x with locked := false }) l.lines }))) s

/-- MCR_p15__0__Rd__c10__c4__0___Translate_and_Lock_I_TLB_en (R704). -/
def execLockItlbEntry (c : Cond) (rd : Reg) (s : State) : Outcome :=
  systemWrite c rd (fun v => do
    let s ← M.state
    let e ← walkToLock s.tlbs.i v
    M.update (·.mapItlb (·.lock e))) s

/-- MCR_p15__0__Rd__c10__c4__1___Unlock_I_TLB (R705). -/
def execUnlockItlb (c : Cond) (rd : Reg) (s : State) : Outcome :=
  systemWrite c rd (fun _ => do
    tlbLockable
    M.update (·.mapItlb Tlb.unlock)) s

/-- MCR_p15__0__Rd__c10__c8__0___Translate_and_Lock_D_TLB_en (R706). -/
def execLockDtlbEntry (c : Cond) (rd : Reg) (s : State) : Outcome :=
  systemWrite c rd (fun v => do
    let s ← M.state
    let e ← walkToLock s.tlbs.d v
    M.update (·.mapDtlb (·.lock e))) s

/-- MCR_p15__0__Rd__c10__c8__1___Unlock_D_TLB (R707). -/
def execUnlockDtlb (c : Cond) (rd : Reg) (s : State) : Outcome :=
  systemWrite c rd (fun _ => do
    tlbLockable
    M.update (·.mapDtlb Tlb.unlock)) s

end Sys2Proof.Machine
end

