-- ==== Sys2Proof/Machine/Thumb.lean ====
section
/-! DEFINITION. The Thumb instruction set (spec 46). -/

namespace Sys2Proof.Machine

/-- A Thumb data-processing instruction on low registers: result, flags, pc (46 R720). -/
def thumbSet (op : DpOp) (rd : Reg) (a b : Word) (k : Bool) : M Unit := do
  let s ← M.state
  let r := dpResult op s.cpsr a b k
  M.update (·.mapCpsr fun p => p.withNZCV r.value r.carry r.overflow)
  setReg rd r.value
  next

/-- A Thumb operation on Rd and Rm that writes Rd (46 section 3). -/
def thumbTwo (op : DpOp) (rm rd : LowReg) : M Unit := do
  let a ← reg (lowReg rd)
  let b ← reg (lowReg rm)
  let s ← M.state
  thumbSet op (lowReg rd) a b s.cpsr.c

/-- A Thumb compare or test: flags only. -/
def thumbFlags (op : DpOp) (a b : Word) : M Unit := do
  M.update fun s =>
    let r := dpResult op s.cpsr a b s.cpsr.c
    s.mapCpsr fun p => p.withNZCV r.value r.carry r.overflow
  next

/-- A Thumb shift (46 R721 to R723, R734 to R736). -/
def thumbShift (sh : ShiftType) (op : ThumbShift) : M Unit := do
  let s ← M.state
  match op with
  | .imm imm5 rm rd => do
    let m ← reg (lowReg rm)
    let (v, k) := shiftImm sh m imm5 s.cpsr.c
    thumbSet .mov (lowReg rd) 0 v k
  | .reg rm rd => do
    let x ← reg (lowReg rd)
    let n ← reg (lowReg rm)
    let (v, k) := shiftReg sh x (n.setWidth 8) s.cpsr.c
    thumbSet .mov (lowReg rd) 0 v k

/-- ADD and SUB on low registers (46 R724 to R727, R730, R731). -/
def thumbAddSub (op : DpOp) (form : ThumbAddSub) : M Unit := do
  match form with
  | .reg rm rn rd => do
    let a ← reg (lowReg rn)
    let b ← reg (lowReg rm)
    thumbSet op (lowReg rd) a b false
  | .imm3 imm3 rn rd => do
    let a ← reg (lowReg rn)
    thumbSet op (lowReg rd) a (imm3.setWidth 32) false
  | .imm8 rd imm8 => do
    let a ← reg (lowReg rd)
    thumbSet op (lowReg rd) a (imm8.setWidth 32) false

/-- The result of a high-register ADD or MOV: a write of the pc stays in Thumb state (46 R749, R751). -/
def thumbHigh (d : Reg) (v : Word) : M Unit :=
  if d = 15 then M.update fun s => s.jump (v &&& 0xFFFFFFFE) (.indirect true)
  else do
    setReg d v
    next

/-- R15 as a base: word aligned (46 R742, R758). -/
def thumbPcBase : M Word := do
  let s ← M.state
  pure (s.pcRead &&& 0xFFFFFFFC)

/-- The address of a byte or halfword transfer, the immediate scaled by `k` bits (46 R760 to R772). -/
def thumbAddress (k : Nat) : ThumbAddress → M Word
  | .reg rm rn => do
    let a ← reg (lowReg rn)
    let b ← reg (lowReg rm)
    pure (a + b)
  | .imm imm5 rn => do
    let a ← reg (lowReg rn)
    pure (a + (imm5.setWidth 32 <<< k))

/-- The address of a word store (46 R759, R767, R773). -/
def thumbStoreAddress : ThumbStoreAddress → M Word
  | .reg rm rn => do
    let a ← reg (lowReg rn)
    let b ← reg (lowReg rm)
    pure (a + b)
  | .imm imm5 rn => do
    let a ← reg (lowReg rn)
    pure (a + (imm5.setWidth 32 <<< 2))
  | .sp imm8 => do
    let a ← reg 13
    pure (a + (imm8.setWidth 32 <<< 2))

/-- The address of a word load (46 R742, R763, R768, R774). -/
def thumbLoadAddress : ThumbLoadAddress → M Word
  | .pc imm8 => do
    let a ← thumbPcBase
    pure (a + (imm8.setWidth 32 <<< 2))
  | .reg rm rn => do
    let a ← reg (lowReg rn)
    let b ← reg (lowReg rm)
    pure (a + b)
  | .imm imm5 rn => do
    let a ← reg (lowReg rn)
    pure (a + (imm5.setWidth 32 <<< 2))
  | .sp imm8 => do
    let a ← reg 13
    pure (a + (imm8.setWidth 32 <<< 2))

/-- A Thumb load. -/
def thumbLoad (address : M Word) (load : Word → Bool → M Word) (rd : LowReg) : M Unit := do
  let a ← address
  let usr ← asUser
  let v ← load a usr
  setReg (lowReg rd) v
  next

/-- A Thumb store of the low `n` bytes. -/
def thumbStore (address : M Word) (n : Nat) (rd : LowReg) : M Unit := do
  let a ← address
  let v ← reg (lowReg rd)
  let usr ← asUser
  memWrite a n (v.setWidth (8 * n)) usr
  next

/-- The target of a Thumb branch (46 R780, R783). -/
def thumbTarget (pc : Word) (offset : Word) : Word := pc + 4 + (offset <<< 1)

/-- R14 after a Thumb call: the next halfword with bit 0 set (46 R753, R790). -/
def linkThumb : M Unit := M.update fun s => s.writeReg 14 ((s.pc + 2) ||| 1)

/-- The registers of a Thumb list with one more. -/
def listWith (r : Bool) (extra : Reg) (regs : BitVec 8) : List Reg :=
  registersOf (0#8 ++ regs) ++ (if r then [extra] else [])

/-! ## The instructions -/

/-- LSL (R721, R734). -/
def execTLsl (op : ThumbShift) (s : State) : Outcome :=
  finish (thumbShift .lsl op) s

/-- LSR (R722, R735). -/
def execTLsr (op : ThumbShift) (s : State) : Outcome :=
  finish (thumbShift .lsr op) s

/-- ASR (R723, R736). -/
def execTAsr (op : ThumbShift) (s : State) : Outcome :=
  finish (thumbShift .asr op) s

/-- ADD (R724, R726, R730). -/
def execTAdd (op : ThumbAddSub) (s : State) : Outcome :=
  finish (thumbAddSub .add op) s

/-- SUB (R725, R727, R731). -/
def execTSub (op : ThumbAddSub) (s : State) : Outcome :=
  finish (thumbAddSub .sub op) s

/-- MOV (R728). -/
def execTMovImm8 (rd : LowReg) (imm8 : BitVec 8) (s : State) : Outcome :=
  finish (do
    let s ← M.state
    thumbSet .mov (lowReg rd) 0 (imm8.setWidth 32) s.cpsr.c) s

/-- CMP (R729, R743). -/
def execTCmp (op : ThumbCompare) (s : State) : Outcome :=
  finish (match op with
    | .imm8 rn imm8 => do
      let a ← reg (lowReg rn)
      thumbFlags .cmp a (imm8.setWidth 32)
    | .reg rm rd => do
      let a ← reg (lowReg rd)
      let b ← reg (lowReg rm)
      thumbFlags .cmp a b) s

/-- AND (R732). -/
def execTAnd (rm rd : LowReg) (s : State) : Outcome :=
  finish (thumbTwo .and rm rd) s

/-- EOR (R733). -/
def execTEor (rm rd : LowReg) (s : State) : Outcome :=
  finish (thumbTwo .eor rm rd) s

/-- ADC (R737). -/
def execTAdc (rm rd : LowReg) (s : State) : Outcome :=
  finish (thumbTwo .adc rm rd) s

/-- SBC (R738). -/
def execTSbc (rm rd : LowReg) (s : State) : Outcome :=
  finish (thumbTwo .sbc rm rd) s

/-- ROR (R739). -/
def execTRorReg (rm rd : LowReg) (s : State) : Outcome :=
  finish (do
    let s ← M.state
    let x ← reg (lowReg rd)
    let n ← reg (lowReg rm)
    let (v, k) := shiftReg .ror x (n.setWidth 8) s.cpsr.c
    thumbSet .mov (lowReg rd) 0 v k) s

/-- TST (R740). -/
def execTTst (rm rd : LowReg) (s : State) : Outcome :=
  finish (do
    let a ← reg (lowReg rd)
    let b ← reg (lowReg rm)
    thumbFlags .tst a b) s

/-- NEG (R741). -/
def execTNeg (rm rd : LowReg) (s : State) : Outcome :=
  finish (do
    let m ← reg (lowReg rm)
    thumbSet .rsb (lowReg rd) m 0 false) s

/-- CMN (R744). -/
def execTCmn (rm rd : LowReg) (s : State) : Outcome :=
  finish (do
    let a ← reg (lowReg rd)
    let b ← reg (lowReg rm)
    thumbFlags .cmn a b) s

/-- ORR (R745). -/
def execTOrr (rm rd : LowReg) (s : State) : Outcome :=
  finish (thumbTwo .orr rm rd) s

/-- MUL (R746). -/
def execTMul (rm rd : LowReg) (s : State) : Outcome :=
  finish (do
    let m ← reg (lowReg rm)
    let x ← reg (lowReg rd)
    multiplyWord true (lowReg rd) (m * x)) s

/-- BIC (R747). -/
def execTBic (rm rd : LowReg) (s : State) : Outcome :=
  finish (thumbTwo .bic rm rd) s

/-- MVN (R748). -/
def execTMvn (rm rd : LowReg) (s : State) : Outcome :=
  finish (thumbTwo .mvn rm rd) s

/-- ADD (R749). -/
def execTAddHi (h1 h2 : Bool) (rm rd : LowReg) (s : State) : Outcome :=
  finish (do
    allowed (h1 || h2)
    let a ← reg (hiReg h1 rd)
    let b ← reg (hiReg h2 rm)
    thumbHigh (hiReg h1 rd) (a + b)) s

/-- CMP (R750). -/
def execTCmpHi (h1 h2 : Bool) (rm rn : LowReg) (s : State) : Outcome :=
  finish (do
    allowed ((h1 || h2) && notPc [hiReg h1 rn])
    let a ← reg (hiReg h1 rn)
    let b ← reg (hiReg h2 rm)
    thumbFlags .cmp a b) s

/-- MOV (R751). -/
def execTMovHi (h1 h2 : Bool) (rm rd : LowReg) (s : State) : Outcome :=
  finish (do
    allowed (h1 || h2)
    let b ← reg (hiReg h2 rm)
    thumbHigh (hiReg h1 rd) b) s

/-- BX (R752). -/
def execTBx (h2 : Bool) (rm : LowReg) (sbz : BitVec 3) (s : State) : Outcome :=
  finish (do
    allowed (isZero sbz)
    let target ← reg (hiReg h2 rm)
    writePcInterworking target) s

/-- BLX (R753). -/
def execTBlxReg (h2 : Bool) (rm : LowReg) (sbz : BitVec 3) (s : State) : Outcome :=
  finish (do
    allowed (isZero sbz && notPc [hiReg h2 rm])
    let target ← reg (hiReg h2 rm)
    linkThumb
    writePcInterworking target) s

/-- LDR (R742, R763, R768, R774). -/
def execTLdr (rd : LowReg) (addr : ThumbLoadAddress) (s : State) : Outcome :=
  finish (thumbLoad (thumbLoadAddress addr) loadWord rd) s

/-- STR (R759, R767, R773). -/
def execTStr (rd : LowReg) (addr : ThumbStoreAddress) (s : State) : Outcome :=
  finish (thumbStore (thumbStoreAddress addr) 4 rd) s

/-- STRH (R760, R771). -/
def execTStrh (rd : LowReg) (addr : ThumbAddress) (s : State) : Outcome :=
  finish (thumbStore (thumbAddress 1 addr) 2 rd) s

/-- STRB (R761, R769). -/
def execTStrb (rd : LowReg) (addr : ThumbAddress) (s : State) : Outcome :=
  finish (thumbStore (thumbAddress 0 addr) 1 rd) s

/-- LDRSB (R762). -/
def execTLdrsbReg (rm rn rd : LowReg) (s : State) : Outcome :=
  finish (thumbLoad (thumbAddress 0 (.reg rm rn)) loadSignedByte rd) s

/-- LDRH (R764, R772). -/
def execTLdrh (rd : LowReg) (addr : ThumbAddress) (s : State) : Outcome :=
  finish (thumbLoad (thumbAddress 1 addr) loadHalf rd) s

/-- LDRB (R765, R770). -/
def execTLdrb (rd : LowReg) (addr : ThumbAddress) (s : State) : Outcome :=
  finish (thumbLoad (thumbAddress 0 addr) loadByte rd) s

/-- LDRSH (R766). -/
def execTLdrshReg (rm rn rd : LowReg) (s : State) : Outcome :=
  finish (thumbLoad (thumbAddress 0 (.reg rm rn)) loadSignedHalf rd) s

/-- ADD (R758). -/
def execTAddPc (rd : LowReg) (imm8 : BitVec 8) (s : State) : Outcome :=
  finish (do
    let a ← thumbPcBase
    setReg (lowReg rd) (a + (imm8.setWidth 32 <<< 2))
    next) s

/-- ADD (R756). -/
def execTAddSp (rd : LowReg) (imm8 : BitVec 8) (s : State) : Outcome :=
  finish (do
    let a ← reg 13
    setReg (lowReg rd) (a + (imm8.setWidth 32 <<< 2))
    next) s

/-- ADD (R754). -/
def execTIncSp (imm7 : BitVec 7) (s : State) : Outcome :=
  finish (do
    let a ← reg 13
    setReg 13 (a + (imm7.setWidth 32 <<< 2))
    next) s

/-- SUB (R755). -/
def execTDecSp (imm7 : BitVec 7) (s : State) : Outcome :=
  finish (do
    let a ← reg 13
    setReg 13 (a - (imm7.setWidth 32 <<< 2))
    next) s

/-- PUSH (R775). -/
def execTPush (r : Bool) (regs : BitVec 8) (s : State) : Outcome :=
  finish (do
    allowed (r || regs != 0)
    let rs := listWith r 14 regs
    let s ← M.state
    let values ← M.each reg rs
    storeMultiple true false 13 rs values
    setReg 13 (multipleEnd false (s.readReg 13) rs.length)
    next) s

/-- POP (R776). -/
def execTPop (r : Bool) (regs : BitVec 8) (s : State) : Outcome :=
  finish (do
    allowed (r || regs != 0)
    let rs := listWith r 15 regs
    let s ← M.state
    if r then markPcLoad 15 else pure ()
    let vs ← loadMultiple setReg (keepsBase 13) false true 13 rs
    writeRegisters setReg (vs.filter (·.1 != 15))
    setReg 13 (multipleEnd true (s.readReg 13) rs.length)
    if r then writePcInterworking (pcValue vs) else next) s

/-- BKPT (R779). -/
def execTBkpt (_imm8 : BitVec 8) (s : State) : Outcome :=
  finish breakpointBody s

/-- STMIA (R777). -/
def execTStmia (rn : LowReg) (regs : BitVec 8) (s : State) : Outcome :=
  finish (do
    allowed (regs != 0 && stmBaseAllowed true (lowReg rn) (0#8 ++ regs))
    storeMany false true true (lowReg rn) (0#8 ++ regs)) s

/-- LDMIA (R778). -/
def execTLdmia (rn : LowReg) (regs : BitVec 8) (s : State) : Outcome :=
  finish (do
    allowed (regs != 0)
    loadMany false true (!(0#8 ++ regs : BitVec 16).getLsbD (lowReg rn).toNat) (lowReg rn) (0#8 ++ regs)) s

/-- B (R780). -/
def execTBCond (c : Cond) (imm8 : BitVec 8) (s : State) : Outcome :=
  finish (do
    let s ← M.state
    if s.cpsr.holds c then branchTo fun s => thumbTarget s.pc (imm8.signExtend 32)
    else M.update fun s => s.advance.withFlow (.direct false)) s

/-- UNDEFINED (R781). -/
def execTUndefined (_pat : ThumbUndefined) (s : State) : Outcome :=
  finish (M.stop .undefined) s

/-- SWI (R782). -/
def execTSwi (_imm8 : BitVec 8) (s : State) : Outcome :=
  finish raiseSwi s

/-- B (R783). -/
def execTB (imm11 : BitVec 11) (s : State) : Outcome :=
  finish (branchTo fun s => thumbTarget s.pc (imm11.signExtend 32)) s

/-- BLX (R791). -/
def execTBlxSuffix (imm10 : BitVec 10) (s : State) : Outcome :=
  finish (do
    let r ← reg 14
    linkThumb
    M.update fun s => (s.mapCpsr ({ · with t := false })).jump
      ((r + (imm10.setWidth 32 <<< 2)) &&& 0xFFFFFFFC) (.indirect true)) s

/-- BL_BLX_prefix (R790). -/
def execTBlPrefix (imm11 : BitVec 11) (s : State) : Outcome :=
  finish (do
    M.update fun s => s.writeReg 14 (s.pc + 4 + (imm11.signExtend 32 <<< 12))
    next) s

/-- BL (R790). -/
def execTBlSuffix (imm11 : BitVec 11) (s : State) : Outcome :=
  finish (do
    let r ← reg 14
    linkThumb
    branchTo fun _ => (r + (imm11.setWidth 32 <<< 1)) &&& 0xFFFFFFFE) s

end Sys2Proof.Machine
end

