-- ==== Sys2Proof/Machine/Dispatch.lean ====
section
/-! DEFINITION. The meaning of each instruction. -/

namespace Sys2Proof.Machine

def exec (i : Instr) (s : State) : Host.Outcome State Fault Refusal :=
  match i with
  | .and c sf rn rd op => Sys2Proof.Machine.execAnd c sf rn rd op s
  | .eor c sf rn rd op => Sys2Proof.Machine.execEor c sf rn rd op s
  | .sub c sf rn rd op => Sys2Proof.Machine.execSub c sf rn rd op s
  | .rsb c sf rn rd op => Sys2Proof.Machine.execRsb c sf rn rd op s
  | .add c sf rn rd op => Sys2Proof.Machine.execAdd c sf rn rd op s
  | .adc c sf rn rd op => Sys2Proof.Machine.execAdc c sf rn rd op s
  | .sbc c sf rn rd op => Sys2Proof.Machine.execSbc c sf rn rd op s
  | .rsc c sf rn rd op => Sys2Proof.Machine.execRsc c sf rn rd op s
  | .tst c rn sbz op => Sys2Proof.Machine.execTst c rn sbz op s
  | .teq c rn sbz op => Sys2Proof.Machine.execTeq c rn sbz op s
  | .cmp c rn sbz op => Sys2Proof.Machine.execCmp c rn sbz op s
  | .cmn c rn sbz op => Sys2Proof.Machine.execCmn c rn sbz op s
  | .orr c sf rn rd op => Sys2Proof.Machine.execOrr c sf rn rd op s
  | .mov c sf sbz rd op => Sys2Proof.Machine.execMov c sf sbz rd op s
  | .bic c sf rn rd op => Sys2Proof.Machine.execBic c sf rn rd op s
  | .mvn c sf sbz rd op => Sys2Proof.Machine.execMvn c sf sbz rd op s
  | .clz c sbo rd sbo2 rm => Sys2Proof.Machine.execClz c sbo rd sbo2 rm s
  | .mul c sf rd sbz rs rm => Sys2Proof.Machine.execMul c sf rd sbz rs rm s
  | .mla c sf rd rn rs rm => Sys2Proof.Machine.execMla c sf rd rn rs rm s
  | .umull c sf rdHi rdLo rs rm => Sys2Proof.Machine.execUmull c sf rdHi rdLo rs rm s
  | .umlal c sf rdHi rdLo rs rm => Sys2Proof.Machine.execUmlal c sf rdHi rdLo rs rm s
  | .smull c sf rdHi rdLo rs rm => Sys2Proof.Machine.execSmull c sf rdHi rdLo rs rm s
  | .smlal c sf rdHi rdLo rs rm => Sys2Proof.Machine.execSmlal c sf rdHi rdLo rs rm s
  | .smulxy c rd sbz rs y x rm => Sys2Proof.Machine.execSmulxy c rd sbz rs y x rm s
  | .smulwy c rd sbz rs y rm => Sys2Proof.Machine.execSmulwy c rd sbz rs y rm s
  | .smlaxy c rd rn rs y x rm => Sys2Proof.Machine.execSmlaxy c rd rn rs y x rm s
  | .smlawy c rd rn rs y rm => Sys2Proof.Machine.execSmlawy c rd rn rs y rm s
  | .smlalxy c rdHi rdLo rs y x rm => Sys2Proof.Machine.execSmlalxy c rdHi rdLo rs y x rm s
  | .qadd c rn rd sbz rm => Sys2Proof.Machine.execQadd c rn rd sbz rm s
  | .qsub c rn rd sbz rm => Sys2Proof.Machine.execQsub c rn rd sbz rm s
  | .qdadd c rn rd sbz rm => Sys2Proof.Machine.execQdadd c rn rd sbz rm s
  | .qdsub c rn rd sbz rm => Sys2Proof.Machine.execQdsub c rn rd sbz rm s
  | .ldr c p u w rn rd off => Sys2Proof.Machine.execLdr c p u w rn rd off s
  | .ldrb c p u w rn rd off => Sys2Proof.Machine.execLdrb c p u w rn rd off s
  | .str c p u w rn rd off => Sys2Proof.Machine.execStr c p u w rn rd off s
  | .strb c p u w rn rd off => Sys2Proof.Machine.execStrb c p u w rn rd off s
  | .ldrt c u rn rd off => Sys2Proof.Machine.execLdrt c u rn rd off s
  | .ldrbt c u rn rd off => Sys2Proof.Machine.execLdrbt c u rn rd off s
  | .strt c u rn rd off => Sys2Proof.Machine.execStrt c u rn rd off s
  | .strbt c u rn rd off => Sys2Proof.Machine.execStrbt c u rn rd off s
  | .ldrh c p u w rn rd off => Sys2Proof.Machine.execLdrh c p u w rn rd off s
  | .ldrsh c p u w rn rd off => Sys2Proof.Machine.execLdrsh c p u w rn rd off s
  | .ldrsb c p u w rn rd off => Sys2Proof.Machine.execLdrsb c p u w rn rd off s
  | .strh c p u w rn rd off => Sys2Proof.Machine.execStrh c p u w rn rd off s
  | .ldrd c p u w rn rd off => Sys2Proof.Machine.execLdrd c p u w rn rd off s
  | .strd c p u w rn rd off => Sys2Proof.Machine.execStrd c p u w rn rd off s
  | .pld u rn off => Sys2Proof.Machine.execPld u rn off s
  | .ldm c p u w rn regs => Sys2Proof.Machine.execLdm c p u w rn regs s
  | .ldmUser c p u sbz rn regs => Sys2Proof.Machine.execLdmUser c p u sbz rn regs s
  | .ldmReturn c p u w rn regs => Sys2Proof.Machine.execLdmReturn c p u w rn regs s
  | .stm c p u w rn regs => Sys2Proof.Machine.execStm c p u w rn regs s
  | .stmUser c p u sbz rn regs => Sys2Proof.Machine.execStmUser c p u sbz rn regs s
  | .swp c rn rd sbz rm => Sys2Proof.Machine.execSwp c rn rd sbz rm s
  | .swpb c rn rd sbz rm => Sys2Proof.Machine.execSwpb c rn rd sbz rm s
  | .b c imm24 => Sys2Proof.Machine.execB c imm24 s
  | .bl c imm24 => Sys2Proof.Machine.execBl c imm24 s
  | .blxImm h imm24 => Sys2Proof.Machine.execBlxImm h imm24 s
  | .blxReg c sbo sbo2 sbo3 rm => Sys2Proof.Machine.execBlxReg c sbo sbo2 sbo3 rm s
  | .bx c sbo sbo2 sbo3 rm => Sys2Proof.Machine.execBx c sbo sbo2 sbo3 rm s
  | .mrs c r sbo rd sbz sbz2 => Sys2Proof.Machine.execMrs c r sbo rd sbz sbz2 s
  | .msrImm c r mask sbo rot imm8 => Sys2Proof.Machine.execMsrImm c r mask sbo rot imm8 s
  | .msrReg c r mask sbo sbz rm => Sys2Proof.Machine.execMsrReg c r mask sbo sbz rm s
  | .swi c imm24 => Sys2Proof.Machine.execSwi c imm24 s
  | .bkpt immHi immLo => Sys2Proof.Machine.execBkpt immHi immLo s
  | .cdp c opc1 crn crd cp opc2 crm => Sys2Proof.Machine.execCdp c opc1 crn crd cp opc2 crm s
  | .mcr c opc1 crn rd cp opc2 crm => Sys2Proof.Machine.execMcr c opc1 crn rd cp opc2 crm s
  | .mrc c opc1 crn rd cp opc2 crm => Sys2Proof.Machine.execMrc c opc1 crn rd cp opc2 crm s
  | .ldc c p u n w rn crd cp off8 => Sys2Proof.Machine.execLdc c p u n w rn crd cp off8 s
  | .stc c p u n w rn crd cp off8 => Sys2Proof.Machine.execStc c p u n w rn crd cp off8 s
  | .mcrr c rn rd cp opc crm => Sys2Proof.Machine.execMcrr c rn rd cp opc crm s
  | .mrrc c rn rd cp opc crm => Sys2Proof.Machine.execMrrc c rn rd cp opc crm s
  | .cdp2 opc1 crn crd cp opc2 crm => Sys2Proof.Machine.execCdp2 opc1 crn crd cp opc2 crm s
  | .mcr2 opc1 crn rd cp opc2 crm => Sys2Proof.Machine.execMcr2 opc1 crn rd cp opc2 crm s
  | .mrc2 opc1 crn rd cp opc2 crm => Sys2Proof.Machine.execMrc2 opc1 crn rd cp opc2 crm s
  | .ldc2 p u n w rn crd cp off8 => Sys2Proof.Machine.execLdc2 p u n w rn crd cp off8 s
  | .stc2 p u n w rn crd cp off8 => Sys2Proof.Machine.execStc2 p u n w rn crd cp off8 s
  | .undefinedSpace c any any2 => Sys2Proof.Machine.execUndefinedSpace c any any2 s
  | .mia c rs acc rm => Sys2Proof.Machine.execMia c rs acc rm s
  | .miaph c rs acc rm => Sys2Proof.Machine.execMiaph c rs acc rm s
  | .miabb c rs acc rm => Sys2Proof.Machine.execMiabb c rs acc rm s
  | .miabt c rs acc rm => Sys2Proof.Machine.execMiabt c rs acc rm s
  | .miatb c rs acc rm => Sys2Proof.Machine.execMiatb c rs acc rm s
  | .miatt c rs acc rm => Sys2Proof.Machine.execMiatt c rs acc rm s
  | .mar c rdHi rdLo acc => Sys2Proof.Machine.execMar c rdHi rdLo acc s
  | .mra c rdHi rdLo acc => Sys2Proof.Machine.execMra c rdHi rdLo acc s
  | .mrcMainId c rd => Sys2Proof.Machine.execMrcMainId c rd s
  | .mrcL2Id c rd => Sys2Proof.Machine.execMrcL2Id c rd s
  | .mrcCacheType c rd => Sys2Proof.Machine.execMrcCacheType c rd s
  | .mrcL2CacheType c rd => Sys2Proof.Machine.execMrcL2CacheType c rd s
  | .mcrControl c rd => Sys2Proof.Machine.execMcrControl c rd s
  | .mrcControl c rd => Sys2Proof.Machine.execMrcControl c rd s
  | .mcrAuxControl c rd => Sys2Proof.Machine.execMcrAuxControl c rd s
  | .mrcAuxControl c rd => Sys2Proof.Machine.execMrcAuxControl c rd s
  | .mcrTtBase c rd => Sys2Proof.Machine.execMcrTtBase c rd s
  | .mrcTtBase c rd => Sys2Proof.Machine.execMrcTtBase c rd s
  | .mcrDacr c rd => Sys2Proof.Machine.execMcrDacr c rd s
  | .mrcDacr c rd => Sys2Proof.Machine.execMrcDacr c rd s
  | .mcrFsr c rd => Sys2Proof.Machine.execMcrFsr c rd s
  | .mrcFsr c rd => Sys2Proof.Machine.execMrcFsr c rd s
  | .mcrFar c rd => Sys2Proof.Machine.execMcrFar c rd s
  | .mrcFar c rd => Sys2Proof.Machine.execMrcFar c rd s
  | .mcrDcLock c rd => Sys2Proof.Machine.execMcrDcLock c rd s
  | .mrcDcLock c rd => Sys2Proof.Machine.execMrcDcLock c rd s
  | .mcrDcLockLegacy c rd => Sys2Proof.Machine.execMcrDcLockLegacy c rd s
  | .mrcDcLockLegacy c rd => Sys2Proof.Machine.execMrcDcLockLegacy c rd s
  | .mcrPid c rd => Sys2Proof.Machine.execMcrPid c rd s
  | .mrcPid c rd => Sys2Proof.Machine.execMrcPid c rd s
  | .mcrIbr0 c rd => Sys2Proof.Machine.execMcrIbr0 c rd s
  | .mrcIbr0 c rd => Sys2Proof.Machine.execMrcIbr0 c rd s
  | .mcrIbr1 c rd => Sys2Proof.Machine.execMcrIbr1 c rd s
  | .mrcIbr1 c rd => Sys2Proof.Machine.execMrcIbr1 c rd s
  | .mcrDbr0 c rd => Sys2Proof.Machine.execMcrDbr0 c rd s
  | .mrcDbr0 c rd => Sys2Proof.Machine.execMrcDbr0 c rd s
  | .mcrDbr1 c rd => Sys2Proof.Machine.execMcrDbr1 c rd s
  | .mrcDbr1 c rd => Sys2Proof.Machine.execMrcDbr1 c rd s
  | .mcrDbcon c rd => Sys2Proof.Machine.execMcrDbcon c rd s
  | .mrcDbcon c rd => Sys2Proof.Machine.execMrcDbcon c rd s
  | .mcrCpar c rd => Sys2Proof.Machine.execMcrCpar c rd s
  | .mrcCpar c rd => Sys2Proof.Machine.execMrcCpar c rd s
  | .invIcacheBtb c rd => Sys2Proof.Machine.execInvIcacheBtb c rd s
  | .invIcacheLine c rd => Sys2Proof.Machine.execInvIcacheLine c rd s
  | .invBtb c rd => Sys2Proof.Machine.execInvBtb c rd s
  | .invDcache c rd => Sys2Proof.Machine.execInvDcache c rd s
  | .invDcacheLine c rd => Sys2Proof.Machine.execInvDcacheLine c rd s
  | .invCachesBtb c rd => Sys2Proof.Machine.execInvCachesBtb c rd s
  | .cleanDcacheMva c rd => Sys2Proof.Machine.execCleanDcacheMva c rd s
  | .cleanDcacheSetWay c rd => Sys2Proof.Machine.execCleanDcacheSetWay c rd s
  | .cleanInvDcacheMva c rd => Sys2Proof.Machine.execCleanInvDcacheMva c rd s
  | .cleanInvDcacheSetWay c rd => Sys2Proof.Machine.execCleanInvDcacheSetWay c rd s
  | .prefetchFlush c rd => Sys2Proof.Machine.execPrefetchFlush c rd s
  | .dataWriteBarrier c rd => Sys2Proof.Machine.execDataWriteBarrier c rd s
  | .dataMemoryBarrier c rd => Sys2Proof.Machine.execDataMemoryBarrier c rd s
  | .invL2Mva c rd => Sys2Proof.Machine.execInvL2Mva c rd s
  | .cleanL2Mva c rd => Sys2Proof.Machine.execCleanL2Mva c rd s
  | .cleanL2SetWay c rd => Sys2Proof.Machine.execCleanL2SetWay c rd s
  | .cleanInvL2SetWay c rd => Sys2Proof.Machine.execCleanInvL2SetWay c rd s
  | .allocDcacheLine c rd => Sys2Proof.Machine.execAllocDcacheLine c rd s
  | .invTlbs c rd => Sys2Proof.Machine.execInvTlbs c rd s
  | .invItlb c rd => Sys2Proof.Machine.execInvItlb c rd s
  | .invItlbEntry c rd => Sys2Proof.Machine.execInvItlbEntry c rd s
  | .invDtlb c rd => Sys2Proof.Machine.execInvDtlb c rd s
  | .invDtlbEntry c rd => Sys2Proof.Machine.execInvDtlbEntry c rd s
  | .lockIcacheLine c rd => Sys2Proof.Machine.execLockIcacheLine c rd s
  | .lockIcacheLineLegacy c rd => Sys2Proof.Machine.execLockIcacheLineLegacy c rd s
  | .unlockIcache c rd => Sys2Proof.Machine.execUnlockIcache c rd s
  | .unlockIcacheLegacy c rd => Sys2Proof.Machine.execUnlockIcacheLegacy c rd s
  | .unlockDcache c rd => Sys2Proof.Machine.execUnlockDcache c rd s
  | .unlockDcacheLegacy c rd => Sys2Proof.Machine.execUnlockDcacheLegacy c rd s
  | .lockL2Line c rd => Sys2Proof.Machine.execLockL2Line c rd s
  | .allocLockL2Line c rd => Sys2Proof.Machine.execAllocLockL2Line c rd s
  | .unlockL2 c rd => Sys2Proof.Machine.execUnlockL2 c rd s
  | .lockItlbEntry c rd => Sys2Proof.Machine.execLockItlbEntry c rd s
  | .unlockItlb c rd => Sys2Proof.Machine.execUnlockItlb c rd s
  | .lockDtlbEntry c rd => Sys2Proof.Machine.execLockDtlbEntry c rd s
  | .unlockDtlb c rd => Sys2Proof.Machine.execUnlockDtlb c rd s
  | .mcrPmnc c rd => Sys2Proof.Machine.execMcrPmnc c rd s
  | .mrcPmnc c rd => Sys2Proof.Machine.execMrcPmnc c rd s
  | .mcrCcnt c rd => Sys2Proof.Machine.execMcrCcnt c rd s
  | .mrcCcnt c rd => Sys2Proof.Machine.execMrcCcnt c rd s
  | .mcrInten c rd => Sys2Proof.Machine.execMcrInten c rd s
  | .mrcInten c rd => Sys2Proof.Machine.execMrcInten c rd s
  | .mcrFlag c rd => Sys2Proof.Machine.execMcrFlag c rd s
  | .mrcFlag c rd => Sys2Proof.Machine.execMrcFlag c rd s
  | .mcrEvtsel c rd => Sys2Proof.Machine.execMcrEvtsel c rd s
  | .mrcEvtsel c rd => Sys2Proof.Machine.execMrcEvtsel c rd s
  | .mcrPmn0 c rd => Sys2Proof.Machine.execMcrPmn0 c rd s
  | .mrcPmn0 c rd => Sys2Proof.Machine.execMrcPmn0 c rd s
  | .mcrPmn1 c rd => Sys2Proof.Machine.execMcrPmn1 c rd s
  | .mrcPmn1 c rd => Sys2Proof.Machine.execMrcPmn1 c rd s
  | .mcrPmn2 c rd => Sys2Proof.Machine.execMcrPmn2 c rd s
  | .mrcPmn2 c rd => Sys2Proof.Machine.execMrcPmn2 c rd s
  | .mcrPmn3 c rd => Sys2Proof.Machine.execMcrPmn3 c rd s
  | .mrcPmn3 c rd => Sys2Proof.Machine.execMrcPmn3 c rd s
  | .mcrCclkcfg c rd => Sys2Proof.Machine.execMcrCclkcfg c rd s
  | .mrcCclkcfg c rd => Sys2Proof.Machine.execMrcCclkcfg c rd s
  | .mcrPwrmode c rd => Sys2Proof.Machine.execMcrPwrmode c rd s
  | .mrcPwrmode c rd => Sys2Proof.Machine.execMrcPwrmode c rd s
  | .mcrTx c rd => Sys2Proof.Machine.execMcrTx c rd s
  | .mrcRx c rd => Sys2Proof.Machine.execMrcRx c rd s
  | .mcrDcsr c rd => Sys2Proof.Machine.execMcrDcsr c rd s
  | .mrcDcsr c rd => Sys2Proof.Machine.execMrcDcsr c rd s
  | .mrcTbreg c rd => Sys2Proof.Machine.execMrcTbreg c rd s
  | .mcrChkpt0 c rd => Sys2Proof.Machine.execMcrChkpt0 c rd s
  | .mrcChkpt0 c rd => Sys2Proof.Machine.execMrcChkpt0 c rd s
  | .mcrChkpt1 c rd => Sys2Proof.Machine.execMcrChkpt1 c rd s
  | .mrcChkpt1 c rd => Sys2Proof.Machine.execMrcChkpt1 c rd s
  | .mcrTxrxctrl c rd => Sys2Proof.Machine.execMcrTxrxctrl c rd s
  | .mrcTxrxctrl c rd => Sys2Proof.Machine.execMrcTxrxctrl c rd s
  | .ldcP14 c p u n w rn crd off8 => Sys2Proof.Machine.execLdcP14 c p u n w rn crd off8 s
  | .stcP14 c p u n w rn crd off8 => Sys2Proof.Machine.execStcP14 c p u n w rn crd off8 s
  | .mcrErrlog c rd => Sys2Proof.Machine.execMcrErrlog c rd s
  | .mrcErrlog c rd => Sys2Proof.Machine.execMrcErrlog c rd s
  | .mcrErradrl c rd => Sys2Proof.Machine.execMcrErradrl c rd s
  | .mrcErradrl c rd => Sys2Proof.Machine.execMrcErradrl c rd s
  | .mcrErradru c rd => Sys2Proof.Machine.execMcrErradru c rd s
  | .mrcErradru c rd => Sys2Proof.Machine.execMrcErradru c rd s
  | .tLsl op => Sys2Proof.Machine.execTLsl op s
  | .tLsr op => Sys2Proof.Machine.execTLsr op s
  | .tAsr op => Sys2Proof.Machine.execTAsr op s
  | .tAdd op => Sys2Proof.Machine.execTAdd op s
  | .tSub op => Sys2Proof.Machine.execTSub op s
  | .tMovImm8 rd imm8 => Sys2Proof.Machine.execTMovImm8 rd imm8 s
  | .tCmp op => Sys2Proof.Machine.execTCmp op s
  | .tAnd rm rd => Sys2Proof.Machine.execTAnd rm rd s
  | .tEor rm rd => Sys2Proof.Machine.execTEor rm rd s
  | .tAdc rm rd => Sys2Proof.Machine.execTAdc rm rd s
  | .tSbc rm rd => Sys2Proof.Machine.execTSbc rm rd s
  | .tRorReg rm rd => Sys2Proof.Machine.execTRorReg rm rd s
  | .tTst rm rd => Sys2Proof.Machine.execTTst rm rd s
  | .tNeg rm rd => Sys2Proof.Machine.execTNeg rm rd s
  | .tCmn rm rd => Sys2Proof.Machine.execTCmn rm rd s
  | .tOrr rm rd => Sys2Proof.Machine.execTOrr rm rd s
  | .tMul rm rd => Sys2Proof.Machine.execTMul rm rd s
  | .tBic rm rd => Sys2Proof.Machine.execTBic rm rd s
  | .tMvn rm rd => Sys2Proof.Machine.execTMvn rm rd s
  | .tAddHi h1 h2 rm rd => Sys2Proof.Machine.execTAddHi h1 h2 rm rd s
  | .tCmpHi h1 h2 rm rn => Sys2Proof.Machine.execTCmpHi h1 h2 rm rn s
  | .tMovHi h1 h2 rm rd => Sys2Proof.Machine.execTMovHi h1 h2 rm rd s
  | .tBx h2 rm sbz => Sys2Proof.Machine.execTBx h2 rm sbz s
  | .tBlxReg h2 rm sbz => Sys2Proof.Machine.execTBlxReg h2 rm sbz s
  | .tLdr rd addr => Sys2Proof.Machine.execTLdr rd addr s
  | .tStr rd addr => Sys2Proof.Machine.execTStr rd addr s
  | .tStrh rd addr => Sys2Proof.Machine.execTStrh rd addr s
  | .tStrb rd addr => Sys2Proof.Machine.execTStrb rd addr s
  | .tLdrsbReg rm rn rd => Sys2Proof.Machine.execTLdrsbReg rm rn rd s
  | .tLdrh rd addr => Sys2Proof.Machine.execTLdrh rd addr s
  | .tLdrb rd addr => Sys2Proof.Machine.execTLdrb rd addr s
  | .tLdrshReg rm rn rd => Sys2Proof.Machine.execTLdrshReg rm rn rd s
  | .tAddPc rd imm8 => Sys2Proof.Machine.execTAddPc rd imm8 s
  | .tAddSp rd imm8 => Sys2Proof.Machine.execTAddSp rd imm8 s
  | .tIncSp imm7 => Sys2Proof.Machine.execTIncSp imm7 s
  | .tDecSp imm7 => Sys2Proof.Machine.execTDecSp imm7 s
  | .tPush r regs => Sys2Proof.Machine.execTPush r regs s
  | .tPop r regs => Sys2Proof.Machine.execTPop r regs s
  | .tBkpt imm8 => Sys2Proof.Machine.execTBkpt imm8 s
  | .tStmia rn regs => Sys2Proof.Machine.execTStmia rn regs s
  | .tLdmia rn regs => Sys2Proof.Machine.execTLdmia rn regs s
  | .tBCond c imm8 => Sys2Proof.Machine.execTBCond c imm8 s
  | .tUndefined pat => Sys2Proof.Machine.execTUndefined pat s
  | .tSwi imm8 => Sys2Proof.Machine.execTSwi imm8 s
  | .tB imm11 => Sys2Proof.Machine.execTB imm11 s
  | .tBlxSuffix imm10 => Sys2Proof.Machine.execTBlxSuffix imm10 s
  | .tBlPrefix imm11 => Sys2Proof.Machine.execTBlPrefix imm11 s
  | .tBlSuffix imm11 => Sys2Proof.Machine.execTBlSuffix imm11 s

end Sys2Proof.Machine
end

