-- ==== Sys2Proof/Machine/Events.lean ====
section
/-! DEFINITION. Events at an instruction boundary (spec 60 R821, R822, R850 to R852; 61 R899 to R902; 70 R961), what an
instruction leaves when it is done (BTB, memory buffer timer, trace, performance monitor), and the place of a loaded word. -/

namespace Sys2Proof.Machine

/-! ## Reset (70 R961 to R968) -/

/-- The machine when reset ends: every register as after reset but what a processor reset leaves unchanged (memory, the
trace buffer's contents and pointer, Debug SRAM and JTAG side, DCSR H and traps, TXRXCTRL.D, JTAG break), with CTRL.B set
on a product that is big endian only (92 D12), then the reset vector trap (61 R896). -/
def State.leaveReset (s : State) : State :=
  let r := State.reset
  let d := r.dbg
  let s1 : State := { r with
    cp15 := { r.cp15 with ctrl := { r.cp15.ctrl with bigEndian := s.cfg.endian == .big } }
    dbg := { d with
      dcsr := { s.dbg.dcsr with ge := false, tt := false, sa := false, moe := 0, m := false, e := false }
      dl := s.dbg.dl
      jtagBreak := s.dbg.jtagBreak
      holdReset := s.dbg.holdReset }
    trace := s.trace
    jtag := s.jtag
    mem := s.mem
    ext := { s.ext with inReset := false, pendingAbort := none }
    run := { r.run with free := s.run.free, env := s.run.env, flow := .exception }
    cfg := s.cfg }
  if s1.dbg.dcsr.h && s1.dbg.dcsr.tr then s1.debugEntryHalt 0b101 4 else s1

/-! ## Interrupts (60 R850 to R852) -/

/-- The performance monitor's request (12 R148). -/
def State.pmuRequest (s : State) : Bool := s.pmu.flag &&& s.pmu.inten != 0

/-- The L2 single-bit error's request (12 R172, 60 R852). That it stands while ERRLOG.SBE is set is a DESIGN CHOICE (log 57). -/
def State.eccRequest (s : State) : Bool := s.errlog.log.getLsbD 7

/-- The IRQ input: the pin, or a request of the core that comes back as IRQ. -/
def State.irqInput (s : State) : Bool :=
  s.ext.irq || (s.pmuRequest && s.cfg.pmuRoute == .irq) || (s.eccRequest && s.cfg.eccRoute == .irq)

/-- The FIQ input. -/
def State.fiqInput (s : State) : Bool :=
  s.ext.fiq || (s.pmuRequest && s.cfg.pmuRoute == .fiq) || (s.eccRequest && s.cfg.eccRoute == .fiq)

/-! ## Pending events (60 R822) -/

/-- A pended JTAG or trace-buffer-full break waits (61 R899). -/
def State.breakBlocked (s : State) : Bool := s.dbg.sds || (!s.dbg.dcsr.h && s.cpsr.m == modeAbt)

/-- The debug break to take now, if any (61 R899, 92 D31). -/
def State.debugBreak (s : State) : Option State :=
  let link := s.pc + 4
  if s.dbg.jtagBreak && !s.breakBlocked then some (s.debugEntry 0b100 link false)
  else if s.ext.socBreak && s.dbg.dcsr.ge && !s.dbg.sds then some (s.debugEntryHalt 0b100 link)
  else if s.dbg.tbFull && s.dbg.dcsr.ge && !s.breakBlocked then some (s.debugEntry 0b110 link false)
  else none

/-- A pending imprecise abort taken (60 R843); in Special Debug State only FSR, FAR and DCSR.SA change (61 R894). -/
def State.takePendingAbort (s : State) (status : BitVec 5) : State :=
  if s.dbg.sds then
    let s1 := ((s.mapExt ({ · with pendingAbort := none })).setFaultStatus status none).setFaultAddress none
    s1.mapDebug fun d => { d with dcsr := { d.dcsr with sa := true } }
  else s.impreciseAbort status

/-- The event of rows 4 to 8 of the priority table to take instead of the next instruction (60 R822), from a state that
may have drawn free values. `deliver` says that a pending imprecise abort is delivered now (92 D23). -/
def State.event (s : State) (deliver : Bool) : Option State :=
  if s.run.dataBreak then some ((s.setRun { s.run with dataBreak := false }).debugEntry 0b010 (s.pc + 4) false)
  else match if deliver then s.ext.pendingAbort else none with
  | some status => some (s.takePendingAbort status)
  | none =>
    match s.debugBreak with
    | some s' => some s'
    | none =>
      if s.dbg.sds then none
      else if s.fiqInput && !s.cpsr.f then some (s.takeException .fiq (s.pc + 4))
      else if s.irqInput && !s.cpsr.i then some (s.takeException .irq (s.pc + 4))
      else none

/-- Whether a pending imprecise abort is delivered at this boundary: free (92 D23, log 25). -/
def deliverNow : M Bool := do
  let s ← M.state
  if s.ext.pendingAbort.isSome then do
    let k ← M.draw 1
    pure (k == 1)
  else pure false

/-- Microarchitecture Ready rises at some boundary after a Download Request (92 D33). -/
def becomeReady : M Unit := do
  let s ← M.state
  if s.jtag.requested && !s.jtag.ready then do
    let k ← M.draw 1
    M.update (·.mapJtag ({ · with ready := k == 1 }))
  else pure ()

/-- An instruction breakpoint matches the instruction at the pc (61 R902). -/
def State.instructionBreak (s : State) : Bool :=
  let a := s.remap s.pc
  let hit (ibr : Word) : Bool :=
    ibr.getLsbD 0 && (if s.cpsr.t then ibr.extractLsb' 1 31 == a.extractLsb' 1 31 else ibr.extractLsb' 2 30 == a.extractLsb' 2 30)
  s.dbg.dcsr.ge && !s.dbg.sds && (hit s.cp15.ibr0 || hit s.cp15.ibr1)

/-! ## The BTB (22 R320 to R326) -/

/-- The BTB place of an instruction address. -/
def btbIndex (mva : Word) : Nat := (mva.extractLsb' 2 7).toNat

/-- The tag of an instruction address. -/
def btbTag (mva : Word) : BitVec 24 := mva.extractLsb' 9 23 ++ mva.extractLsb' 1 1

/-- The BTB takes part: enabled, and no fetch from the Debug SRAM (20 R209). -/
def State.btbOn (s : State) : Bool := s.cp15.ctrl.btb && !s.dbg.fromSram

/-- The BTB entry of the instruction at the pc. -/
def State.btbHit (s : State) : Option BtbEntry :=
  let a := s.remap s.pc
  match lookupKey (btbIndex a) s.caches.btb with
  | some e => if e.tag = btbTag a then some e else none
  | none => none

/-- A history moved one step by an outcome (22 R322). -/
def nextHistory (h : BitVec 2) (taken : Bool) : BitVec 2 :=
  if taken then (if h = 3 then 3 else h + 1) else (if h = 0 then 0 else h - 1)

/-- The physical address that the next fetch reads. -/
def State.fetchPa (s : State) : PAddr :=
  match fetchPage (s.remap s.pc) s with
  | .ok (.ok (pa, _, _, _)) _ => pa
  | _ => (s.remap s.pc).setWidth 36

/-- The BTB after a B or BL with these bits at the pc of `s`, which went on at the pc of `s'` (22 R322, R323). A taken branch
that hits also writes the rest of the entry anew: DESIGN CHOICE, the rule speaks of its history only (log 53). -/
def State.btbUpdate (s' s : State) (code : Word) : State :=
  match s.btbOn, s'.run.flow with
  | true, .direct taken =>
    let a := s.remap s.pc
    let entry (history : BitVec 2) : BtbEntry :=
      ⟨btbTag a, (s'.remap s'.pc).extractLsb' 1 31, history, s.cpsr.t, s.fetchPa, code⟩
    let put (e : BtbEntry) : State := s'.mapCaches fun c => { c with btb := insertKey (btbIndex a) e c.btb }
    match s.btbHit with
    | some e =>
      let history := nextHistory e.history taken
      put (if taken then entry history else { e with history := history })
    | none => if taken then put (entry 2) else s'
  | _, _ => s'

/-- The first halfword of an instruction (20 R195). -/
def firstHalf (thumb bigEndian : Bool) (code : Word) : Half :=
  if !thumb && bigEndian then code.extractLsb' 16 16 else code.extractLsb' 0 16

/-- The bits fetched at the pc are others than those of the branch that a BTB entry describes: all of them, or between an ARM
and a Thumb instruction the first halfword. -/
def State.otherCode (s : State) (e : BtbEntry) (code : Word) : Bool :=
  let big := s.cp15.ctrl.bigEndian
  if e.thumb == s.cpsr.t then e.code != code else firstHalf e.thumb big e.code != firstHalf s.cpsr.t big code

/-- The BTB describes the instruction at the pc, and the code at its place in memory has been modified since (22 R326, U52). -/
def State.staleBtb (s : State) (code : Word) : Bool :=
  s.btbOn && (match s.btbHit with | some e => s.otherCode e code && e.pa == s.fetchPa | none => false)

/-! ## The memory buffer's time-out (22 R346) -/

/-- Counts an instruction against the oldest buffered store; the 127th drains it (log 21). -/
def bufferTimer : M Unit := do
  let s ← M.state
  if s.caches.buf.entries.isEmpty then pure ()
  else if s.caches.buf.age < 126 then M.update (·.mapBuf fun b => { b with age := b.age + 1 })
  else drainOldest

/-! ## The performance monitor (12 R147, R150; 92 D40) -/

/-- The occurrence events that the model counts exactly (log 27): every other listed event takes any increment. -/
def exactEvents : List (BitVec 8) := [0x00, 0x03, 0x04, 0x05, 0x07, 0x0A, 0x0B, 0x0C, 0x0D, 0x0E, 0x18, 0x20, 0x23]

/-- The events of the way a step left the pc (12 R150). A step has one of them: an exception entry followed at once by its
vector trap counts one change of the pc: DESIGN CHOICE (log 27). -/
def Flow.pmuEvents : Flow → List (BitVec 8)
  | .sequential => []
  | .direct taken => [0x05, 0x0E] ++ (if taken then [0x0D, 0x18] else [])
  | .indirect taken => [0x0E] ++ (if taken then [0x0D, 0x18] else [])
  | .exception => [0x18]

/-- A counter after `n` occurrences, and whether it rolled over. -/
def countUp (c : Word) (n : Nat) : Word × Bool := (c + BitVec.ofNat 32 n, decide (2 ^ 32 ≤ c.toNat + n))

/-- CCNT after some clocks: their number is any value (92 D40); PMNC.D counts every 64th (12 R141). -/
def countClocks : M Unit := do
  let clocks ← M.draw 32
  M.update fun s =>
    let p := s.pmu
    let total := p.phase.toNat + clocks.toNat
    let (n, phase) := if p.divide then (total / 64, BitVec.ofNat 6 total) else (clocks.toNat, p.phase)
    let (c, ov) := countUp p.ccnt n
    s.setPmu { p with ccnt := c, phase := phase, flag := if ov then p.flag ||| 1 else p.flag }

/-- An event of the ASSP. -/
def asspEvent (e : BitVec 8) : Bool := e.extractLsb' 3 5 == 0b10000

/-- An event that occurs in this machine: an ASSP event only where `P_PMU_ASSP_EVENTS` says so. -/
def Config.eventOccurs (c : Config) (e : BitVec 8) : Bool := !asspEvent e || c.asspEvents.getLsbD (e.extractLsb' 0 3).toNat

/-- The events that the table lists (12 R150). -/
def listedEvent (e : BitVec 8) : Bool :=
  e.toNat < 0x10 || e.toNat == 0x17 || e.toNat == 0x18 || e.toNat == 0x19 || e.toNat == 0x1A || e.toNat == 0x1B ||
    e.toNat == 0x1C || e.toNat == 0x1E || e.toNat == 0x20 || e.toNat == 0x23 || e.toNat == 0x40 || e.toNat == 0x41 ||
    e.toNat == 0x43 || e.toNat == 0x47 || e.toNat == 0x48 || asspEvent e || e.toNat == 0xFF

/-- The event that a counter counts. -/
def Pmu.selected (p : Pmu) (i : Fin 4) : BitVec 8 := p.evtsel.extractLsb' (8 * i.val) 8

/-- One event counter: exact for the events the model sees, any increment for the others, none for 0xFF and for ASSP events
that do not occur. -/
def countEvent (events : List (BitVec 8)) (i : Fin 4) : M Unit := do
  let s ← M.state
  let sel := s.pmu.selected i
  if sel = 0xFF || !Config.eventOccurs s.cfg sel then pure ()
  else do
    let n ← if exactEvents.contains sel then pure (events.count sel)
      else do
        let v ← M.draw 32
        pure v.toNat
    M.update fun s =>
      let p := s.pmu
      let (c, ov) := countUp p.pmn[i] n
      s.setPmu { p with pmn := p.pmn.set i c, flag := if ov then p.flag ||| BitVec.ofNat 5 (2 ^ (i.val + 1)) else p.flag }

/-- The event counters count; with a reserved event selected, counters and flags are any value (12 R149, U31). -/
def countEvents (events : List (BitVec 8)) : M Unit := do
  let s ← M.state
  if [0, 1, 2, 3].all fun i => listedEvent (s.pmu.selected i) then do
    let _ ← M.each (countEvent events) [0, 1, 2, 3]
    pure ()
  else scramblePmu

/-- The performance monitor after a step: counters that were and are enabled count (12 R147). -/
def pmuRetire (before : Pmu) (events : List (BitVec 8)) : M Unit := do
  let s ← M.state
  if before.enable && s.pmu.enable then do
    countClocks
    if before.counting && s.pmu.counting then countEvents events else pure ()
  else pure ()

/-! ## The end of a step -/

/-- The model's own fields between steps. -/
def State.endStep (s : State) : State := s.setRun { s.run with flow := .sequential, events := [], pcLoad := false }

/-- An action that cannot stop, run on a state. -/
def runQuiet (m : M Unit) (s : State) : State :=
  match m s with
  | .ok _ s' => s'
  | .error _ s' => s'

/-- The end of a step that took an event: the performance monitor, then the model's own fields. -/
def State.afterEvent (s' s : State) : State :=
  (runQuiet (pmuRetire s.pmu (s'.run.flow.pmuEvents ++ s'.run.events)) s').endStep

/-- The end of an instruction with these bits that began in `s` and left `s'`: BTB, trace (61 R942, R943), memory buffer timer,
performance monitor. An exception it took counts as executed or not, freely (log 27). -/
def State.afterInstruction (s' s : State) (code : Word) : State :=
  let s1 := s'.btbUpdate s code
  let s2 := if s.tracing && s1.tracing then s1.traceRetire else s1
  let s3 := runQuiet bufferTimer s2
  let executed := if s3.run.flow = .exception then s3.draw 1 else (1, s3)
  let events := s3.run.flow.pmuEvents ++ s3.run.events ++ (if executed.1 = 1 then [0x07] else [])
  (runQuiet (pmuRetire s.pmu events) executed.2).endStep

/-- The outcome of an instruction with these bits, with the end of its step; a stale BTB entry refuses (U52). -/
def retire (s : State) (code : Word) (o : Outcome) : Outcome :=
  match o with
  | .next s' => if s.staleBtb code then .refused .staleBranchTarget else .next (s'.afterInstruction s code)
  | .fault f => .fault f
  | .refused r => .refused r

/-- The state in which the instruction at the pc begins: the hazard of a user-bank transfer is one instruction nearer
its end (U63). -/
def State.begin (s : State) : State := s.setRun { s.run with userTransfer := s.run.userTransfer - 1 }

/-- A word that is no instruction: Undefined Instruction, under its condition (92 D29); a conditional BKPT is
UNPREDICTABLE (43 R611, U61). -/
def execRejected (e : DecodeError) (w : Word) (s : State) : Outcome :=
  if e = .bkptCondition then .refused .operandRestriction
  else match Cond.ofBits (w.extractLsb' 28 4) with
  | some c => runIf c (M.stop .undefined) s
  | none => finish (M.stop .undefined) s

/-- The step before the instruction at the pc is executed: the actions of the outside, reset, power mode, pending
events, the instruction breakpoint, the fetch. It answers the decoded instruction and the state it starts in, or the
outcome of a step that executes none. -/
inductive Boundary where
  | run (d : Decoded) (w : Word) (s : State)
  | done (o : Outcome)

/-- The fetch of the instruction at the pc (20 R208), and the prefetch abort of a failed one (60 R832). -/
def fetchInstruction (s : State) : Boundary :=
  match fetch s with
  | .ok (.word w) s' => .run (decodeArm w) w s'
  | .ok (.half h) s' => .run (decodeThumb h) (Fetched.half h).bits s'
  | .ok (.abort status) s' =>
    if s'.dbg.sds then .done (.refused .sdsPrefetchAbort) else .done (.next ((s'.prefetchAbort status).afterEvent s))
  | .error (.refuse r) _ => .done (.refused r)
  | .error _ s' => .done (.next s')

/-- Pending events, then the instruction breakpoint, then the fetch (60 R822). While the core is ready for a download no
instruction executes from the Debug SRAM (92 D33). -/
def eventsThenFetch (deliver : Bool) (s : State) : Boundary :=
  match s.event deliver with
  | some s' => .done (.next (s'.afterEvent s))
  | none =>
    if s.dbg.fromSram && s.jtag.ready then .done (.next s.endStep)
    else if s.instructionBreak then .done (.next ((s.debugEntry 0b001 (s.pc + 4) true).afterEvent s))
    else fetchInstruction s.begin

/-- Reset, then the power mode (61 R950), then events. -/
def afterActions (s : State) : Boundary :=
  if s.heldInReset then .done (.next s.enterReset)
  else if s.ext.inReset then .done (.next s.leaveReset.endStep)
  else if s.clk.pwrmode != 0 then
    .done (.next (if s.irqInput || s.fiqInput then s.setClk { s.clk with pwrmode := 0 } else s))
  else
    match (do becomeReady; deliverNow : M Bool) s with
    | .ok deliver s' => eventsThenFetch deliver s'
    | .error _ s' => .done (.next s')

/-- One instruction boundary: the actions of the outside, then the rest. -/
def boundary (s : State) : Boundary :=
  let (now, later) := splitTick s.run.env
  if now.any EnvAction.outside then .done (.fault .outsideAddressSpace)
  else match envActions now (s.setRun { s.run with env := later }) with
  | .ok _ s' => afterActions s'
  | .error (.refuse r) _ => .done (.refused r)
  | .error _ s' => .done (.next s')

/-! ## Placing a word for the next fetch -/

/-- A word replaced in the Debug SRAM. -/
def State.putSram (s : State) (w : Word) : State :=
  s.mapJtag fun j => { j with
    sram := j.sram.set (s.pc.extractLsb' 2 9).toNat w (s.pc.extractLsb' 2 9).isLt }

/-- An instruction stored where the next fetch reads it: the instruction set of its size, memory (or the Debug SRAM), and
no older copy in the fetch buffers, the I-cache or the L2. -/
def State.placeWord (s0 : State) (nbits w : Nat) : State :=
  let thumb := nbits = 16
  let s := s0.mapCpsr ({ · with t := thumb })
  if s.dbg.fromSram then
    let h : Half := BitVec.ofNat 16 w
    let old := s.sramWord s.pc
    let high := s.pc.getLsbD 1 != s.cp15.ctrl.bigEndian
    s.putSram (if thumb then (if high then h ++ old.extractLsb' 0 16 else old.extractLsb' 16 16 ++ h) else BitVec.ofNat 32 w)
  else
    let pa := s.fetchPa
    let mem := if thumb then s.mem.writeBytes (s.lane pa 2) 2 (BitVec.ofNat 16 w) 3 else s.mem.writeBytes pa 4 (BitVec.ofNat 32 w) 15
    let line := mvaLine (s.remap s.pc)
    let s1 := (s.setMem mem).emptyBuffers
    let s2 := match s1.iFind line with
      | some (way, _) => s1.mapI fun i => { i with lines := eraseKey (4 * l1Set line + way) i.lines }
      | none => s1
    match s2.l2Find (lineOf pa) with
    | some (way, _) => s2.l2Drop (s2.l2Set (lineOf pa)) way
    | none => s2

end Sys2Proof.Machine
end

