-- ==== Sys2Proof/Machine/Step.lean ====
section
/-! DEFINITION. The step function: one instruction, or one event at an instruction boundary (spec 00 R13, 60 R821). -/

namespace Sys2Proof.Machine

/-- One step of the machine. -/
def step (s : State) : Outcome :=
  match boundary s with
  | .done o => o
  | .run (.instr i) w s' => retire s' w (exec i s')
  | .run (.rejected e) w s' => retire s' w (execRejected e w s')

/-- The state with an instruction stored where `step` fetches its next one (log 17). -/
def State.withFetchWord (s : State) (nbits w : Nat) : State := s.placeWord nbits w

end Sys2Proof.Machine
end

