-- ==== Sys2Proof/Safety.lean ====
section
/-! DEFINITION. The terms in which claims speak: when an instruction executes with no hazard, when an access goes straight
to memory, operand values as words, and the invariant of every run. -/

namespace Sys2Proof.Machine

/-- No user-bank transfer stands right before the instruction, so that every register may be read (93 U63). -/
def State.Ready (s : State) : Prop := s.run.userTransfer ≠ 1

/-- An ARM instruction with this condition is executed: ARM state, the condition holds (30 R383), no hazard. -/
structure State.RunsArm (s : State) (c : Cond) : Prop where
  ready : s.Ready
  arm : s.cpsr.t = false
  holds : s.cpsr.holds c = true

/-- A Thumb instruction is executed: Thumb state, no hazard. -/
structure State.RunsThumb (s : State) : Prop where
  ready : s.Ready
  thumb : s.cpsr.t = true

/-- Data accesses go straight to memory: the MMU off (20 R194), nothing waiting in the memory buffer or on its way from the
L2, no line in the D-cache, no bus error, no debug (so no data breakpoint), memory in its canonical form. -/
structure State.Direct (s : State) : Prop where
  mmu : s.cp15.ctrl.mmu = false
  lines : s.caches.d.lines = []
  buffer : s.caches.buf.entries = []
  settled : s.caches.l2.leaving = []
  noErrors : s.ext.busErrors = []
  noDebug : s.dbg.dcsr.ge = false
  canonical : s.mem.wf = true

/-- With the MMU off the physical address of an access is the remapped address (20 R191, R194), on the byte lane that
Control Register B selects (20 R195). -/
def State.physical (s : State) (va : Word) (n : Nat) : PAddr := s.lane ((s.remap va).setWidth 36) n

/-- The address is a multiple of the size of the access. -/
def State.Aligned (s : State) (va : Word) (n : Nat) : Prop := (s.remap va).toNat % n = 0

/-- The memory after is the memory before but for `n` bytes from an address up, which hold a value, low byte first. -/
def Stored (before after : Memory) (pa : PAddr) (n : Nat) (v : BitVec (8 * n)) : Prop :=
  ∀ a : PAddr, after.read a =
    if (a - pa).toNat < n then v.extractLsb' (8 * (a - pa).toNat) 8 else before.read a

/-- The value and the carry-out of a shifter operand (40 R431, R432). -/
def State.operand (s : State) : ShifterOperand → Word × Bool
  | .imm rot imm8 => (rotatedImm rot imm8, if rot = 0 then s.cpsr.c else (rotatedImm rot imm8).msb)
  | .shiftImm amount sh rm => shiftImm sh (s.readReg rm) amount s.cpsr.c
  | .shiftReg rs sh rm => shiftReg sh (s.readReg rm) ((s.readReg rs).setWidth 8) s.cpsr.c

/-- The offset of a word or unsigned-byte transfer (42 R531). -/
def State.offsetWord (s : State) : Offset2 → Word
  | .imm off12 => off12.setWidth 32
  | .reg amount sh rm => (shiftImm sh (s.readReg rm) amount s.cpsr.c).1

/-- The offset of a halfword, signed byte or doubleword transfer (42 R532). -/
def State.offsetSmall (s : State) : Offset3 → Word
  | .imm immH immL => (immH ++ immL).setWidth 32
  | .reg _ rm => s.readReg rm

/-- The base of a transfer plus or minus its offset (42 R531). -/
def State.indexedBy (s : State) (u : Bool) (rn : Reg) (off : Word) : Word :=
  if u then s.readReg rn + off else s.readReg rn - off

/-- The address of a single transfer (42 R531). -/
def State.addressOf (s : State) (p u : Bool) (rn : Reg) (off : Word) : Word :=
  if p then s.indexedBy u rn off else s.readReg rn

/-- The registers after a write-back of the base. -/
def State.basedRegs (s : State) (wb : Bool) (rn : Reg) (v : Word) : Vector Word 32 :=
  if wb then s.regs.set (s.bank rn) v else s.regs

/-- Taking an exception (60 R824), with no vector trapped: the mode with T clear and I set, F set where the exception sets
it; the link in R14 and the old CPSR in the SPSR of the new mode (number `k`), every other register as before; the pc at
the vector. Of the rest only CP15 (fault registers) and the model's own fields may differ. -/
structure State.Entered (s t : State) (mode : BitVec 5) (k : Fin 6) (link vector : Word) (setF : Bool) : Prop where
  cpsr : t.cpsr = { s.cpsr with m := mode, t := false, i := true, f := s.cpsr.f || setF }
  pc : t.pc = (if s.cp15.ctrl.highVectors then 0xFFFF0000 else 0) + vector
  registers : t.regs = s.regs.set (bankedRegister s.cfg.debugBanksR13 mode 14) link
  saved : t.spsr = s.spsr.set k s.cpsr
  rest : t = { s with regs := t.regs, pc := t.pc, cpsr := t.cpsr, spsr := t.spsr, cp15 := t.cp15, run := t.run }

/-- The pc is aligned for the instruction set it is read in (10 R24). -/
def State.pcAligned (s : State) : Prop := if s.cpsr.t then s.pc.toNat % 2 = 0 else s.pc.toNat % 4 = 0

/-- What holds in every run: memory in its canonical form, one of the eight modes (10 R31), an aligned pc. -/
structure State.Inv (s : State) : Prop where
  memory : s.mem.wf = true
  mode : legalMode s.cpsr.m = true
  pc : s.pcAligned

/-- Between instructions with nothing from outside: no action of the environment, out of reset, running, no pending
abort, no debug break, no Debug SRAM download. -/
structure State.Quiescent (s : State) : Prop where
  env : s.run.env = []
  released : s.ext.resetPin = false ∧ s.dbg.holdReset = false ∧ s.ext.inReset = false
  running : s.clk.pwrmode = 0
  noAbort : s.ext.pendingAbort = none
  noBreak : s.run.dataBreak = false ∧ s.dbg.jtagBreak = false ∧ s.dbg.tbFull = false ∧ s.ext.socBreak = false
  noDownload : s.jtag.requested = false

/-- No cache or buffer holds newer bytes of a physical line than memory, and all of them are determined. -/
def State.Coherent (s : State) (pline : BitVec 31) : Prop := s.newestLine pline = (s.memoryLine pline, fullMask)

/-- The step runs the instruction at the pc, fetched straight from memory: nothing from outside, no interrupt to take, no
instruction breakpoint, MMU off, I-cache and fetch buffers empty, no bus error, no newer bytes of the line than memory's
(93 U43), an aligned pc. -/
structure State.Fetches (s : State) : Prop where
  quiescent : s.Quiescent
  noFiq : s.fiqInput = false ∨ s.cpsr.f = true
  noIrq : s.irqInput = false ∨ s.cpsr.i = true
  noBreakpoint : s.instructionBreak = false
  memory : s.dbg.fromSram = false
  mmu : s.cp15.ctrl.mmu = false
  lines : s.caches.i.lines = []
  buffers : s.caches.i.buffers = Vector.replicate 2 none
  noErrors : s.ext.busErrors = []
  coherent : s.Coherent (lineOf ((s.remap s.pc).setWidth 36))
  aligned : s.pcAligned

/-- The bits of the instruction at the pc in memory (20 R208). -/
def State.codeAtPc (s : State) : Word :=
  (if s.cpsr.t then Fetched.half (s.mem.readBytes (s.physical s.pc 2) 2)
    else Fetched.word (s.mem.readBytes (s.physical s.pc 4) 4)).bits

/-- The instruction at the pc in memory (20 R208), as the decoder reads it. -/
def State.instructionAtPc (s : State) : Decoded :=
  if s.cpsr.t then decodeThumb (s.mem.readBytes (s.physical s.pc 2) 2)
  else decodeArm (s.mem.readBytes (s.physical s.pc 4) 4)

end Sys2Proof.Machine

namespace Sys2Proof

/-- The condition field of an instruction that has one (00 R12, 46 R780). -/
def Instr.cond : Instr → Option Cond
  | .and c _ _ _ _ => some c
  | .eor c _ _ _ _ => some c
  | .sub c _ _ _ _ => some c
  | .rsb c _ _ _ _ => some c
  | .add c _ _ _ _ => some c
  | .adc c _ _ _ _ => some c
  | .sbc c _ _ _ _ => some c
  | .rsc c _ _ _ _ => some c
  | .tst c _ _ _ => some c
  | .teq c _ _ _ => some c
  | .cmp c _ _ _ => some c
  | .cmn c _ _ _ => some c
  | .orr c _ _ _ _ => some c
  | .mov c _ _ _ _ => some c
  | .bic c _ _ _ _ => some c
  | .mvn c _ _ _ _ => some c
  | .clz c _ _ _ _ => some c
  | .mul c _ _ _ _ _ => some c
  | .mla c _ _ _ _ _ => some c
  | .umull c _ _ _ _ _ => some c
  | .umlal c _ _ _ _ _ => some c
  | .smull c _ _ _ _ _ => some c
  | .smlal c _ _ _ _ _ => some c
  | .smulxy c _ _ _ _ _ _ => some c
  | .smulwy c _ _ _ _ _ => some c
  | .smlaxy c _ _ _ _ _ _ => some c
  | .smlawy c _ _ _ _ _ => some c
  | .smlalxy c _ _ _ _ _ _ => some c
  | .qadd c _ _ _ _ => some c
  | .qsub c _ _ _ _ => some c
  | .qdadd c _ _ _ _ => some c
  | .qdsub c _ _ _ _ => some c
  | .ldr c _ _ _ _ _ _ => some c
  | .ldrb c _ _ _ _ _ _ => some c
  | .str c _ _ _ _ _ _ => some c
  | .strb c _ _ _ _ _ _ => some c
  | .ldrt c _ _ _ _ => some c
  | .ldrbt c _ _ _ _ => some c
  | .strt c _ _ _ _ => some c
  | .strbt c _ _ _ _ => some c
  | .ldrh c _ _ _ _ _ _ => some c
  | .ldrsh c _ _ _ _ _ _ => some c
  | .ldrsb c _ _ _ _ _ _ => some c
  | .strh c _ _ _ _ _ _ => some c
  | .ldrd c _ _ _ _ _ _ => some c
  | .strd c _ _ _ _ _ _ => some c
  | .pld _ _ _ => none
  | .ldm c _ _ _ _ _ => some c
  | .ldmUser c _ _ _ _ _ => some c
  | .ldmReturn c _ _ _ _ _ => some c
  | .stm c _ _ _ _ _ => some c
  | .stmUser c _ _ _ _ _ => some c
  | .swp c _ _ _ _ => some c
  | .swpb c _ _ _ _ => some c
  | .b c _ => some c
  | .bl c _ => some c
  | .blxImm _ _ => none
  | .blxReg c _ _ _ _ => some c
  | .bx c _ _ _ _ => some c
  | .mrs c _ _ _ _ _ => some c
  | .msrImm c _ _ _ _ _ => some c
  | .msrReg c _ _ _ _ _ => some c
  | .swi c _ => some c
  | .bkpt _ _ => none
  | .cdp c _ _ _ _ _ _ => some c
  | .mcr c _ _ _ _ _ _ => some c
  | .mrc c _ _ _ _ _ _ => some c
  | .ldc c _ _ _ _ _ _ _ _ => some c
  | .stc c _ _ _ _ _ _ _ _ => some c
  | .mcrr c _ _ _ _ _ => some c
  | .mrrc c _ _ _ _ _ => some c
  | .cdp2 _ _ _ _ _ _ => none
  | .mcr2 _ _ _ _ _ _ => none
  | .mrc2 _ _ _ _ _ _ => none
  | .ldc2 _ _ _ _ _ _ _ _ => none
  | .stc2 _ _ _ _ _ _ _ _ => none
  | .undefinedSpace c _ _ => some c
  | .mia c _ _ _ => some c
  | .miaph c _ _ _ => some c
  | .miabb c _ _ _ => some c
  | .miabt c _ _ _ => some c
  | .miatb c _ _ _ => some c
  | .miatt c _ _ _ => some c
  | .mar c _ _ _ => some c
  | .mra c _ _ _ => some c
  | .mrcMainId c _ => some c
  | .mrcL2Id c _ => some c
  | .mrcCacheType c _ => some c
  | .mrcL2CacheType c _ => some c
  | .mcrControl c _ => some c
  | .mrcControl c _ => some c
  | .mcrAuxControl c _ => some c
  | .mrcAuxControl c _ => some c
  | .mcrTtBase c _ => some c
  | .mrcTtBase c _ => some c
  | .mcrDacr c _ => some c
  | .mrcDacr c _ => some c
  | .mcrFsr c _ => some c
  | .mrcFsr c _ => some c
  | .mcrFar c _ => some c
  | .mrcFar c _ => some c
  | .mcrDcLock c _ => some c
  | .mrcDcLock c _ => some c
  | .mcrDcLockLegacy c _ => some c
  | .mrcDcLockLegacy c _ => some c
  | .mcrPid c _ => some c
  | .mrcPid c _ => some c
  | .mcrIbr0 c _ => some c
  | .mrcIbr0 c _ => some c
  | .mcrIbr1 c _ => some c
  | .mrcIbr1 c _ => some c
  | .mcrDbr0 c _ => some c
  | .mrcDbr0 c _ => some c
  | .mcrDbr1 c _ => some c
  | .mrcDbr1 c _ => some c
  | .mcrDbcon c _ => some c
  | .mrcDbcon c _ => some c
  | .mcrCpar c _ => some c
  | .mrcCpar c _ => some c
  | .invIcacheBtb c _ => some c
  | .invIcacheLine c _ => some c
  | .invBtb c _ => some c
  | .invDcache c _ => some c
  | .invDcacheLine c _ => some c
  | .invCachesBtb c _ => some c
  | .cleanDcacheMva c _ => some c
  | .cleanDcacheSetWay c _ => some c
  | .cleanInvDcacheMva c _ => some c
  | .cleanInvDcacheSetWay c _ => some c
  | .prefetchFlush c _ => some c
  | .dataWriteBarrier c _ => some c
  | .dataMemoryBarrier c _ => some c
  | .invL2Mva c _ => some c
  | .cleanL2Mva c _ => some c
  | .cleanL2SetWay c _ => some c
  | .cleanInvL2SetWay c _ => some c
  | .allocDcacheLine c _ => some c
  | .invTlbs c _ => some c
  | .invItlb c _ => some c
  | .invItlbEntry c _ => some c
  | .invDtlb c _ => some c
  | .invDtlbEntry c _ => some c
  | .lockIcacheLine c _ => some c
  | .lockIcacheLineLegacy c _ => some c
  | .unlockIcache c _ => some c
  | .unlockIcacheLegacy c _ => some c
  | .unlockDcache c _ => some c
  | .unlockDcacheLegacy c _ => some c
  | .lockL2Line c _ => some c
  | .allocLockL2Line c _ => some c
  | .unlockL2 c _ => some c
  | .lockItlbEntry c _ => some c
  | .unlockItlb c _ => some c
  | .lockDtlbEntry c _ => some c
  | .unlockDtlb c _ => some c
  | .mcrPmnc c _ => some c
  | .mrcPmnc c _ => some c
  | .mcrCcnt c _ => some c
  | .mrcCcnt c _ => some c
  | .mcrInten c _ => some c
  | .mrcInten c _ => some c
  | .mcrFlag c _ => some c
  | .mrcFlag c _ => some c
  | .mcrEvtsel c _ => some c
  | .mrcEvtsel c _ => some c
  | .mcrPmn0 c _ => some c
  | .mrcPmn0 c _ => some c
  | .mcrPmn1 c _ => some c
  | .mrcPmn1 c _ => some c
  | .mcrPmn2 c _ => some c
  | .mrcPmn2 c _ => some c
  | .mcrPmn3 c _ => some c
  | .mrcPmn3 c _ => some c
  | .mcrCclkcfg c _ => some c
  | .mrcCclkcfg c _ => some c
  | .mcrPwrmode c _ => some c
  | .mrcPwrmode c _ => some c
  | .mcrTx c _ => some c
  | .mrcRx c _ => some c
  | .mcrDcsr c _ => some c
  | .mrcDcsr c _ => some c
  | .mrcTbreg c _ => some c
  | .mcrChkpt0 c _ => some c
  | .mrcChkpt0 c _ => some c
  | .mcrChkpt1 c _ => some c
  | .mrcChkpt1 c _ => some c
  | .mcrTxrxctrl c _ => some c
  | .mrcTxrxctrl c _ => some c
  | .ldcP14 c _ _ _ _ _ _ _ => some c
  | .stcP14 c _ _ _ _ _ _ _ => some c
  | .mcrErrlog c _ => some c
  | .mrcErrlog c _ => some c
  | .mcrErradrl c _ => some c
  | .mrcErradrl c _ => some c
  | .mcrErradru c _ => some c
  | .mrcErradru c _ => some c
  | .tLsl _ => none
  | .tLsr _ => none
  | .tAsr _ => none
  | .tAdd _ => none
  | .tSub _ => none
  | .tMovImm8 _ _ => none
  | .tCmp _ => none
  | .tAnd _ _ => none
  | .tEor _ _ => none
  | .tAdc _ _ => none
  | .tSbc _ _ => none
  | .tRorReg _ _ => none
  | .tTst _ _ => none
  | .tNeg _ _ => none
  | .tCmn _ _ => none
  | .tOrr _ _ => none
  | .tMul _ _ => none
  | .tBic _ _ => none
  | .tMvn _ _ => none
  | .tAddHi _ _ _ _ => none
  | .tCmpHi _ _ _ _ => none
  | .tMovHi _ _ _ _ => none
  | .tBx _ _ _ => none
  | .tBlxReg _ _ _ => none
  | .tLdr _ _ => none
  | .tStr _ _ => none
  | .tStrh _ _ => none
  | .tStrb _ _ => none
  | .tLdrsbReg _ _ _ => none
  | .tLdrh _ _ => none
  | .tLdrb _ _ => none
  | .tLdrshReg _ _ _ => none
  | .tAddPc _ _ => none
  | .tAddSp _ _ => none
  | .tIncSp _ => none
  | .tDecSp _ => none
  | .tPush _ _ => none
  | .tPop _ _ => none
  | .tBkpt _ => none
  | .tStmia _ _ => none
  | .tLdmia _ _ => none
  | .tBCond c _ => some c
  | .tUndefined _ => none
  | .tSwi _ => none
  | .tB _ => none
  | .tBlxSuffix _ => none
  | .tBlPrefix _ => none
  | .tBlSuffix _ => none

/-- The condition of an instruction that only a privileged mode may execute: the accesses to the registers and functions
of CP15, CP14 and CP7 but for the four functions of User mode (45 R661). -/
def Instr.privilegedOnly : Instr → Option Cond
  | .and _ _ _ _ _ => none
  | .eor _ _ _ _ _ => none
  | .sub _ _ _ _ _ => none
  | .rsb _ _ _ _ _ => none
  | .add _ _ _ _ _ => none
  | .adc _ _ _ _ _ => none
  | .sbc _ _ _ _ _ => none
  | .rsc _ _ _ _ _ => none
  | .tst _ _ _ _ => none
  | .teq _ _ _ _ => none
  | .cmp _ _ _ _ => none
  | .cmn _ _ _ _ => none
  | .orr _ _ _ _ _ => none
  | .mov _ _ _ _ _ => none
  | .bic _ _ _ _ _ => none
  | .mvn _ _ _ _ _ => none
  | .clz _ _ _ _ _ => none
  | .mul _ _ _ _ _ _ => none
  | .mla _ _ _ _ _ _ => none
  | .umull _ _ _ _ _ _ => none
  | .umlal _ _ _ _ _ _ => none
  | .smull _ _ _ _ _ _ => none
  | .smlal _ _ _ _ _ _ => none
  | .smulxy _ _ _ _ _ _ _ => none
  | .smulwy _ _ _ _ _ _ => none
  | .smlaxy _ _ _ _ _ _ _ => none
  | .smlawy _ _ _ _ _ _ => none
  | .smlalxy _ _ _ _ _ _ _ => none
  | .qadd _ _ _ _ _ => none
  | .qsub _ _ _ _ _ => none
  | .qdadd _ _ _ _ _ => none
  | .qdsub _ _ _ _ _ => none
  | .ldr _ _ _ _ _ _ _ => none
  | .ldrb _ _ _ _ _ _ _ => none
  | .str _ _ _ _ _ _ _ => none
  | .strb _ _ _ _ _ _ _ => none
  | .ldrt _ _ _ _ _ => none
  | .ldrbt _ _ _ _ _ => none
  | .strt _ _ _ _ _ => none
  | .strbt _ _ _ _ _ => none
  | .ldrh _ _ _ _ _ _ _ => none
  | .ldrsh _ _ _ _ _ _ _ => none
  | .ldrsb _ _ _ _ _ _ _ => none
  | .strh _ _ _ _ _ _ _ => none
  | .ldrd _ _ _ _ _ _ _ => none
  | .strd _ _ _ _ _ _ _ => none
  | .pld _ _ _ => none
  | .ldm _ _ _ _ _ _ => none
  | .ldmUser _ _ _ _ _ _ => none
  | .ldmReturn _ _ _ _ _ _ => none
  | .stm _ _ _ _ _ _ => none
  | .stmUser _ _ _ _ _ _ => none
  | .swp _ _ _ _ _ => none
  | .swpb _ _ _ _ _ => none
  | .b _ _ => none
  | .bl _ _ => none
  | .blxImm _ _ => none
  | .blxReg _ _ _ _ _ => none
  | .bx _ _ _ _ _ => none
  | .mrs _ _ _ _ _ _ => none
  | .msrImm _ _ _ _ _ _ => none
  | .msrReg _ _ _ _ _ _ => none
  | .swi _ _ => none
  | .bkpt _ _ => none
  | .cdp _ _ _ _ _ _ _ => none
  | .mcr _ _ _ _ _ _ _ => none
  | .mrc _ _ _ _ _ _ _ => none
  | .ldc _ _ _ _ _ _ _ _ _ => none
  | .stc _ _ _ _ _ _ _ _ _ => none
  | .mcrr _ _ _ _ _ _ => none
  | .mrrc _ _ _ _ _ _ => none
  | .cdp2 _ _ _ _ _ _ => none
  | .mcr2 _ _ _ _ _ _ => none
  | .mrc2 _ _ _ _ _ _ => none
  | .ldc2 _ _ _ _ _ _ _ _ => none
  | .stc2 _ _ _ _ _ _ _ _ => none
  | .undefinedSpace _ _ _ => none
  | .mia _ _ _ _ => none
  | .miaph _ _ _ _ => none
  | .miabb _ _ _ _ => none
  | .miabt _ _ _ _ => none
  | .miatb _ _ _ _ => none
  | .miatt _ _ _ _ => none
  | .mar _ _ _ _ => none
  | .mra _ _ _ _ => none
  | .mrcMainId c _ => some c
  | .mrcL2Id c _ => some c
  | .mrcCacheType c _ => some c
  | .mrcL2CacheType c _ => some c
  | .mcrControl c _ => some c
  | .mrcControl c _ => some c
  | .mcrAuxControl c _ => some c
  | .mrcAuxControl c _ => some c
  | .mcrTtBase c _ => some c
  | .mrcTtBase c _ => some c
  | .mcrDacr c _ => some c
  | .mrcDacr c _ => some c
  | .mcrFsr c _ => some c
  | .mrcFsr c _ => some c
  | .mcrFar c _ => some c
  | .mrcFar c _ => some c
  | .mcrDcLock c _ => some c
  | .mrcDcLock c _ => some c
  | .mcrDcLockLegacy c _ => some c
  | .mrcDcLockLegacy c _ => some c
  | .mcrPid c _ => some c
  | .mrcPid c _ => some c
  | .mcrIbr0 c _ => some c
  | .mrcIbr0 c _ => some c
  | .mcrIbr1 c _ => some c
  | .mrcIbr1 c _ => some c
  | .mcrDbr0 c _ => some c
  | .mrcDbr0 c _ => some c
  | .mcrDbr1 c _ => some c
  | .mrcDbr1 c _ => some c
  | .mcrDbcon c _ => some c
  | .mrcDbcon c _ => some c
  | .mcrCpar c _ => some c
  | .mrcCpar c _ => some c
  | .invIcacheBtb c _ => some c
  | .invIcacheLine c _ => some c
  | .invBtb c _ => some c
  | .invDcache c _ => some c
  | .invDcacheLine c _ => some c
  | .invCachesBtb c _ => some c
  | .cleanDcacheMva c _ => some c
  | .cleanDcacheSetWay c _ => some c
  | .cleanInvDcacheMva c _ => some c
  | .cleanInvDcacheSetWay c _ => some c
  | .prefetchFlush _ _ => none
  | .dataWriteBarrier _ _ => none
  | .dataMemoryBarrier _ _ => none
  | .invL2Mva c _ => some c
  | .cleanL2Mva c _ => some c
  | .cleanL2SetWay c _ => some c
  | .cleanInvL2SetWay c _ => some c
  | .allocDcacheLine _ _ => none
  | .invTlbs c _ => some c
  | .invItlb c _ => some c
  | .invItlbEntry c _ => some c
  | .invDtlb c _ => some c
  | .invDtlbEntry c _ => some c
  | .lockIcacheLine c _ => some c
  | .lockIcacheLineLegacy c _ => some c
  | .unlockIcache c _ => some c
  | .unlockIcacheLegacy c _ => some c
  | .unlockDcache c _ => some c
  | .unlockDcacheLegacy c _ => some c
  | .lockL2Line c _ => some c
  | .allocLockL2Line c _ => some c
  | .unlockL2 c _ => some c
  | .lockItlbEntry c _ => some c
  | .unlockItlb c _ => some c
  | .lockDtlbEntry c _ => some c
  | .unlockDtlb c _ => some c
  | .mcrPmnc c _ => some c
  | .mrcPmnc c _ => some c
  | .mcrCcnt c _ => some c
  | .mrcCcnt c _ => some c
  | .mcrInten c _ => some c
  | .mrcInten c _ => some c
  | .mcrFlag c _ => some c
  | .mrcFlag c _ => some c
  | .mcrEvtsel c _ => some c
  | .mrcEvtsel c _ => some c
  | .mcrPmn0 c _ => some c
  | .mrcPmn0 c _ => some c
  | .mcrPmn1 c _ => some c
  | .mrcPmn1 c _ => some c
  | .mcrPmn2 c _ => some c
  | .mrcPmn2 c _ => some c
  | .mcrPmn3 c _ => some c
  | .mrcPmn3 c _ => some c
  | .mcrCclkcfg c _ => some c
  | .mrcCclkcfg c _ => some c
  | .mcrPwrmode c _ => some c
  | .mrcPwrmode c _ => some c
  | .mcrTx c _ => some c
  | .mrcRx c _ => some c
  | .mcrDcsr c _ => some c
  | .mrcDcsr c _ => some c
  | .mrcTbreg c _ => some c
  | .mcrChkpt0 c _ => some c
  | .mrcChkpt0 c _ => some c
  | .mcrChkpt1 c _ => some c
  | .mrcChkpt1 c _ => some c
  | .mcrTxrxctrl c _ => some c
  | .mrcTxrxctrl c _ => some c
  | .ldcP14 c _ _ _ _ _ _ _ => some c
  | .stcP14 c _ _ _ _ _ _ _ => some c
  | .mcrErrlog c _ => some c
  | .mrcErrlog c _ => some c
  | .mcrErradrl c _ => some c
  | .mrcErradrl c _ => some c
  | .mcrErradru c _ => some c
  | .mrcErradru c _ => some c
  | .tLsl _ => none
  | .tLsr _ => none
  | .tAsr _ => none
  | .tAdd _ => none
  | .tSub _ => none
  | .tMovImm8 _ _ => none
  | .tCmp _ => none
  | .tAnd _ _ => none
  | .tEor _ _ => none
  | .tAdc _ _ => none
  | .tSbc _ _ => none
  | .tRorReg _ _ => none
  | .tTst _ _ => none
  | .tNeg _ _ => none
  | .tCmn _ _ => none
  | .tOrr _ _ => none
  | .tMul _ _ => none
  | .tBic _ _ => none
  | .tMvn _ _ => none
  | .tAddHi _ _ _ _ => none
  | .tCmpHi _ _ _ _ => none
  | .tMovHi _ _ _ _ => none
  | .tBx _ _ _ => none
  | .tBlxReg _ _ _ => none
  | .tLdr _ _ => none
  | .tStr _ _ => none
  | .tStrh _ _ => none
  | .tStrb _ _ => none
  | .tLdrsbReg _ _ _ => none
  | .tLdrh _ _ => none
  | .tLdrb _ _ => none
  | .tLdrshReg _ _ _ => none
  | .tAddPc _ _ => none
  | .tAddSp _ _ => none
  | .tIncSp _ => none
  | .tDecSp _ => none
  | .tPush _ _ => none
  | .tPop _ _ => none
  | .tBkpt _ => none
  | .tStmia _ _ => none
  | .tLdmia _ _ => none
  | .tBCond _ _ => none
  | .tUndefined _ => none
  | .tSwi _ => none
  | .tB _ => none
  | .tBlxSuffix _ => none
  | .tBlPrefix _ => none
  | .tBlSuffix _ => none

/-- The multiplies, the DSP instructions and CLZ (spec 41, 40 R456). -/
def Instr.isMultiply : Instr → Bool
  | .clz _ _ _ _ _ => true
  | .mul _ _ _ _ _ _ => true
  | .mla _ _ _ _ _ _ => true
  | .umull _ _ _ _ _ _ => true
  | .umlal _ _ _ _ _ _ => true
  | .smull _ _ _ _ _ _ => true
  | .smlal _ _ _ _ _ _ => true
  | .smulxy _ _ _ _ _ _ _ => true
  | .smulwy _ _ _ _ _ _ => true
  | .smlaxy _ _ _ _ _ _ _ => true
  | .smlawy _ _ _ _ _ _ => true
  | .smlalxy _ _ _ _ _ _ _ => true
  | .qadd _ _ _ _ _ => true
  | .qsub _ _ _ _ _ => true
  | .qdadd _ _ _ _ _ => true
  | .qdsub _ _ _ _ _ => true
  | _ => false

/-- The branch, status register and exception instructions of the ARM set (spec 43 R590 to R611). -/
def Instr.isBranchOrStatus : Instr → Bool
  | .b _ _ => true
  | .bl _ _ => true
  | .blxImm _ _ => true
  | .blxReg _ _ _ _ _ => true
  | .bx _ _ _ _ _ => true
  | .mrs _ _ _ _ _ _ => true
  | .msrImm _ _ _ _ _ _ => true
  | .msrReg _ _ _ _ _ _ => true
  | .swi _ _ => true
  | .bkpt _ _ => true
  | _ => false

/-- The data-processing instructions but CLZ, the loads, stores, preload, multiple transfers and swaps of the ARM set (spec 40, 42). -/
def Instr.isDataOrTransfer : Instr → Bool
  | .and _ _ _ _ _ => true
  | .eor _ _ _ _ _ => true
  | .sub _ _ _ _ _ => true
  | .rsb _ _ _ _ _ => true
  | .add _ _ _ _ _ => true
  | .adc _ _ _ _ _ => true
  | .sbc _ _ _ _ _ => true
  | .rsc _ _ _ _ _ => true
  | .tst _ _ _ _ => true
  | .teq _ _ _ _ => true
  | .cmp _ _ _ _ => true
  | .cmn _ _ _ _ => true
  | .orr _ _ _ _ _ => true
  | .mov _ _ _ _ _ => true
  | .bic _ _ _ _ _ => true
  | .mvn _ _ _ _ _ => true
  | .ldr _ _ _ _ _ _ _ => true
  | .ldrb _ _ _ _ _ _ _ => true
  | .str _ _ _ _ _ _ _ => true
  | .strb _ _ _ _ _ _ _ => true
  | .ldrt _ _ _ _ _ => true
  | .ldrbt _ _ _ _ _ => true
  | .strt _ _ _ _ _ => true
  | .strbt _ _ _ _ _ => true
  | .ldrh _ _ _ _ _ _ _ => true
  | .ldrsh _ _ _ _ _ _ _ => true
  | .ldrsb _ _ _ _ _ _ _ => true
  | .strh _ _ _ _ _ _ _ => true
  | .ldrd _ _ _ _ _ _ _ => true
  | .strd _ _ _ _ _ _ _ => true
  | .pld _ _ _ => true
  | .ldm _ _ _ _ _ _ => true
  | .ldmUser _ _ _ _ _ _ => true
  | .ldmReturn _ _ _ _ _ _ => true
  | .stm _ _ _ _ _ _ => true
  | .stmUser _ _ _ _ _ _ => true
  | .swp _ _ _ _ _ => true
  | .swpb _ _ _ _ _ => true
  | _ => false

end Sys2Proof
end

