-- ==== Sys2Proof/WellFormed.lean ====
section
/-! DEFINITION. Well-formed instructions: a term of `Instr` that some word encodes (its fields select no other row
of the opcode table, spec 30 R390 to R422) and whose operands its rule allows (30 R408; 93 U61). -/

namespace Sys2Proof

/-- A well-formed instruction: it has an encoding that decodes to it, and its should-be fields and register
combination are ones the spec gives an effect. -/
def Instr.wellFormed (i : Instr) : Bool := i.encodable && i.operandsAllowed

/-- `wellFormed` as a proposition. -/
abbrev Instr.WellFormed (i : Instr) : Prop := i.wellFormed = true

end Sys2Proof
end

