-- ==== Sys2Proof/Certificates/Slice0/Obligations.lean ====
section
/-! DEFINITION. The statements for the provers, in the order of the files of spec/. A refusal in a statement is the
treatment that spec/93 gives the behaviour (its U number stands in OBLIGATIONS.json); where a statement speaks of a value
or a choice of the model, its docstring names the log entry. -/

open Sys2Proof Sys2Proof.Machine

/-! ## Operands and data processing (spec 40) -/

/-- 40 R432: the immediate form is the byte rotated right by twice the rotate field, bit by bit; the carry-out is CPSR.C
for no rotation and bit 31 of the value for another. -/
def Obligations.ImmediateOperandIsRotated : Prop :=
  ∀ (s : State) (rot : BitVec 4) (imm8 : BitVec 8), ∃ v k,
    shifterOperand (.imm rot imm8) s = .ok (v, k) s ∧
    (∀ i, i < 32 → v.getLsbD i = (imm8.setWidth 32 : Word).getLsbD ((i + 2 * rot.toNat) % 32)) ∧
    k = if rot.toNat = 0 then s.cpsr.c else v.getLsbD 31

/-- 40 R431, shift by immediate: the value and the carry-out of every row of the table, ASR as a floor division.
40 R431, shift by register: the low byte of Rs is the amount, 0 to 255. -/
def Obligations.ShiftTables : Prop :=
  (∀ (s : State) (amount : BitVec 5) (rm : Reg), s.Ready →
     let m := s.readReg rm
     let n := amount.toNat
     shifterOperand (.shiftImm amount .lsl rm) s =
       .ok (if n = 0 then (m, s.cpsr.c) else (BitVec.ofNat 32 (m.toNat * 2 ^ n), m.getLsbD (32 - n))) s ∧
     shifterOperand (.shiftImm amount .lsr rm) s =
       .ok (if n = 0 then (0, m.getLsbD 31) else (BitVec.ofNat 32 (m.toNat / 2 ^ n), m.getLsbD (n - 1))) s ∧
     shifterOperand (.shiftImm amount .asr rm) s =
       .ok (if n = 0 then (if m.getLsbD 31 then 0xFFFFFFFF else 0, m.getLsbD 31)
         else (BitVec.ofInt 32 (m.toInt / 2 ^ n), m.getLsbD (n - 1))) s ∧
     shifterOperand (.shiftImm amount .ror rm) s =
       .ok (if n = 0 then (BitVec.ofBool s.cpsr.c ++ m.extractLsb' 1 31, m.getLsbD 0)
         else ((m >>> n) ||| (m <<< (32 - n)), m.getLsbD (n - 1))) s) ∧
  (∀ (s : State) (rs rm : Reg), s.Ready →
     let m := s.readReg rm
     let n := (s.readReg rs).toNat % 256
     shifterOperand (.shiftReg rs .lsl rm) s =
       .ok (if n = 0 then (m, s.cpsr.c) else if n < 32 then (BitVec.ofNat 32 (m.toNat * 2 ^ n), m.getLsbD (32 - n))
         else if n = 32 then (0, m.getLsbD 0) else (0, false)) s ∧
     shifterOperand (.shiftReg rs .lsr rm) s =
       .ok (if n = 0 then (m, s.cpsr.c) else if n < 32 then (BitVec.ofNat 32 (m.toNat / 2 ^ n), m.getLsbD (n - 1))
         else if n = 32 then (0, m.getLsbD 31) else (0, false)) s ∧
     shifterOperand (.shiftReg rs .asr rm) s =
       .ok (if n = 0 then (m, s.cpsr.c) else if n < 32 then (BitVec.ofInt 32 (m.toInt / 2 ^ n), m.getLsbD (n - 1))
         else (if m.getLsbD 31 then 0xFFFFFFFF else 0, m.getLsbD 31)) s ∧
     shifterOperand (.shiftReg rs .ror rm) s =
       .ok (if n = 0 then (m, s.cpsr.c) else if n % 32 = 0 then (m, m.getLsbD 31)
         else ((m >>> (n % 32)) ||| (m <<< (32 - n % 32)), m.getLsbD (n % 32 - 1))) s)

/-- 40 R433: the sum, its carry out of bit 31, its signed overflow; and for x - y the carry says that no borrow occurred. -/
def Obligations.AddWithCarryMeansExactSum : Prop :=
  ∀ (x y : Word) (c : Bool),
    (addWithCarry x y c).value = x + y + (if c then 1 else 0) ∧
    ((addWithCarry x y c).carry = true ↔ 2 ^ 32 ≤ x.toNat + y.toNat + c.toNat) ∧
    ((addWithCarry x y c).overflow = true ↔
      x.toInt + y.toInt + c.toNat < -2 ^ 31 ∨ 2 ^ 31 ≤ x.toInt + y.toInt + c.toNat) ∧
    (addWithCarry x (~~~y) true).value = x - y ∧
    ((addWithCarry x (~~~y) true).carry = true ↔ y.toNat ≤ x.toNat) ∧
    ((addWithCarry x (~~~y) true).overflow = true ↔ x.toInt - y.toInt < -2 ^ 31 ∨ 2 ^ 31 ≤ x.toInt - y.toInt)

/-- AND, EOR, ORR, BIC, MOV and MVN with a destination other than R15: the result, with S the flags N, Z and the shifter's
carry-out, the pc; nothing else changes.
SUB, RSB, ADD, ADC, SBC and RSC with a destination other than R15: the result and with S all four flags; nothing else
changes.
TST, TEQ, CMP and CMN write flags and the pc and nothing else. -/
def Obligations.DataProcessingResult : Prop :=
  (∀ (s : State) (c : Cond) (sf : Bool) (rn rd : Reg) (so : ShifterOperand), s.RunsArm c → rd ≠ 15 →
     shifterAllowed [rn, rd] so = true →
     let a := s.readReg rn
     let (b, k) := s.operand so
     let done (v : Word) : Outcome := .next { s with
       regs := s.regs.set (s.bank rd) v
       pc := s.pc + 4
       cpsr := if sf then { s.cpsr with n := v.getLsbD 31, z := v == 0, c := k } else s.cpsr }
     exec (.and c sf rn rd so) s = done (a &&& b) ∧
     exec (.eor c sf rn rd so) s = done (a ^^^ b) ∧
     exec (.orr c sf rn rd so) s = done (a ||| b) ∧
     exec (.bic c sf rn rd so) s = done (a &&& ~~~b) ∧
     exec (.mov c sf 0 rd so) s = done b ∧
     exec (.mvn c sf 0 rd so) s = done (~~~b)) ∧
  (∀ (s : State) (c : Cond) (sf : Bool) (rn rd : Reg) (so : ShifterOperand), s.RunsArm c → rd ≠ 15 →
     shifterAllowed [rn, rd] so = true →
     let a := s.readReg rn
     let b := (s.operand so).1
     let done (r : AluResult) : Outcome := .next { s with
       regs := s.regs.set (s.bank rd) r.value
       pc := s.pc + 4
       cpsr := if sf then { s.cpsr with n := r.value.getLsbD 31, z := r.value == 0, c := r.carry, v := r.overflow }
         else s.cpsr }
     exec (.sub c sf rn rd so) s = done (addWithCarry a (~~~b) true) ∧
     exec (.rsb c sf rn rd so) s = done (addWithCarry b (~~~a) true) ∧
     exec (.add c sf rn rd so) s = done (addWithCarry a b false) ∧
     exec (.adc c sf rn rd so) s = done (addWithCarry a b s.cpsr.c) ∧
     exec (.sbc c sf rn rd so) s = done (addWithCarry a (~~~b) s.cpsr.c) ∧
     exec (.rsc c sf rn rd so) s = done (addWithCarry b (~~~a) s.cpsr.c)) ∧
  (∀ (s : State) (c : Cond) (rn : Reg) (so : ShifterOperand), s.RunsArm c → shifterAllowed [rn] so = true →
     let a := s.readReg rn
     let (b, k) := s.operand so
     let logical (v : Word) : Outcome := .next { s with
       pc := s.pc + 4, cpsr := { s.cpsr with n := v.getLsbD 31, z := v == 0, c := k } }
     let arithmetic (r : AluResult) : Outcome := .next { s with
       pc := s.pc + 4
       cpsr := { s.cpsr with n := r.value.getLsbD 31, z := r.value == 0, c := r.carry, v := r.overflow } }
     exec (.tst c rn 0 so) s = logical (a &&& b) ∧
     exec (.teq c rn 0 so) s = logical (a ^^^ b) ∧
     exec (.cmp c rn 0 so) s = arithmetic (addWithCarry a (~~~b) true) ∧
     exec (.cmn c rn 0 so) s = arithmetic (addWithCarry a b false))

/-- 40 R434, the twelve instructions with a destination and Rd = R15: without S a branch to an aligned result; with S in a mode that has an SPSR the
CPSR is the SPSR, the flags are not set from the result, and Special Debug State ends; a result whose low bits are not 0
refuses, and so does S in User or System mode (93 U62, U13; log 13). -/
def Obligations.DataProcessingToPc : Prop :=
  ∀ (s : State) (c : Cond) (sf : Bool) (rn : Reg) (so : ShifterOperand), s.RunsArm c → shifterAllowed [rn, 15] so = true →
    let done (v : Word) : Outcome :=
      if sf then
        match spsrOf s.cpsr.m with
        | none => .refused .noSpsr
        | some k =>
          let p := s.spsr[k]
          if legalMode p.m = false then .refused .illegalMode
          else if v.getLsbD 0 || (!p.t && v.getLsbD 1) then .refused .misalignedPc
          else .next { s with
            pc := v, cpsr := p, dbg := { s.dbg with sds := false, fromSram := false }
            run := { s.run with flow := .indirect true } }
      else if v.toNat % 4 = 0 then .next { s with pc := v, run := { s.run with flow := .indirect true } }
      else .refused .misalignedPc
    let a := s.readReg rn
    let b := (s.operand so).1
    let carry : Word := if s.cpsr.c then 1 else 0
    exec (.and c sf rn 15 so) s = done (a &&& b) ∧
    exec (.eor c sf rn 15 so) s = done (a ^^^ b) ∧
    exec (.sub c sf rn 15 so) s = done (a - b) ∧
    exec (.rsb c sf rn 15 so) s = done (b - a) ∧
    exec (.add c sf rn 15 so) s = done (a + b) ∧
    exec (.adc c sf rn 15 so) s = done (a + b + carry) ∧
    exec (.sbc c sf rn 15 so) s = done (a - b - (1 - carry)) ∧
    exec (.rsc c sf rn 15 so) s = done (b - a - (1 - carry)) ∧
    exec (.orr c sf rn 15 so) s = done (a ||| b) ∧
    exec (.mov c sf 0 15 so) s = done b ∧
    exec (.bic c sf rn 15 so) s = done (a &&& ~~~b) ∧
    exec (.mvn c sf 0 15 so) s = done (~~~b)

/-- 40 R456: CLZ counts the zeros above the highest 1 bit, 32 for zero; no flag changes; R15 refuses. -/
def Obligations.CountLeadingZerosResult : Prop :=
  ∀ (s : State) (c : Cond) (rd rm : Reg), s.RunsArm c →
    if rd = 15 ∨ rm = 15 then exec (.clz c 15 rd 15 rm) s = .refused .operandRestriction
    else ∃ n : Nat, n ≤ 32 ∧
      exec (.clz c 15 rd 15 rm) s = .next { s with regs := s.regs.set (s.bank rd) (BitVec.ofNat 32 n), pc := s.pc + 4 } ∧
      (s.readReg rm).toNat < 2 ^ (32 - n) ∧ (n < 32 → (s.readReg rm).getLsbD (31 - n) = true)

/-- 00 R12: an ARM instruction whose condition fails only advances the pc (a branch or a write of the pc is
remembered as not made, for the performance monitor). -/
def Obligations.FailedConditionOnlyAdvances : Prop :=
  ∀ (i : Instr) (c : Cond) (s : State), i.cond = some c → s.cpsr.holds c = false →
    ∃ f : Flow, exec i s = .next { s with pc := s.pc + s.size, run := { s.run with flow := f } } ∧
      (f = s.run.flow ∨ f = .direct false ∨ f = .indirect false)

/-! ## Multiplies and the DSP instructions (spec 41) -/

/-- MUL and MLA: the low word of the exact product (and sum), N and Z with S; nothing else changes.
UMULL, UMLAL, SMULL and SMLAL: the exact 64-bit product, with the old RdHi : RdLo added where they accumulate; every
source is read before a destination is written (RdHi or RdLo may be Rm, 41 R481). -/
def Obligations.MultiplyResult : Prop :=
  (∀ (s : State) (c : Cond) (sf : Bool) (rd rn rs rm : Reg), s.RunsArm c → rd ≠ 15 → rn ≠ 15 → rs ≠ 15 → rm ≠ 15 →
     let m := (s.readReg rm).toNat
     let x := (s.readReg rs).toNat
     let n := (s.readReg rn).toNat
     let done (v : Word) : Outcome := .next { s with
       regs := s.regs.set (s.bank rd) v
       pc := s.pc + 4
       cpsr := if sf then { s.cpsr with n := v.getLsbD 31, z := v == 0 } else s.cpsr }
     exec (.mul c sf rd 0 rs rm) s = done (BitVec.ofNat 32 (m * x)) ∧
     exec (.mla c sf rd rn rs rm) s = done (BitVec.ofNat 32 (m * x + n))) ∧
  (∀ (s : State) (c : Cond) (sf : Bool) (rdHi rdLo rs rm : Reg), s.RunsArm c → rdHi ≠ 15 → rdLo ≠ 15 → rs ≠ 15 →
     rm ≠ 15 → rdHi ≠ rdLo →
     let m := s.readReg rm
     let x := s.readReg rs
     let acc : BitVec 64 := s.readReg rdHi ++ s.readReg rdLo
     let done (v : BitVec 64) : Outcome := .next { s with
       regs := (s.regs.set (s.bank rdLo) (v.extractLsb' 0 32)).set (s.bank rdHi) (v.extractLsb' 32 32)
       pc := s.pc + 4
       cpsr := if sf then { s.cpsr with n := v.getLsbD 63, z := v == 0 } else s.cpsr }
     exec (.umull c sf rdHi rdLo rs rm) s = done (BitVec.ofNat 64 (m.toNat * x.toNat)) ∧
     exec (.umlal c sf rdHi rdLo rs rm) s = done (BitVec.ofNat 64 (m.toNat * x.toNat + acc.toNat)) ∧
     exec (.smull c sf rdHi rdLo rs rm) s = done (BitVec.ofInt 64 (m.toInt * x.toInt)) ∧
     exec (.smlal c sf rdHi rdLo rs rm) s = done (BitVec.ofInt 64 (m.toInt * x.toInt + acc.toInt)))

/-- SMULxy, SMULWy, SMLAxy, SMLAWy and SMLALxy: products of signed halves and words; only the accumulating word forms can
set Q, on a signed overflow of the sum, and none clears it.
QADD, QSUB, QDADD and QDSUB: the exact sum or difference, Rn doubled and saturated first in the last two, saturated to
32 bits; Q is set by a saturation and never cleared. -/
def Obligations.EnhancedDspResult : Prop :=
  (∀ (s : State) (c : Cond) (x y : Bool) (rd rn rs rm : Reg), s.RunsArm c → rd ≠ 15 → rn ≠ 15 → rs ≠ 15 → rm ≠ 15 →
     let half (v : Word) (top : Bool) : Int := ((if top then v.extractLsb' 16 16 else v.extractLsb' 0 16) : Half).toInt
     let m := s.readReg rm
     let r := s.readReg rs
     let n := s.readReg rn
     let wide : Int := m.toInt * half r y / 2 ^ 16
     let done (i : Int) : Outcome := .next { s with regs := s.regs.set (s.bank rd) (BitVec.ofInt 32 i), pc := s.pc + 4 }
     let sticky (i : Int) : Outcome := .next { s with
       regs := s.regs.set (s.bank rd) (BitVec.ofInt 32 i)
       pc := s.pc + 4
       cpsr := { s.cpsr with q := s.cpsr.q || decide (i < -2 ^ 31 ∨ 2 ^ 31 ≤ i) } }
     exec (.smulxy c rd 0 rs y x rm) s = done (half m x * half r y) ∧
     exec (.smulwy c rd 0 rs y rm) s = done wide ∧
     exec (.smlaxy c rd rn rs y x rm) s = sticky (half m x * half r y + n.toInt) ∧
     exec (.smlawy c rd rn rs y rm) s = sticky (wide + n.toInt) ∧
     (rd ≠ rn →
       let sum : BitVec 64 := (s.readReg rd ++ s.readReg rn) + BitVec.ofInt 64 (half m x * half r y)
       exec (.smlalxy c rd rn rs y x rm) s = .next { s with
         regs := (s.regs.set (s.bank rn) (sum.extractLsb' 0 32)).set (s.bank rd) (sum.extractLsb' 32 32)
         pc := s.pc + 4 })) ∧
  (∀ (s : State) (c : Cond) (rn rd rm : Reg), s.RunsArm c → rn ≠ 15 → rd ≠ 15 → rm ≠ 15 →
     let sat (i : Int) : Int := max (-2 ^ 31) (min (2 ^ 31 - 1) i)
     let m := (s.readReg rm).toInt
     let n := (s.readReg rn).toInt
     let d := sat (2 * n)
     let done (q : Bool) (i : Int) : Outcome := .next { s with
       regs := s.regs.set (s.bank rd) (BitVec.ofInt 32 (sat i))
       pc := s.pc + 4
       cpsr := { s.cpsr with q := s.cpsr.q || q || sat i != i } }
     exec (.qadd c rn rd 0 rm) s = done false (m + n) ∧
     exec (.qsub c rn rd 0 rm) s = done false (m - n) ∧
     exec (.qdadd c rn rd 0 rm) s = done (d != 2 * n) (m + d) ∧
     exec (.qdsub c rn rd 0 rm) s = done (d != 2 * n) (m - d))

/-! ## Loads and stores (spec 42), straight to memory -/

/-- LDR and LDRT to a register other than R15: the word at the address rounded down, rotated by the low address bits
(with CTRL.A set the address must be aligned); the base where the form writes it back; nothing else changes but the notes
for the performance monitor.
LDRB, LDRBT, LDRH, LDRSB and LDRSH: the byte or aligned halfword, extended with zeros or with its sign. -/
def Obligations.SingleLoadResult : Prop :=
  (∀ (s : State) (c : Cond) (p u w : Bool) (rn rd : Reg) (off : Offset2), s.RunsArm c → s.Direct → rd ≠ 15 →
     let o := s.offsetWord off
     let usable (a : Word) : Prop := s.Aligned a 4 ∨ s.cp15.ctrl.align = false
     let loads (i : Instr) (a : Word) (wb : Bool) : Prop := i.operandsAllowed = true → usable a → ∃ events,
       let v : Word := s.mem.readBytes (s.physical (a &&& 0xFFFFFFFC) 4) 4
       exec i s = .next { s with
         regs := (s.basedRegs wb rn (s.indexedBy u rn o)).set (s.bank rd) (v.rotateRight (8 * (a.toNat % 4)))
         pc := s.pc + 4
         run := { s.run with events := events } }
     loads (.ldr c p u w rn rd off) (s.addressOf p u rn o) (!p || w) ∧
     loads (.ldrt c u rn rd off) (s.readReg rn) true) ∧
  (∀ (s : State) (c : Cond) (p u w : Bool) (rn rd : Reg) (off : Offset2) (off3 : Offset3), s.RunsArm c → s.Direct →
     let done (wb : Bool) (o v : Word) (events : List (BitVec 8)) : Outcome := .next { s with
       regs := (s.basedRegs wb rn (s.indexedBy u rn o)).set (s.bank rd) v
       pc := s.pc + 4
       run := { s.run with events := events } }
     let loads (i : Instr) (wb : Bool) (o v : Word) : Prop :=
       i.operandsAllowed = true → ∃ events, exec i s = done wb o v events
     let byte (a : Word) : Byte := s.mem.readBytes (s.physical a 1) 1
     let half (a : Word) : Half := s.mem.readBytes (s.physical a 2) 2
     let o := s.offsetWord off
     let a := s.addressOf p u rn o
     let o3 := s.offsetSmall off3
     let a3 := s.addressOf p u rn o3
     loads (.ldrb c p u w rn rd off) (!p || w) o ((byte a).setWidth 32) ∧
     loads (.ldrbt c u rn rd off) true o ((byte (s.readReg rn)).setWidth 32) ∧
     loads (.ldrsb c p u w rn rd off3) (!p || w) o3 ((byte a3).signExtend 32) ∧
     (s.Aligned a3 2 →
       loads (.ldrh c p u w rn rd off3) (!p || w) o3 ((half a3).setWidth 32) ∧
       loads (.ldrsh c p u w rn rd off3) (!p || w) o3 ((half a3).signExtend 32)))

/-- STR, STRT, STRB, STRBT and STRH: the low bytes of Rd at the address (a word at the address rounded down), every other
byte of memory as before; the base where the form writes it back. That a stored R15 is its address plus 12 is the model's
choice (log 14, DEDUCED by decision D9). -/
def Obligations.StoreResult : Prop :=
  ∀ (s : State) (c : Cond) (p u w : Bool) (rn rd : Reg) (off : Offset2) (off3 : Offset3), s.RunsArm c → s.Direct →
    let stores (i : Instr) (wb : Bool) (o a : Word) (n : Nat) (v : BitVec (8 * n)) : Prop :=
      i.operandsAllowed = true → ∃ (m : Memory) (events : List (BitVec 8)),
        exec i s = .next { s with
          regs := s.basedRegs wb rn (s.indexedBy u rn o)
          pc := s.pc + 4
          mem := m
          run := { s.run with events := events } } ∧
        m.wf = true ∧ Stored s.mem m (s.physical a n) n v
    let v : Word := if rd = 15 then s.pc + 12 else s.readReg rd
    let o := s.offsetWord off
    let a := s.addressOf p u rn o
    let b := s.readReg rn
    let o3 := s.offsetSmall off3
    let a3 := s.addressOf p u rn o3
    ((s.Aligned a 4 ∨ s.cp15.ctrl.align = false) → stores (.str c p u w rn rd off) (!p || w) o (a &&& 0xFFFFFFFC) 4 v) ∧
    ((s.Aligned b 4 ∨ s.cp15.ctrl.align = false) → stores (.strt c u rn rd off) true o (b &&& 0xFFFFFFFC) 4 v) ∧
    stores (.strb c p u w rn rd off) (!p || w) o a 1 (v.setWidth 8) ∧
    stores (.strbt c u rn rd off) true o b 1 (v.setWidth 8) ∧
    (s.Aligned a3 2 → stores (.strh c p u w rn rd off3) (!p || w) o3 a3 2 (v.setWidth 16))

/-- LDR to R15 is an interworking branch (42 R534): bit 0 of the word is the new T bit; a word that ends in 0b10
refuses (93 U62, log 13), and an unaligned address is a precise data abort whatever CTRL.A is (93 U42; with CTRL.A clear
that is the model's choice, log 46). -/
def Obligations.LoadToPcInterworks : Prop :=
  ∀ (s : State) (c : Cond) (p u w : Bool) (rn : Reg) (off : Offset2), s.RunsArm c → s.Direct →
    (Instr.ldr c p u w rn 15 off).operandsAllowed = true →
    let o := s.offsetWord off
    let a := s.addressOf p u rn o
    let v : Word := s.mem.readBytes (s.physical a 4) 4
    (s.Aligned a 4 → v.toNat % 4 = 2 → exec (.ldr c p u w rn 15 off) s = .refused .misalignedPc) ∧
    (s.Aligned a 4 → v.toNat % 4 ≠ 2 → ∃ events, exec (.ldr c p u w rn 15 off) s = .next { s with
      regs := s.basedRegs (!p || w) rn (s.indexedBy u rn o)
      pc := v &&& 0xFFFFFFFE
      cpsr := { s.cpsr with t := v.getLsbD 0 }
      run := { s.run with flow := .indirect true, pcLoad := true, events := events } }) ∧
    (¬ s.Aligned a 4 → s.dbg.dcsr.ge = false → s.dbg.sds = false → ∃ t, exec (.ldr c p u w rn 15 off) s = .next t ∧
      s.Entered t modeAbt 3 (s.pc + 8) 0x10 false ∧ t.cp15.far = s.remap a ∧ t.cp15.fsr.x = false ∧ t.cp15.fsr.d = false ∧
      t.cp15.fsr.status &&& 0b1101 = 0b0001)

/-- LDRD and STRD: two words at an address that is a multiple of 8, the even register at the lower one; an odd register
raises Undefined Instruction. Nothing from outside falls between the words (92 D25). -/
def Obligations.DoublewordResult : Prop :=
  ∀ (s : State) (c : Cond) (p u w : Bool) (rn rd : Reg) (off : Offset3), s.RunsArm c → s.Direct →
    s.run.env = [] →
    let o := s.offsetSmall off
    let a := s.addressOf p u rn o
    let based := s.basedRegs (!p || w) rn (s.indexedBy u rn o)
    let word (a : Word) : Word := s.mem.readBytes (s.physical a 4) 4
    if rd.getLsbD 0 then
      s.dbg.sds = false →
        (∃ t, exec (.ldrd c p u w rn rd off) s = .next t ∧ s.Entered t modeUnd 4 (s.pc + 4) 0x04 false) ∧
        (∃ t, exec (.strd c p u w rn rd off) s = .next t ∧ s.Entered t modeUnd 4 (s.pc + 4) 0x04 false)
    else s.Aligned a 8 →
      ((Instr.ldrd c p u w rn rd off).operandsAllowed = true → ∃ events, exec (.ldrd c p u w rn rd off) s = .next { s with
        regs := (based.set (s.bank rd) (word a)).set (s.bank (rd + 1)) (word (a + 4))
        pc := s.pc + 4
        run := { s.run with events := events } }) ∧
      ((Instr.strd c p u w rn rd off).operandsAllowed = true → ∃ (m m' : Memory) (events : List (BitVec 8)),
        exec (.strd c p u w rn rd off) s = .next { s with
          regs := based, pc := s.pc + 4, mem := m', run := { s.run with events := events } } ∧
        Stored s.mem m (s.physical a 4) 4 (s.readReg rd) ∧ Stored m m' (s.physical (a + 4) 4) 4 (s.readReg (rd + 1)))

/-- LDM: the listed registers, lowest first, from the rising words at the start address; write-back of the base; R15 as an
interworking branch. The User form (`^` without R15) writes User registers, writes no base back and marks the hazard; the
return form (`^` with R15) also copies the SPSR to the CPSR and leaves Special Debug State. A loaded pc that ends in 0b10
refuses (93 U62, log 13), and so does the User form in User or System mode (93 U13). Nothing from outside falls between the
words (92 D25). -/
def Obligations.LoadMultipleResult : Prop :=
  ∀ (s : State) (c : Cond) (p u w : Bool) (rn : Reg) (regs : BitVec 16) (low : BitVec 15), s.RunsArm c → s.Direct →
    s.run.env = [] →
    let base := s.readReg rn
    let start (n : Nat) := multipleStart p u base n
    let word (n i : Nat) : Word := s.mem.readBytes (s.physical ((start n + BitVec.ofNat 32 (4 * i)) &&& 0xFFFFFFFC) 4) 4
    let fits (n : Nat) : Prop := (s.Aligned (start n) 4 ∨ s.cp15.ctrl.align = false) ∧
      (start n &&& 0xFFFFFFFC).toNat + 4 * n ≤ 2 ^ 32
    let place (user : Bool) (r : Reg) : Fin 32 := if user then bankedRegister s.cfg.debugBanksR13 modeUsr r else s.bank r
    let loaded (t : State) (user w : Bool) (rs : List Reg) : Prop :=
      t = { s with regs := t.regs, pc := t.pc, cpsr := t.cpsr, dbg := t.dbg, run := t.run } ∧
      (∀ i (h : i < rs.length), rs[i] ≠ 15 → t.regs[place user rs[i]] = word rs.length i) ∧
      (w = true → t.regs[s.bank rn] = multipleEnd u base rs.length) ∧
      (∀ k : Fin 32, (∀ r ∈ rs, r ≠ 15 → place user r ≠ k) → (w = true → k ≠ s.bank rn) → t.regs[k] = s.regs[k])
    let rs := registersOf regs
    let ls := registersOf (0#1 ++ low)
    let ps := registersOf (1#1 ++ low)
    ((Instr.ldm c p u w rn regs).operandsAllowed = true → fits rs.length →
      if regs.getLsbD 15 then
        let v := word rs.length (rs.length - 1)
        if v.toNat % 4 = 2 then exec (.ldm c p u w rn regs) s = .refused .misalignedPc
        else ∃ t, exec (.ldm c p u w rn regs) s = .next t ∧ loaded t false w rs ∧ t.pc = v &&& 0xFFFFFFFE ∧
          t.cpsr = { s.cpsr with t := v.getLsbD 0 } ∧ t.dbg = s.dbg
      else ∃ t, exec (.ldm c p u w rn regs) s = .next t ∧ loaded t false w rs ∧ t.pc = s.pc + 4 ∧ t.cpsr = s.cpsr ∧
        t.dbg = s.dbg) ∧
    ((Instr.ldmUser c p u false rn low).operandsAllowed = true → fits ls.length →
      if s.cpsr.m = modeUsr ∨ s.cpsr.m = modeSys then exec (.ldmUser c p u false rn low) s = .refused .noSpsr
      else ∃ t, exec (.ldmUser c p u false rn low) s = .next t ∧ loaded t true false ls ∧ t.pc = s.pc + 4 ∧
        t.cpsr = s.cpsr ∧ t.dbg = s.dbg ∧ t.run.userTransfer = 2) ∧
    ((Instr.ldmReturn c p u w rn low).operandsAllowed = true → fits ps.length → ∀ k, spsrOf s.cpsr.m = some k →
      legalMode (s.spsr[k]).m = true →
      ∃ t, exec (.ldmReturn c p u w rn low) s = .next t ∧ loaded t false w ps ∧ t.cpsr = s.spsr[k] ∧
        t.dbg = { s.dbg with sds := false, fromSram := false } ∧
        t.pc = word ps.length (ps.length - 1) &&& (if (s.spsr[k]).t then 0xFFFFFFFE else 0xFFFFFFFC))

/-- STM: the listed registers, lowest first, in the rising words at the start address; every other byte of memory as
before; write-back of the base. The User form stores User registers and writes no base back; in User or System mode it
refuses (93 U13). That a stored R15 is its address plus 12 is the model's choice (log 14, DEDUCED by decision D9). Nothing
from outside falls between the words (92 D25). -/
def Obligations.StoreMultipleResult : Prop :=
  ∀ (s : State) (c : Cond) (p u w : Bool) (rn : Reg) (regs : BitVec 16), s.RunsArm c → s.Direct →
    s.run.env = [] →
    let rs := registersOf regs
    let base := s.readReg rn
    let start := multipleStart p u base rs.length
    let place (i : Nat) : PAddr := s.physical ((start + BitVec.ofNat 32 (4 * i)) &&& 0xFFFFFFFC) 4
    let value (user : Bool) (r : Reg) : Word :=
      if r = 15 then s.pc + 12
      else if user then s.regs[bankedRegister s.cfg.debugBanksR13 modeUsr r] else s.readReg r
    let stored (m : Memory) (user : Bool) : Prop :=
      (∀ i (h : i < rs.length), m.readBytes (place i) 4 = value user rs[i]) ∧
      (∀ a : PAddr, (∀ i < rs.length, ¬ (a - place i).toNat < 4) → m.read a = s.mem.read a)
    (s.Aligned start 4 ∨ s.cp15.ctrl.align = false) → (start &&& 0xFFFFFFFC).toNat + 4 * rs.length ≤ 2 ^ 32 →
    ((Instr.stm c p u w rn regs).operandsAllowed = true → ∃ (m : Memory) (events : List (BitVec 8)),
      exec (.stm c p u w rn regs) s = .next { s with
        regs := s.basedRegs w rn (multipleEnd u base rs.length)
        pc := s.pc + 4, mem := m, run := { s.run with events := events } } ∧ stored m false) ∧
    ((Instr.stmUser c p u false rn regs).operandsAllowed = true →
      if s.cpsr.m = modeUsr ∨ s.cpsr.m = modeSys then exec (.stmUser c p u false rn regs) s = .refused .noSpsr
      else ∃ (m : Memory) (events : List (BitVec 8)),
        exec (.stmUser c p u false rn regs) s = .next { s with
          pc := s.pc + 4, mem := m, run := { s.run with events := events, userTransfer := 2 } } ∧ stored m true)

/-- SWP and SWPB: the old memory value to Rd (a word rotated as a load is), Rm to memory, every other byte as before.
PLD is a hint (42 R554): with the MMU off only the pc moves; in any state, when it answers a next state, every register,
flag and system register is as before but the error log, since an error on the bus or in the L2 is logged and may be pending
(12 R172; whether one on its fill is reported is free, log 43). That with the MMU off it does not even count is the model's
choice (log 27). -/
def Obligations.SwapAndPreloadResult : Prop :=
  (∀ (s : State) (c : Cond) (rn rd rm : Reg), s.RunsArm c → s.Direct → rn ≠ 15 → rd ≠ 15 → rm ≠ 15 → rn ≠ rm → rn ≠ rd →
     let a := s.readReg rn
     let word : Word := s.mem.readBytes (s.physical (a &&& 0xFFFFFFFC) 4) 4
     let byte : Byte := s.mem.readBytes (s.physical a 1) 1
     let swaps (i : Instr) (v : Word) (pa : PAddr) (n : Nat) (x : BitVec (8 * n)) : Prop :=
       ∃ (m : Memory) (events : List (BitVec 8)), exec i s = .next { s with
         regs := s.regs.set (s.bank rd) v, pc := s.pc + 4, mem := m, run := { s.run with events := events } } ∧
         Stored s.mem m pa n x
     (s.Aligned a 4 ∨ s.cp15.ctrl.align = false →
       swaps (.swp c rn rd 0 rm) (word.rotateRight (8 * (a.toNat % 4))) (s.physical (a &&& 0xFFFFFFFC) 4) 4 (s.readReg rm)) ∧
     swaps (.swpb c rn rd 0 rm) (byte.setWidth 32) (s.physical a 1) 1 ((s.readReg rm).setWidth 8)) ∧
  (∀ (s : State) (u : Bool) (rn : Reg) (off : Offset2), s.Ready → (Instr.pld u rn off).operandsAllowed = true →
     (s.cp15.ctrl.mmu = false → exec (.pld u rn off) s = .next { s with pc := s.pc + s.size }) ∧
     (∀ t, exec (.pld u rn off) s = .next t →
       t = { s with
         pc := s.pc + s.size, mem := t.mem, tlbs := t.tlbs, caches := t.caches
         ext := t.ext, errlog := t.errlog, run := t.run }))

/-- An access that is not aligned to its size is a precise data abort (20 R192; 60 R841): LDR and STR with CTRL.A set, LDRH,
LDRSH, STRH, LDRD and STRD whatever CTRL.A is (93 U42; with CTRL.A clear that is the model's choice, log 46) save the pc
plus 8, report the remapped address in FAR and an alignment status in FSR, and leave the base as it was.
Translation faults of a load with the MMU on and no TLB entry (21 R252, R276; 60 R841): a first-level fault descriptor
and a section of a domain without access are precise data aborts that report the MVA, the status, and for the second
the domain, where no newer contents of the descriptor's line wait in a cache or buffer (93 U50). -/
def Obligations.DataAborts : Prop :=
  (∀ (s : State) (c : Cond) (p u w : Bool) (rn rd : Reg) (off : Offset2) (off3 : Offset3), s.RunsArm c →
     s.dbg.dcsr.ge = false → s.dbg.sds = false → rd ≠ 15 →
     let a := s.addressOf p u rn (s.offsetWord off)
     let a3 := s.addressOf p u rn (s.offsetSmall off3)
     let aborts (i : Instr) (a : Word) (n : Nat) : Prop := i.operandsAllowed = true → ¬ s.Aligned a n →
       ∃ t, exec i s = .next t ∧ s.Entered t modeAbt 3 (s.pc + 8) 0x10 false ∧ t.cp15.far = s.remap a ∧
         t.cp15.fsr.x = false ∧ t.cp15.fsr.d = false ∧ t.cp15.fsr.status &&& 0b1101 = 0b0001
     (s.cp15.ctrl.align = true → aborts (.ldr c p u w rn rd off) a 4 ∧ aborts (.str c p u w rn rd off) a 4) ∧
     aborts (.ldrh c p u w rn rd off3) a3 2 ∧ aborts (.ldrsh c p u w rn rd off3) a3 2 ∧
     aborts (.strh c p u w rn rd off3) a3 2 ∧
     (rd.getLsbD 0 = false → aborts (.ldrd c p u w rn rd off3) a3 8 ∧ aborts (.strd c p u w rn rd off3) a3 8)) ∧
  (∀ (s : State) (c : Cond) (rn rd : Reg) (off12 : BitVec 12), s.RunsArm c → rd ≠ 15 → s.cp15.ctrl.mmu = true →
     s.l2On = false → s.ext.busErrors = [] → s.cp15.ttOC ≠ 1 → s.dbg.dcsr.ge = false → s.dbg.sds = false →
     let va := s.readReg rn + off12.setWidth 32
     let mva := s.remap va
     let at1 : PAddr := 0#4 ++ s.cp15.ttBase ++ mva.extractLsb' 20 12 ++ 0#2
     let desc : Word := s.mem.readBytes at1 4
     let i := Instr.ldr c true true false rn rd (.imm off12)
     let aborts (status : BitVec 4) (domain : Fsr → Prop) : Prop := ∃ t, exec i s = .next t ∧
       t.cpsr = { s.cpsr with m := modeAbt, t := false, i := true } ∧ t.spsr = s.spsr.set 3 s.cpsr ∧
       t.regs = s.regs.set (bankedRegister s.cfg.debugBanksR13 modeAbt 14) (s.pc + 8) ∧
       t.pc = (if s.cp15.ctrl.highVectors then 0xFFFF0000 else 0) + 0x10 ∧ t.mem = s.mem ∧
       t.cp15.far = mva ∧ t.cp15.fsr.x = false ∧ t.cp15.fsr.d = false ∧ t.cp15.fsr.status = status ∧ domain t.cp15.fsr
     s.Aligned va 4 → s.tlbs.d.lookup mva = none → s.cfg.pBitUsed = false → s.Coherent (lineOf at1) →
     (desc.extractLsb' 0 2 = 0 → aborts 0b0101 (fun _ => True)) ∧
     (desc.extractLsb' 0 2 = 2 → desc.getLsbD 18 = false → dacrField s.cp15.dacr (desc.extractLsb' 5 4) = 0 →
       aborts 0b1001 (fun f => f.domain = desc.extractLsb' 5 4)))

/-! ## Branches, status registers and exceptions (spec 43, 60, 61) -/

/-- B, BL and BLX with an offset: the target is the address plus 8 plus four times the signed offset (plus 2 with H); the
link is the next instruction; BLX enters Thumb state.
BX and BLX with a register, in ARM and in Thumb state: bit 0 of the register is the new T bit and bits 31:1 the
address; BLX links the next instruction (with bit 0 set in Thumb state), the target read first; an ARM target that is not
a multiple of 4 refuses, and so does BLX R15 (93 U62, U61; log 12, 13). -/
def Obligations.BranchResult : Prop :=
  (∀ (s : State) (c : Cond) (h : Bool) (imm24 : BitVec 24), s.RunsArm c →
     let target : Int := s.pc.toNat + 8 + 4 * imm24.toInt
     let linked := s.regs.set (s.bank 14) (s.pc + 4)
     exec (.b c imm24) s = .next { s with pc := BitVec.ofInt 32 target, run := { s.run with flow := .direct true } } ∧
     exec (.bl c imm24) s = .next { s with
       regs := linked, pc := BitVec.ofInt 32 target, run := { s.run with flow := .direct true } } ∧
     exec (.blxImm h imm24) s = .next { s with
       regs := linked
       pc := BitVec.ofInt 32 (target + if h then 2 else 0)
       cpsr := { s.cpsr with t := true }
       run := { s.run with flow := .indirect true } }) ∧
  (∀ (s : State) (c : Cond) (rm : Reg) (h2 : Bool) (low : LowReg),
     let done (v : Word) (regs : Vector Word 32) : Outcome :=
       if v.toNat % 4 = 2 then .refused .misalignedPc
       else .next { s with
         regs := regs
         pc := BitVec.ofNat 32 (v.toNat / 2 * 2)
         cpsr := { s.cpsr with t := decide (v.toNat % 2 = 1) }
         run := { s.run with flow := .indirect true } }
     let r : Reg := BitVec.ofNat 4 (low.toNat + if h2 then 8 else 0)
     (s.RunsArm c →
       exec (.bx c 15 15 15 rm) s = done (s.readReg rm) s.regs ∧
       exec (.blxReg c 15 15 15 rm) s =
         if rm = 15 then .refused .operandRestriction
         else done (s.readReg rm) (s.regs.set (s.bank 14) (s.pc + 4))) ∧
     (s.RunsThumb →
       exec (.tBx h2 low 0) s = done (s.readReg r) s.regs ∧
       exec (.tBlxReg h2 low 0) s =
         if r = 15 then .refused .operandRestriction
         else done (s.readReg r) (s.regs.set (s.bank 14) ((s.pc + 2) ||| 1))))

/-- MRS: every bit of the CPSR or of the current mode's SPSR at its place, bits 26:8 zero; no SPSR refuses.
MSR, both operand forms: mask bit 3 writes the flags, mask bit 0 the control bits. To the CPSR: User mode writes flags
only; a privileged mode also I, F and a legal mode, never T, and an operand that would set T refuses. To the SPSR: all
bits; a mode without SPSR refuses. -/
def Obligations.StatusRegisterResult : Prop :=
  (∀ (s : State) (c : Cond) (r : Bool) (rd : Reg), s.RunsArm c → rd ≠ 15 →
     let reads (p : Psr) : Prop := ∃ v : Word,
       exec (.mrs c r 15 rd 0 0) s = .next { s with regs := s.regs.set (s.bank rd) v, pc := s.pc + 4 } ∧
       v.getLsbD 31 = p.n ∧ v.getLsbD 30 = p.z ∧ v.getLsbD 29 = p.c ∧ v.getLsbD 28 = p.v ∧ v.getLsbD 27 = p.q ∧
       v.extractLsb' 8 19 = 0 ∧ v.getLsbD 7 = p.i ∧ v.getLsbD 6 = p.f ∧ v.getLsbD 5 = p.t ∧ v.extractLsb' 0 5 = p.m
     if r then
       match spsrOf s.cpsr.m with
       | some k => reads s.spsr[k]
       | none => exec (.mrs c r 15 rd 0 0) s = .refused .noSpsr
     else reads s.cpsr) ∧
  (∀ (s : State) (c : Cond) (mask rot : BitVec 4) (imm8 : BitVec 8) (rm : Reg), s.RunsArm c →
     let control := mask.getLsbD 0
     let flags (p : Psr) (v : Word) : Psr :=
       if mask.getLsbD 3 then
         { p with n := v.getLsbD 31, z := v.getLsbD 30, c := v.getLsbD 29, v := v.getLsbD 28, q := v.getLsbD 27 }
       else p
     let cpsr (v : Word) : Psr :=
       if control && s.privileged then
         { flags s.cpsr v with i := v.getLsbD 7, f := v.getLsbD 6, m := v.extractLsb' 0 5 }
       else flags s.cpsr v
     let spsr (p : Psr) (v : Word) : Psr :=
       if control then
         { flags p v with i := v.getLsbD 7, f := v.getLsbD 6, t := v.getLsbD 5, m := v.extractLsb' 0 5 }
       else flags p v
     let legal (v : Word) : Prop := s.privileged = true → control = true →
       v.getLsbD 5 = false ∧ legalMode (v.extractLsb' 0 5) = true ∧
       (v.extractLsb' 0 5 = modeDbg → s.dbg.sds = true) ∧ (v.extractLsb' 0 5 = modeUsr → s.dbg.sds = false)
     let writes (i : Bool → Instr) (v : Word) : Prop :=
       (legal v → exec (i false) s = .next { s with cpsr := cpsr v, pc := s.pc + 4 }) ∧
       (s.privileged = true → control = true → v.getLsbD 5 = true → exec (i false) s = .refused .operandRestriction) ∧
       exec (i true) s =
         match spsrOf s.cpsr.m with
         | some k => .next { s with spsr := s.spsr.set k (spsr s.spsr[k] v), pc := s.pc + 4 }
         | none => .refused .noSpsr
     writes (fun r => .msrImm c r mask 15 rot imm8) (rotatedImm rot imm8) ∧
     writes (fun r => .msrReg c r mask 15 0 rm) (s.readReg rm))

/-- SWI, ARM and Thumb: the exception of Supervisor mode, its link the next instruction; in Special Debug State it
refuses.
The undefined instruction space of both instruction sets, and the unconditional coprocessor instructions (but LDC2) of a
coprocessor that the core has not or that CPAR denies, raise Undefined Instruction: Undefined mode, the link the next
instruction. Of coprocessor 7, CDP2, MCR2 and MRC2 always do. -/
def Obligations.ExceptionInstructionEntry : Prop :=
  (∀ (s : State) (c : Cond) (imm24 : BitVec 24) (imm8 : BitVec 8), s.dbg.dcsr.ge = false →
     (s.RunsArm c → if s.dbg.sds then exec (.swi c imm24) s = .refused .sdsUndefined
       else ∃ t, exec (.swi c imm24) s = .next t ∧ s.Entered t modeSvc 2 (s.pc + 4) 0x08 false) ∧
     (s.RunsThumb → if s.dbg.sds then exec (.tSwi imm8) s = .refused .sdsUndefined
       else ∃ t, exec (.tSwi imm8) s = .next t ∧ s.Entered t modeSvc 2 (s.pc + 2) 0x08 false)) ∧
  (∀ (s : State) (c : Cond) (any : BitVec 20) (any2 : BitVec 4) (pat : ThumbUndefined) (p u n w : Bool) (rn rd : Reg)
     (opc1 : BitVec 4) (opc : BitVec 3) (crn crd crm cp : BitVec 4) (opc2 : BitVec 3) (off8 : BitVec 8),
     s.dbg.dcsr.ge = false → s.dbg.sds = false →
     let undefined (i : Instr) : Prop := ∃ t, exec i s = .next t ∧ s.Entered t modeUnd 4 (s.pc + s.size) 0x04 false
     (s.cpsr.holds c = true → undefined (.undefinedSpace c any any2)) ∧
     undefined (.tUndefined pat) ∧
     let absent : Prop := cp = 0 ∨ s.cfg.coprocessors.getLsbD cp.toNat = false ∨ s.cp15.cpar.getLsbD cp.toNat = false
     (cp = 7 ∨ absent → undefined (.cdp2 opc1 crn crd cp opc2 crm) ∧ undefined (.mcr2 opc crn rd cp opc2 crm) ∧
       undefined (.mrc2 opc crn rd cp opc2 crm)) ∧
     (absent → undefined (.stc2 p u n w rn crd cp off8)))

/-- BKPT, ARM and Thumb: with debug disabled, or in Special Debug State, only the pc advances; in Monitor Mode an
entry to Abort mode at the prefetch abort vector with FSR.D set; in Halt Mode an entry to DEBUG mode and Special Debug
State at address 0 of the Debug SRAM. The link is the address plus 4, the method of entry 0b011, the trace buffer off. -/
def Obligations.BreakpointResult : Prop :=
  ∀ (s : State) (hi : BitVec 12) (lo : BitVec 4) (imm8 : BitVec 8) (i : Instr), i = .bkpt hi lo ∨ i = .tBkpt imm8 →
    let linked (m : BitVec 5) := s.regs.set (bankedRegister s.cfg.debugBanksR13 m 14) (s.pc + 4)
    let noted : Debug := { s.dbg with
      dcsr := { s.dbg.dcsr with e := false, moe := 0b011 }, jtagBreak := false, tbFull := false }
    if s.dbg.dcsr.ge = false ∨ s.dbg.sds = true then exec i s = .next { s with pc := s.pc + s.size }
    else if s.dbg.dcsr.h then
      exec i s = .next { s with
        regs := linked modeDbg
        pc := 0
        cpsr := { s.cpsr with m := modeDbg, t := false, i := true, f := true }
        spsr := s.spsr.set 5 s.cpsr
        dbg := { noted with sds := true, fromSram := true }
        run := { s.run with flow := .exception, userTransfer := 0 } }
    else ∃ t, exec i s = .next t ∧ t.cp15.fsr.d = true ∧
      t = { s with
        regs := linked modeAbt
        pc := (if s.cp15.ctrl.highVectors then 0xFFFF0000 else 0) + 0x0C
        cpsr := { s.cpsr with m := modeAbt, t := false, i := true }
        spsr := s.spsr.set 3 s.cpsr
        cp15 := { s.cp15 with fsr := t.cp15.fsr }
        dbg := noted
        run := t.run }

/-- A trapped vector (61 R896): in Halt Mode with the trap bit of SWI or Undefined Instruction set, the exception is
entered and then at once DEBUG mode, with the link the vector plus 4, method of entry 0b101, and the CPSR of the
exception saved. -/
def Obligations.VectorTrapEntersDebug : Prop :=
  ∀ (s : State) (c : Cond) (imm24 : BitVec 24) (any : BitVec 20) (any2 : BitVec 4), s.RunsArm c →
    s.dbg.dcsr.ge = true → s.dbg.dcsr.h = true → s.dbg.sds = false →
    let base : Word := if s.cp15.ctrl.highVectors then 0xFFFF0000 else 0
    let trapped (i : Instr) (mode : BitVec 5) (k : Fin 6) (vector : Word) : Prop := ∃ t, exec i s = .next t ∧
      t.pc = 0 ∧ t.cpsr = { s.cpsr with m := modeDbg, t := false, i := true, f := true } ∧
      t.regs = (s.regs.set (bankedRegister s.cfg.debugBanksR13 mode 14) (s.pc + 4)).set
        (bankedRegister s.cfg.debugBanksR13 modeDbg 14) (base + vector + 4) ∧
      t.spsr = (s.spsr.set k s.cpsr).set 5 { s.cpsr with m := mode, t := false, i := true } ∧
      t.dbg = { s.dbg with
        dcsr := { s.dbg.dcsr with e := false, moe := 0b101 }
        sds := true, fromSram := true, jtagBreak := false, tbFull := false } ∧
      t.mem = s.mem ∧ t.cp15 = s.cp15
    (s.dbg.dcsr.ts = true → trapped (.swi c imm24) modeSvc 2 0x08) ∧
    (s.dbg.dcsr.tu = true → trapped (.undefinedSpace c any any2) modeUnd 4 0x04)

/-! ## Coprocessors (spec 43, 44) -/

/-- Instructions of coprocessors that the core has not, or that CPAR denies, raise Undefined Instruction (43 R620, R628):
CDP, MCR, MRC, STC, MCRR and MRRC, and LDC and LDC2 after their implicit load, or at once where the coprocessor's right is
clear.
So do, in every mode, the instructions that the core's own coprocessors have not: CDP, MCRR and MRRC of CP14 and CP15, LDC
and STC of CP15, LDC, LDC2 and STC of CP0, and CDP of CP7 (43 R621, R627, R629; 45 R661); and in User mode every instruction
of CP7 (43 R620, 60 R858).
Instructions of a coprocessor 1 to 13 (but 7) of the ASSP that CPAR permits: the coprocessor bounces them as Undefined
Instruction, aborts them where the product says that it may (60 R847), or accepts them; that it does one of the three
freely, with any values, and transfers 1 to 16 words, is the model's choice (log 48). An accepted MRC writes Rd or the
flags, MRRC two registers, LDC and STC the base; STC writes memory in its sixteen words only; nothing else changes. -/
def Obligations.ForeignCoprocessorInstructions : Prop :=
  (∀ (s : State) (c : Cond) (p u n w : Bool) (rn rd : Reg) (opc1 : BitVec 4) (opc : BitVec 3) (crn crd crm cp : BitVec 4)
     (opc2 : BitVec 3) (off8 : BitVec 8), s.RunsArm c → s.Direct → s.dbg.sds = false → s.run.dataBreak = false →
     cp ≠ 0 → cp ≠ 14 → cp ≠ 15 → (s.cfg.coprocessors.getLsbD cp.toNat && s.cp15.cpar.getLsbD cp.toNat) = false →
     let undefined (i : Instr) : Prop := ∃ t, exec i s = .next t ∧ s.Entered t modeUnd 4 (s.pc + 4) 0x04 false
     let off : Word := BitVec.ofNat 32 (4 * off8.toNat)
     undefined (.cdp c opc1 crn crd cp opc2 crm) ∧ undefined (.stc c p u n w rn crd cp off8) ∧
     undefined (.mcrr c rn rd cp opc1 crm) ∧ undefined (.mrrc c rn rd cp opc1 crm) ∧
     (cp ≠ 7 ∨ crm ≠ 2 → undefined (.mcr c opc crn rd cp opc2 crm) ∧ undefined (.mrc c opc crn rd cp opc2 crm)) ∧
     (s.cp15.cpar.getLsbD cp.toNat = false ∨ s.Aligned (s.addressOf p u rn off) 4 ∨ s.cp15.ctrl.align = false →
       undefined (.ldc c p u n w rn crd cp off8) ∧ undefined (.ldc2 p u n w rn crd cp off8))) ∧
  (∀ (s : State) (c : Cond) (p u n w : Bool) (rn rd : Reg) (opc1 : BitVec 4) (opc : BitVec 3) (crn crd crm cp : BitVec 4)
     (opc2 : BitVec 3) (off8 : BitVec 8), s.RunsArm c → s.dbg.dcsr.ge = false → s.dbg.sds = false →
     let undefined (i : Instr) : Prop := ∃ t, exec i s = .next t ∧ s.Entered t modeUnd 4 (s.pc + 4) 0x04 false
     (cp = 14 ∨ cp = 15 → undefined (.cdp c opc1 crn crd cp opc2 crm) ∧ undefined (.mcrr c rn rd cp opc1 crm) ∧
       undefined (.mrrc c rn rd cp opc1 crm)) ∧
     (cp = 0 ∨ cp = 15 → undefined (.ldc c p u n w rn crd cp off8) ∧ undefined (.stc c p u n w rn crd cp off8)) ∧
     undefined (.ldc2 p u n w rn crd 0 off8) ∧ undefined (.cdp c opc1 crn crd 7 opc2 crm) ∧
     (s.privileged = false →
       undefined (.mcr c opc crn rd 7 opc2 crm) ∧ undefined (.mrc c opc crn rd 7 opc2 crm) ∧
       undefined (.mcrr c rn rd 7 opc1 crm) ∧ undefined (.mrrc c rn rd 7 opc1 crm) ∧
       undefined (.ldc c p u n w rn crd 7 off8) ∧ undefined (.stc c p u n w rn crd 7 off8) ∧
       undefined (.ldc2 p u n w rn crd 7 off8) ∧ undefined (.stc2 p u n w rn crd 7 off8))) ∧
  (∀ (s : State) (c : Cond) (p u n w : Bool) (rn rd : Reg) (opc1 : BitVec 4) (opc : BitVec 3) (crn crd crm cp : BitVec 4)
     (opc2 : BitVec 3) (off8 : BitVec 8), s.RunsArm c → s.Direct → s.dbg.sds = false → s.run.env = [] →
     cp ≠ 0 → cp ≠ 7 → cp ≠ 14 → cp ≠ 15 → s.cfg.coprocessors.getLsbD cp.toNat = true → s.cp15.cpar.getLsbD cp.toNat = true →
     let answers (i : Instr) (accepted : State → Prop) : Prop := ∃ t, exec i s = .next t ∧
       (s.Entered t modeUnd 4 (s.pc + 4) 0x04 false ∨
         (s.cfg.coprocAborts = true ∧ s.Entered t modeAbt 3 (s.pc + 8) 0x10 false ∧ t.cp15.fsr.x = true ∧
           t.cp15.fsr.status = 0b1010) ∨
         (t = { s with regs := t.regs, pc := s.pc + 4, cpsr := t.cpsr, mem := t.mem, run := t.run } ∧ accepted t))
     let only (regs : State → Prop) (t : State) : Prop := regs t ∧ t.cpsr = s.cpsr ∧ t.mem = s.mem
     let off : Word := BitVec.ofNat 32 (4 * off8.toNat)
     let a := s.addressOf p u rn off
     let based (t : State) : Prop := t.regs = s.basedRegs w rn (s.indexedBy u rn off)
     let place (i : Nat) : PAddr := s.physical ((a + BitVec.ofNat 32 (4 * i)) &&& 0xFFFFFFFC) 4
     let nothing := only fun t => t.regs = s.regs
     let reads (t : State) : Prop := ∃ v : Word, t.mem = s.mem ∧
       if rd = 15 then t.regs = s.regs ∧
         t.cpsr = { s.cpsr with n := v.getLsbD 31, z := v.getLsbD 30, c := v.getLsbD 29, v := v.getLsbD 28 }
       else t.regs = s.regs.set (s.bank rd) v ∧ t.cpsr = s.cpsr
     let stores (t : State) : Prop := based t ∧ t.cpsr = s.cpsr ∧
       ∀ b : PAddr, (∀ i < 16, ¬ (b - place i).toNat < 4) → t.mem.read b = s.mem.read b
     answers (.cdp c opc1 crn crd cp opc2 crm) nothing ∧ answers (.cdp2 opc1 crn crd cp opc2 crm) nothing ∧
     answers (.mcr c opc crn rd cp opc2 crm) nothing ∧ answers (.mcr2 opc crn rd cp opc2 crm) nothing ∧
     answers (.mrc c opc crn rd cp opc2 crm) reads ∧ answers (.mrc2 opc crn rd cp opc2 crm) reads ∧
     (rd ≠ 15 → rn ≠ 15 → answers (.mcrr c rn rd cp opc1 crm) nothing ∧
       (rn ≠ rd → answers (.mrrc c rn rd cp opc1 crm)
         (only fun t => ∃ x y : Word, t.regs = (s.regs.set (s.bank rd) x).set (s.bank rn) y))) ∧
     ((w = true → rn ≠ 15) → (s.Aligned a 4 ∨ s.cp15.ctrl.align = false) → (a &&& 0xFFFFFFFC).toNat + 64 ≤ 2 ^ 32 →
       answers (.ldc c p u n w rn crd cp off8) (only based) ∧ answers (.ldc2 p u n w rn crd cp off8) (only based) ∧
       answers (.stc c p u n w rn crd cp off8) stores ∧ answers (.stc2 p u n w rn crd cp off8) stores))

/-- MIA, MIAPH, MIABB, MIABT, MIATB and MIATT: the exact product of the signed words or halves is added to acc0 modulo
2^40; no flag changes. Without the right of CP0 they raise Undefined Instruction.
MAR and MRA: acc0 is RdLo and the low byte of RdHi; read back, bits 39:32 are sign-extended. -/
def Obligations.AccumulatorResult : Prop :=
  (∀ (s : State) (c : Cond) (rs rm : Reg), s.RunsArm c → s.dbg.dcsr.ge = false → s.dbg.sds = false →
     rs ≠ 15 → rm ≠ 15 →
     let m := s.readReg rm
     let r := s.readReg rs
     let low (v : Word) : Int := (v.extractLsb' 0 16).toInt
     let high (v : Word) : Int := (v.extractLsb' 16 16).toInt
     let accumulates (i : Instr) (product : Int) : Prop :=
       if s.cp15.cpar.getLsbD 0 then
         exec i s = .next { s with acc0 := BitVec.ofInt 40 (s.acc0.toInt + product), pc := s.pc + 4 }
       else ∃ t, exec i s = .next t ∧ s.Entered t modeUnd 4 (s.pc + 4) 0x04 false
     accumulates (.mia c rs 0 rm) (m.toInt * r.toInt) ∧
     accumulates (.miaph c rs 0 rm) (high m * high r + low m * low r) ∧
     accumulates (.miabb c rs 0 rm) (low m * low r) ∧
     accumulates (.miabt c rs 0 rm) (low m * high r) ∧
     accumulates (.miatb c rs 0 rm) (high m * low r) ∧
     accumulates (.miatt c rs 0 rm) (high m * high r)) ∧
  (∀ (s : State) (c : Cond) (rdHi rdLo : Reg), s.RunsArm c → s.cp15.cpar.getLsbD 0 = true → rdHi ≠ 15 → rdLo ≠ 15 →
     (∃ a : BitVec 40, exec (.mar c rdHi rdLo 0) s = .next { s with acc0 := a, pc := s.pc + 4 } ∧
       (∀ i, i < 32 → a.getLsbD i = (s.readReg rdLo).getLsbD i) ∧
       (∀ i, i < 8 → a.getLsbD (32 + i) = (s.readReg rdHi).getLsbD i)) ∧
     (rdHi ≠ rdLo → ∃ lo hi : Word, exec (.mra c rdHi rdLo 0) s = .next { s with
         regs := (s.regs.set (s.bank rdLo) lo).set (s.bank rdHi) hi, pc := s.pc + 4 } ∧
       hi.toInt * 2 ^ 32 + lo.toNat = s.acc0.toInt))

/-- A privileged system instruction in User mode raises Undefined Instruction (45 R661): every named CP15, CP14 and CP7
access but the four functions of 45 R661. -/
def Obligations.PrivilegedInUserModeIsUndefined : Prop :=
  ∀ (i : Instr) (c : Cond) (s : State), i.privilegedOnly = some c → s.RunsArm c → s.cpsr.m = modeUsr →
    s.dbg.dcsr.ge = false → s.dbg.sds = false →
    ∃ t, exec i s = .next t ∧ s.Entered t modeUnd 4 (s.pc + 4) 0x04 false

/-- Operands that break a restriction refuse and do nothing (93 U60, U61; refusing is the model's choice, log 12): every instruction with a condition that holds, in
a privileged mode with the right of CP0, on a product that adds no encodings to CP0. -/
def Obligations.RestrictedOperandsRefuse : Prop :=
  ∀ (i : Instr) (s : State), i.operandsAllowed = false → (∀ c, i.cond = some c → s.cpsr.holds c = true) →
    s.Ready → s.privileged = true → s.cp15.cpar.getLsbD 0 = true → s.cfg.cp0Extended = false →
    exec i s = .refused .operandRestriction ∨ exec i s = .refused .cp0Unlisted

/-! ## The registers of CP15 (spec 11) -/

/-- MRC of the identification registers and of the Control Register, in a privileged mode, to a register other than R15:
the fixed fields of 11 R71 to R74 (of L2CTYPE with no L2 all but the way size) and every bit of CTRL at its place, bit 26 where it is clear or the product has an L2 (on another
the model reads any value once it is set, log 52); nothing else changes but the count of free values.
MRC of the other registers of CP15: their defined fields (reserved bits are any value).
MRC of a CP15 register to R15 refuses, the treatment of 93 U61 (43 R626; log 12). -/
def Obligations.SystemRegisterRead : Prop :=
  (∀ (s : State) (c : Cond) (rd : Reg), s.RunsArm c → s.privileged = true → rd ≠ 15 →
     let reads (i : Instr) (p : Word → Prop) : Prop := ∃ (v : Word) (n : Nat), exec i s = .next { s with
       regs := s.regs.set (s.bank rd) v, pc := s.pc + 4, run := { s.run with free := n } } ∧ p v
     let k := s.cp15.ctrl
     reads (.mrcMainId c rd) (fun v => v.extractLsb' 24 8 = 0x69 ∧ v.extractLsb' 16 8 = 0x05 ∧ v.extractLsb' 13 3 = 3 ∧
       v.extractLsb' 10 3 = s.cfg.uarchRevision ∧ v.extractLsb' 4 6 = s.cfg.productNumber ∧
       v.extractLsb' 0 4 = s.cfg.productRevision) ∧
     reads (.mrcL2Id c rd) (fun v => v.extractLsb' 24 8 = 0x69) ∧
     reads (.mrcCacheType c rd) (fun v => v = 0x0B192192) ∧
     reads (.mrcL2CacheType c rd) (fun v => v.extractLsb' 24 8 = 0x0A ∧
       (s.cfg.l2 = .absent → v.extractLsb' 12 8 = 0 ∧ v.extractLsb' 0 8 = 0) ∧
       (s.cfg.l2 = .kb256 → v = 0x0A240240) ∧ (s.cfg.l2 = .kb512 → v = 0x0A340340) ∧
       v.extractLsb' 20 4 = v.extractLsb' 8 4) ∧
     reads (.mrcControl c rd) (fun v => v.getLsbD 0 = k.mmu ∧ v.getLsbD 1 = k.align ∧ v.getLsbD 2 = k.dcache ∧
       v.getLsbD 7 = k.bigEndian ∧ v.getLsbD 8 = k.system ∧ v.getLsbD 9 = k.rom ∧ v.getLsbD 11 = k.btb ∧
       v.getLsbD 12 = k.icache ∧ v.getLsbD 13 = k.highVectors ∧
       (s.cfg.l2 ≠ .absent ∨ k.l2 = false → v.getLsbD 26 = k.l2))) ∧
  (∀ (s : State) (c : Cond) (rd : Reg), s.RunsArm c → s.privileged = true → rd ≠ 15 →
     let reads (i : Instr) (p : Word → Prop) : Prop := ∃ (v : Word) (n : Nat), exec i s = .next { s with
       regs := s.regs.set (s.bank rd) v, pc := s.pc + 4, run := { s.run with free := n } } ∧ p v
     let k := s.cp15
     reads (.mrcAuxControl c rd) (fun v =>
       v.extractLsb' 10 2 = k.auxOC ∧ v.extractLsb' 4 2 = k.auxIC ∧ v.getLsbD 1 = k.auxP) ∧
     reads (.mrcTtBase c rd) (fun v =>
       v.extractLsb' 14 18 = k.ttBase ∧ v.extractLsb' 3 2 = k.ttOC ∧ v.getLsbD 2 = k.ttP) ∧
     reads (.mrcDacr c rd) (fun v => v = k.dacr) ∧
     reads (.mrcFsr c rd) (fun v => v.getLsbD 10 = k.fsr.x ∧ v.getLsbD 9 = k.fsr.d ∧ v.getLsbD 8 = false ∧
       v.extractLsb' 4 4 = k.fsr.domain ∧ v.extractLsb' 0 4 = k.fsr.status) ∧
     reads (.mrcFar c rd) (fun v => v = k.far) ∧
     reads (.mrcDcLock c rd) (fun v => v.getLsbD 0 = k.dcLock) ∧
     reads (.mrcDcLockLegacy c rd) (fun v => v.getLsbD 0 = k.dcLock) ∧
     reads (.mrcPid c rd) (fun v => v.extractLsb' 25 7 = k.pid ∧ v.extractLsb' 0 25 = 0) ∧
     reads (.mrcIbr0 c rd) (fun v => v = k.ibr0) ∧ reads (.mrcIbr1 c rd) (fun v => v = k.ibr1) ∧
     reads (.mrcDbr0 c rd) (fun v => v = k.dbr0) ∧ reads (.mrcDbr1 c rd) (fun v => v = k.dbr1) ∧
     reads (.mrcDbcon c rd) (fun v =>
       v.getLsbD 8 = k.dbcon.mask ∧ v.extractLsb' 2 2 = k.dbcon.e1 ∧ v.extractLsb' 0 2 = k.dbcon.e0) ∧
     reads (.mrcCpar c rd) (fun v => v.extractLsb' 0 14 = k.cpar)) ∧
  (∀ (s : State) (c : Cond), s.RunsArm c → s.privileged = true →
     ∀ i ∈ ([.mrcMainId c 15, .mrcL2Id c 15, .mrcCacheType c 15, .mrcL2CacheType c 15, .mrcControl c 15, .mrcAuxControl c 15,
         .mrcTtBase c 15, .mrcDacr c 15, .mrcFsr c 15, .mrcFar c 15, .mrcDcLock c 15, .mrcDcLockLegacy c 15, .mrcPid c 15,
         .mrcIbr0 c 15, .mrcIbr1 c 15, .mrcDbr0 c 15, .mrcDbr1 c 15, .mrcDbcon c 15, .mrcCpar c 15] : List Instr),
       exec i s = .refused .operandRestriction)

/-- MCR of the plain registers of CP15: every field takes its bits of Rd and nothing else changes (a write of PID also
empties the BTB, 11 R120); a 1 in a bit that must be written as zero refuses (93 U21).
A write of an identification register of CP15 is ignored (11 R77): only the pc changes. -/
def Obligations.SystemRegisterWrite : Prop :=
  (∀ (s : State) (c : Cond) (rd : Reg), s.RunsArm c → s.privileged = true → rd ≠ 15 →
     let v := s.readReg rd
     let k := s.cp15
     let writes (i : Instr) (zero : Word) (after : Cp15) (caches : Caches) : Prop :=
       exec i s = if v &&& zero = 0 then .next { s with cp15 := after, pc := s.pc + 4, caches := caches }
         else .refused .reservedBitWritten
     let dcLock := { k with dcLock := v.getLsbD 0 }
     writes (.mcrTtBase c rd) 0x00003FE3
       { k with ttBase := v.extractLsb' 14 18, ttOC := v.extractLsb' 3 2, ttP := v.getLsbD 2 } s.caches ∧
     writes (.mcrDacr c rd) 0 { k with dacr := v } s.caches ∧
     writes (.mcrFsr c rd) 0xFFFFF900
       { k with fsr := ⟨v.getLsbD 10, v.getLsbD 9, v.extractLsb' 4 4, v.extractLsb' 0 4⟩ } s.caches ∧
     writes (.mcrFar c rd) 0 { k with far := v } s.caches ∧
     writes (.mcrDcLock c rd) 0xFFFFFFFE dcLock s.caches ∧ writes (.mcrDcLockLegacy c rd) 0xFFFFFFFE dcLock s.caches ∧
     writes (.mcrPid c rd) 0x01FFFFFF { k with pid := v.extractLsb' 25 7 } { s.caches with btb := [] } ∧
     writes (.mcrCpar c rd) 0xFFFFC000 { k with cpar := v.extractLsb' 0 14 } s.caches) ∧
  (∀ (s : State) (c : Cond) (rd : Reg) (opc1 opc2 : BitVec 3), s.RunsArm c → s.privileged = true → rd ≠ 15 →
     opc1.toNat ≤ 1 → opc2.toNat ≤ 1 → exec (.mcr c opc1 0 rd 15 opc2 0) s = .next { s with pc := s.pc + 4 })

/-- MCR of the Control and Auxiliary Control Registers: every bit. Refused, in this order: a 1 in a bit that must be written
as zero (93 U21); the L2 enable cleared, or set when the MMU is on or has been (U22, 11 R81, 70 R978); a byte order that the
product has not (U23); the D-cache without the MMU (U56); the LLR attributes changed with a line held (U24).
That a 1 in bits 10, 14 and 15, of which 11 R78 says only that they read 0, changes nothing is the model's choice (log 56, DESIGN
CHOICE). So is, on a product with no L2, that the L2 bit is kept as written under the same U22 rule (91 N14; log 52, DEDUCED). -/
def Obligations.ControlRegisterWrite : Prop :=
  ∀ (s : State) (c : Cond) (rd : Reg), s.RunsArm c → s.privileged = true → rd ≠ 15 →
    let v := s.readReg rd
    let k := s.cp15
    let new : Ctrl := { k.ctrl with
      mmu := v.getLsbD 0
      align := v.getLsbD 1
      dcache := v.getLsbD 2
      bigEndian := v.getLsbD 7
      system := v.getLsbD 8
      rom := v.getLsbD 9
      btb := v.getLsbD 11
      icache := v.getLsbD 12
      highVectors := v.getLsbD 13
      l2 := v.getLsbD 26 }
    let order : Prop := match s.cfg.endian with
      | .little => v.getLsbD 7 = false
      | .big => v.getLsbD 7 = true
      | .both => True
    let enable : Prop := k.ctrl.l2 = v.getLsbD 26 ∨ (v.getLsbD 26 = true ∧ k.ctrl.mmu = false ∧ k.mmuUsed = false)
    let i := Instr.mcrControl c rd
    (v &&& 0xFBFF0000 ≠ 0 → exec i s = .refused .reservedBitWritten) ∧
    (v &&& 0xFBFF0000 = 0 → ¬ enable → exec i s = .refused .l2EnableChanged) ∧
    (v &&& 0xFBFF0000 = 0 → enable → ¬ order → exec i s = .refused .endianUnsupported) ∧
    (v &&& 0xFBFF0000 = 0 → enable → order → v.getLsbD 2 = true → v.getLsbD 0 = false →
      exec i s = .refused .dcacheWithoutMmu) ∧
    (v &&& 0xFBFF0000 = 0 → enable → order → (v.getLsbD 2 = true → v.getLsbD 0 = true) →
      exec i s = .next { s with cp15 := { k with ctrl := new, mmuUsed := k.mmuUsed || v.getLsbD 0 }, pc := s.pc + 4 }) ∧
    (v &&& 0xFFFFF3CD ≠ 0 → exec (.mcrAuxControl c rd) s = .refused .reservedBitWritten) ∧
    (v &&& 0xFFFFF3CD = 0 → exec (.mcrAuxControl c rd) s =
      if (v.extractLsb' 10 2 = k.auxOC ∧ v.extractLsb' 4 2 = k.auxIC) ∨
        (s.caches.d.lines = [] ∧ s.caches.l2.lines = []) then .next { s with
          cp15 := { k with auxOC := v.extractLsb' 10 2, auxIC := v.extractLsb' 4 2, auxP := v.getLsbD 1 }
          pc := s.pc + 4 }
      else .refused .llrChangedWithLines)

/-- MCR of the breakpoint registers: in Halt Mode outside Special Debug State ignored (61 R895); else the register takes
Rd: an instruction breakpoint is enabled only with DCSR.GE (93 U73), a data breakpoint register is written only while disabled
(93 U74). That with DBCON.M set DBR1 counts as enabled just while DBR0 is, whatever E1 is, is the model's choice (log 43). -/
def Obligations.BreakpointRegisterWrite : Prop :=
  ∀ (s : State) (c : Cond) (rd : Reg), s.RunsArm c → s.privileged = true → rd ≠ 15 →
    let v := s.readReg rd
    let k := s.cp15
    let e := k.dbcon
    let writes (i : Instr) (usable : Bool) (after : Cp15) (r : Refusal) : Prop :=
      exec i s =
        if s.dbg.dcsr.h = true ∧ s.dbg.sds = false then .next { s with pc := s.pc + 4 }
        else if usable then .next { s with cp15 := after, pc := s.pc + 4 }
        else .refused r
    writes (.mcrIbr0 c rd) (!v.getLsbD 0 || s.dbg.dcsr.ge) { k with ibr0 := v } .breakpointWithoutGe ∧
    writes (.mcrIbr1 c rd) (!v.getLsbD 0 || s.dbg.dcsr.ge) { k with ibr1 := v } .breakpointWithoutGe ∧
    writes (.mcrDbr0 c rd) (e.e0 == 0) { k with dbr0 := v } .dbrWrittenEnabled ∧
    writes (.mcrDbr1 c rd) (if e.mask then e.e0 == 0 else e.e1 == 0) { k with dbr1 := v } .dbrWrittenEnabled ∧
    writes (.mcrDbcon c rd) (v &&& 0xFFFFFEF0 == 0)
      { k with dbcon := ⟨v.getLsbD 8, v.extractLsb' 2 2, v.extractLsb' 0 2⟩ } .reservedBitWritten

/-! ## Cache, barrier, TLB and lock functions (spec 45) -/

/-- The I-cache, BTB and prefetch functions: every line that is not locked, or the line of an MVA, becomes invalid; the
fetch buffers and the BTB empty; the replacement state is as after reset, or points at the way of the line (log 18); Prefetch Flush, which User mode may use, empties the fetch buffers; Unlock clears every
lock.
Fetch and Lock an I-cache line, both encodings, with the MMU off: into a cache that holds no line the line is read
from memory into one of the ways 1 to 3 and locked; a line already there, and a disabled cache, refuse. -/
def Obligations.InstructionCacheFunctions : Prop :=
  (∀ (s : State) (c : Cond) (rd : Reg), s.RunsArm c → rd ≠ 15 →
     let v := s.readReg rd
     let i := s.caches.i
     let empty : Vector (Option (BitVec 27 × BitVec 256)) 2 := Vector.replicate 2 none
     let done (caches : Caches) : Outcome := .next { s with pc := s.pc + 4, caches := caches }
     let unlocked : Caches :=
       { s.caches with i := { i with lines := i.lines.map fun e => (e.1, { e.2 with locked := false }) } }
     exec (.prefetchFlush c rd) s = done { s.caches with i := { i with buffers := empty } } ∧
     (s.privileged = true →
       exec (.invIcacheBtb c rd) s =
         done { s.caches with i := { i with lines := i.lines.filter (·.2.locked), lru := [], buffers := empty }, btb := [] } ∧
       exec (.invBtb c rd) s = done { s.caches with btb := [] } ∧
       (∀ way x, s.iFind (mvaLine v) = some (way, x) → exec (.invIcacheLine c rd) s =
         done { s.caches with i := { i with
           lines := eraseKey (4 * l1Set (mvaLine v) + way) i.lines, buffers := empty
           lru := insertKey (l1Set (mvaLine v)) ((lruAt i.lru (l1Set (mvaLine v))).point way) i.lru } }) ∧
       (s.iFind (mvaLine v) = none → exec (.invIcacheLine c rd) s = done { s.caches with i := { i with buffers := empty } }) ∧
       (if s.cp15.ctrl.icache then
         exec (.unlockIcache c rd) s = done unlocked ∧ exec (.unlockIcacheLegacy c rd) s = done unlocked
       else exec (.unlockIcache c rd) s = .refused .lockOnDisabledCache ∧
         exec (.unlockIcacheLegacy c rd) s = .refused .lockOnDisabledCache))) ∧
  (∀ (s : State) (c : Cond) (rd : Reg) (i : Instr), i = .lockIcacheLine c rd ∨ i = .lockIcacheLineLegacy c rd →
     s.RunsArm c → rd ≠ 15 → s.privileged = true → s.cp15.ctrl.mmu = false →
     let line := mvaLine (s.readReg rd)
     (s.cp15.ctrl.icache = false → exec i s = .refused .lockOnDisabledCache) ∧
     (s.cp15.ctrl.icache = true → s.iFind line ≠ none → exec i s = .refused .icacheLockPrecondition) ∧
     (s.cp15.ctrl.icache = true → s.ext.busErrors = [] → s.caches.i.lines = [] → ∃ way lru, 1 ≤ way ∧ way ≤ 3 ∧
       exec i s = .next { s with
         pc := s.pc + 4
         caches := { s.caches with i := { s.caches.i with
           lines := [(4 * l1Set line + way, ⟨line, true, s.mem.readBytes (lineAddr (0#4 ++ line)) 32, 0⟩)]
           lru := lru } } }))

/-- The D-cache functions that write nothing back: with the MMU on every line that is not locked, or the line of an MVA,
becomes invalid, dirty or not; memory and the D-cache's replacement state are as before (45 R663); with the MMU off they
refuse. Invalidate I&D cache & BTB also empties the fetch buffers and the BTB, and leaves the I-cache's replacement state as
after reset (22 R314; the model's reading, log 18).
Unlock clears every lock.
Data Cache Line Allocate, in any mode: with the MMU off it does nothing; for an address whose translation the DTLB holds, as the tables
give it now, in a domain with manager access, in a D-cache that holds no line, the line is there afterwards, clean, with no byte known and
nothing read from memory. -/
def Obligations.DataCacheInvalidateFunctions : Prop :=
  (∀ (s : State) (c : Cond) (rd : Reg), s.RunsArm c → rd ≠ 15 → s.privileged = true →
     let v := s.readReg rd
     let i := s.caches.i
     let d := s.caches.d
     let empty : Vector (Option (BitVec 27 × BitVec 256)) 2 := Vector.replicate 2 none
     let done (caches : Caches) : Outcome := .next { s with pc := s.pc + 4, caches := caches }
     let unlocked : Caches :=
       { s.caches with d := { d with lines := d.lines.map fun e => (e.1, { e.2 with locked := false }) } }
     let kept : DCache := { d with lines := d.lines.filter (·.2.locked) }
     (s.cp15.ctrl.mmu = true →
       exec (.invDcache c rd) s = done { s.caches with d := kept } ∧
       exec (.invCachesBtb c rd) s = done { s.caches with
         d := kept, i := { i with lines := i.lines.filter (·.2.locked), lru := [], buffers := empty }, btb := [] } ∧
       (∀ way x, s.dFind (mvaLine v) = some (way, x) → exec (.invDcacheLine c rd) s =
         done { s.caches with d := { d with lines := eraseKey (4 * l1Set (mvaLine v) + way) d.lines } }) ∧
       (s.dFind (mvaLine v) = none → exec (.invDcacheLine c rd) s = done s.caches)) ∧
     (s.cp15.ctrl.mmu = false →
       exec (.invDcache c rd) s = .refused .dcacheWithoutMmu ∧ exec (.invCachesBtb c rd) s = .refused .dcacheWithoutMmu ∧
       exec (.invDcacheLine c rd) s = .refused .dcacheWithoutMmu) ∧
     (s.cp15.ctrl.dcache = true →
       exec (.unlockDcache c rd) s = done unlocked ∧ exec (.unlockDcacheLegacy c rd) s = done unlocked)) ∧
  (∀ (s : State) (c : Cond) (rd : Reg), s.RunsArm c → rd ≠ 15 → s.dbg.dcsr.ge = false →
     let mva := s.remap (s.readReg rd)
     (s.cp15.ctrl.mmu = false → exec (.allocDcacheLine c rd) s = .next { s with pc := s.pc + 4 }) ∧
     (∀ e a, s.cp15.ctrl.mmu = true → s.tlbs.d.lookup mva = some e → s.entryCurrent e mva = true →
       dacrField s.cp15.dacr e.domain = 3 → e.s = false → s.cfg.pBitUsed = false → s.attr e = some a → a.dcache = true → s.cp15.ctrl.dcache = true → s.caches.d.lines = [] → s.cp15.dcLock = false →
       ∃ way lru, exec (.allocDcacheLine c rd) s = .next { s with
         pc := s.pc + 4
         caches := { s.caches with d := ⟨[(4 * l1Set (mvaLine mva) + way,
           ⟨mvaLine mva, lineOf (e.pa mva), false, false, a.outer, a.shared, 0, 0, 0⟩)], lru⟩ } }))

/-- The D-cache clean functions, by MVA and by set and way, with no L2 in use and nothing on its way from it: a dirty line's bytes go to memory at its
physical line, every other byte as before, and the line is clean; Clean and Invalidate then drops it; a line that is
not there, or that is clean, writes nothing; a locked line at a set and way is left alone. -/
def Obligations.DataCacheCleanFunctions : Prop :=
  ∀ (s : State) (c : Cond) (rd : Reg), s.RunsArm c → rd ≠ 15 → s.privileged = true → s.cp15.ctrl.mmu = true →
    s.l2On = false → s.caches.buf.entries = [] → s.caches.l2.leaving = [] → s.ext.busErrors = [] → s.mem.wf = true →
    let v := s.readReg rd
    let d := s.caches.d
    let cleans (i : Instr) (set way : Nat) (x : DLine) (drop : Bool) : Prop :=
      x.parity = 0 → x.known = fullMask → ∃ t, exec i s = .next t ∧
        (if x.dirty then Stored s.mem t.mem (lineAddr x.pline) 32 x.data else t.mem = s.mem) ∧ t.mem.wf = true ∧
        let marked := if x.dirty then insertKey (4 * set + way) { x with dirty := false } d.lines else d.lines
        t = { s with
          pc := s.pc + 4
          mem := t.mem
          caches := { s.caches with d := { d with lines := if drop then eraseKey (4 * set + way) marked else marked } }
          run := { s.run with events := t.run.events } }
    let nothing (i : Instr) : Prop := exec i s = .next { s with pc := s.pc + 4 }
    let set := (v.extractLsb' 5 8).toNat
    let way := (v.extractLsb' 30 2).toNat
    (∀ w x, s.dFind (mvaLine v) = some (w, x) →
      cleans (.cleanDcacheMva c rd) (l1Set (mvaLine v)) w x false ∧
      cleans (.cleanInvDcacheMva c rd) (l1Set (mvaLine v)) w x true) ∧
    (s.dFind (mvaLine v) = none → nothing (.cleanDcacheMva c rd) ∧ nothing (.cleanInvDcacheMva c rd)) ∧
    (∀ x, lookupKey (4 * set + way) d.lines = some x →
      if x.locked then nothing (.cleanDcacheSetWay c rd) ∧ nothing (.cleanInvDcacheSetWay c rd)
      else cleans (.cleanDcacheSetWay c rd) set way x false ∧ cleans (.cleanInvDcacheSetWay c rd) set way x true) ∧
    (lookupKey (4 * set + way) d.lines = none →
      nothing (.cleanDcacheSetWay c rd) ∧ nothing (.cleanInvDcacheSetWay c rd))

/-- The barriers DWB and DMB, in any mode: the memory buffer is empty afterwards and no line is on its way from the L2; with
no L2 in use and no bus error those lines, then the buffered stores, are in memory in their order (that the lines go first is
the model's choice, log 34, DEDUCED), and the error log and the pending abort are as before. No register but the pc changes
otherwise, save the error log by an error of the bus or of the L2. -/
def Obligations.BarriersDrainTheMemoryBuffer : Prop :=
  ∀ (s : State) (c : Cond) (rd : Reg) (i : Instr), i = .dataWriteBarrier c rd ∨ i = .dataMemoryBarrier c rd →
    s.RunsArm c → rd ≠ 15 → ∃ t, exec i s = .next t ∧ t.caches.buf.entries = [] ∧ t.caches.l2.leaving = [] ∧
      t = { s with
        pc := s.pc + 4, mem := t.mem, ext := t.ext, errlog := t.errlog, run := t.run
        caches := { s.caches with buf := t.caches.buf, l2 := t.caches.l2 } } ∧
      (s.l2On = false → s.ext.busErrors = [] → t.ext = s.ext ∧ t.errlog = s.errlog ∧
        t.mem = s.caches.buf.entries.foldl (fun m e => m.writeBytes (lineAddr e.pline) 32 e.data e.mask)
          (s.caches.l2.leaving.foldl (fun m x => m.writeBytes (lineAddr x.1) 32 x.2 fullMask) s.mem))

/-- The L2 functions on a product with no L2 do nothing (45 R679), and with the L2 disabled refuse.
The L2 functions on an enabled L2 with the MMU off (the physical address is the MVA): Invalidate drops the line and
writes nothing; a tag or state error of the line, or on a miss a tag error in its set, is an imprecise abort then (22 R368; on
such a function the model's choice, log 33). On lines with no error Clean by MVA writes a modified or owned line to memory and
keeps it in a clean state; by set and way its data leaves for memory, where a barrier has it arrive at the latest (45 R684, log
34); Clean and Invalidate then drops the line. Unlock clears every lock. -/
def Obligations.LevelTwoFunctions : Prop :=
  (∀ (s : State) (c : Cond) (rd : Reg), s.RunsArm c → rd ≠ 15 → s.privileged = true →
     let all (o : Outcome) : Prop :=
       exec (.invL2Mva c rd) s = o ∧ exec (.cleanL2Mva c rd) s = o ∧ exec (.cleanL2SetWay c rd) s = o ∧
       exec (.cleanInvL2SetWay c rd) s = o ∧ exec (.lockL2Line c rd) s = o ∧ exec (.allocLockL2Line c rd) s = o ∧
       exec (.unlockL2 c rd) s = o
     (s.cfg.l2 = .absent → all (.next { s with pc := s.pc + 4 })) ∧
     (s.cfg.l2 ≠ .absent → s.cp15.ctrl.l2 = false → all (.refused .l2Disabled))) ∧
  (∀ (s : State) (c : Cond) (rd : Reg), s.RunsArm c → rd ≠ 15 → s.privileged = true → s.cfg.l2 ≠ .absent →
     s.cp15.ctrl.l2 = true → s.cp15.ctrl.mmu = false → s.caches.buf.entries = [] → s.ext.busErrors = [] →
     s.mem.wf = true →
     let v := s.readReg rd
     let l := s.caches.l2
     let done (l2 : L2) (m : Memory) : Outcome := .next { s with pc := s.pc + 4, mem := m, caches := { s.caches with l2 := l2 } }
     let pline := lineOf (v.setWidth 36)
     let set := (v.extractLsb' 5 (if s.cfg.l2 = .kb512 then 11 else 10)).toNat
     let way := (v.extractLsb' 29 3).toNat
     let marked (key : Nat) (x : L2Line) (st : Moesi) (drop : Bool) : List (Nat × L2Line) :=
       let kept := if x.dirty then insertKey key { x with state := st } l.lines else l.lines
       if drop then eraseKey key kept else kept
     let sound (x : L2Line) : Prop := x.known = fullMask ∧ x.errors = []
     let clean (x : L2Line) (st : Moesi) : Prop := x.dirty = true → st = .exclusive ∨ st = .shared
     let leaves (i : Instr) (x : L2Line) (drop : Bool) : Prop := sound x → ∃ st, clean x st ∧
       exec i s = done { l with
         lines := marked (8 * set + way) x st drop
         leaving := if x.dirty then l.leaving ++ [(x.pline, x.data)] else l.leaving } s.mem
     let checked (i : Instr) (l2 : L2) (bad : Prop) : Prop := ∃ ext errlog,
       exec i s = .next { s with pc := s.pc + 4, caches := { s.caches with l2 := l2 }, ext := ext, errlog := errlog } ∧
       (bad → ext.pendingAbort = some 0b10110) ∧ (¬ bad → ext = s.ext ∧ errlog = s.errlog)
     (∀ w x, s.l2Find pline = some (w, x) →
       let key := 8 * s.l2Set pline + w
       checked (.invL2Mva c rd) { l with lines := eraseKey key l.lines } (L2Error.tag ∈ x.errors ∨ L2Error.state ∈ x.errors) ∧
       (sound x → l.leaving = [] → ∃ st m, clean x st ∧
         exec (.cleanL2Mva c rd) s = done { l with lines := marked key x st false } m ∧
         if x.dirty then Stored s.mem m (lineAddr x.pline) 32 x.data else m = s.mem)) ∧
     (s.l2Find pline = none →
       let bad : Prop := ∃ w < 8, ∃ x, lookupKey (8 * s.l2Set pline + w) l.lines = some x ∧ L2Error.tag ∈ x.errors
       checked (.invL2Mva c rd) l bad ∧ checked (.cleanL2Mva c rd) l bad) ∧
     (∀ x, lookupKey (8 * set + way) l.lines = some x → x.locked = false →
       leaves (.cleanL2SetWay c rd) x false ∧ leaves (.cleanInvL2SetWay c rd) x true) ∧
     (lookupKey (8 * set + way) l.lines = none →
       exec (.cleanL2SetWay c rd) s = done l s.mem ∧ exec (.cleanInvL2SetWay c rd) s = done l s.mem) ∧
     exec (.unlockL2 c rd) s = done { l with lines := l.lines.map fun e => (e.1, { e.2 with locked := false }) } s.mem)

/-- Fetch and Lock, and Allocate and Lock, an L2 line whose translation the DTLB holds, as the tables give it now, and whose
memory is L2 cacheable: a resident line is locked, and a tag or state error of it is an imprecise abort (22 R368, 45 R709);
into an empty L2 the first brings the line's bytes from memory, the second a line whose bytes are not known; either is locked.
That the line fetched is Exclusive, that the state of the one allocated is Modified or Exclusive, that a resident line counts as
used, and that one with an error is locked all the same, are the model's choices (log 33). Which MVAs a line has been cached by, the
model's own history (log 20), is left open. -/
def Obligations.LevelTwoLockFunctions : Prop :=
  ∀ (s : State) (c : Cond) (rd : Reg) (e : TlbEntry) (a : Attr), s.RunsArm c → rd ≠ 15 → s.privileged = true →
    s.cfg.l2 ≠ .absent → s.cp15.ctrl.l2 = true → s.cp15.ctrl.mmu = true → s.caches.buf.entries = [] →
    s.ext.busErrors = [] → s.tlbs.d.lookup (s.readReg rd) = some e → s.entryCurrent e (s.readReg rd) = true →
    e.s = false → s.cfg.pBitUsed = false → s.attr e = some a → a.outer = true → a.shared = false →
    let l := s.caches.l2
    let pline := lineOf (e.pa (s.readReg rd))
    let set := s.l2Set pline
    let locks (i : Instr) (l2 : L2) (ext : External) (errlog : ErrLog) : Prop := ∃ free, exec i s = .next { s with
      pc := s.pc + 4, caches := { s.caches with l2 := l2 }, ext := ext, errlog := errlog
      run := { s.run with free := free } }
    (∀ way x, s.l2Find pline = some (way, x) → (x.locked = true ∨ s.l2LockedWays set < 7) →
      ∃ used mvas ext errlog,
        let l2 := { l with lines := insertKey (8 * set + way) { x with locked := true, mvas := mvas } l.lines, used := used }
        locks (.lockL2Line c rd) l2 ext errlog ∧ locks (.allocLockL2Line c rd) l2 ext errlog ∧
        let bad : Prop := L2Error.tag ∈ x.errors ∨ L2Error.state ∈ x.errors
        (bad → ext.pendingAbort = some 0b10110) ∧ (¬ bad → ext = s.ext ∧ errlog = s.errlog)) ∧
    (l.lines = [] →
      (∃ used mvas, locks (.lockL2Line c rd)
        ⟨[(8 * set, ⟨pline, .exclusive, true, s.mem.readBytes (lineAddr pline) 32, fullMask, [], mvas⟩)], used, l.leaving⟩ s.ext s.errlog) ∧
      (∃ used mvas st data, (st = .modified ∨ st = .exclusive) ∧
        locks (.allocLockL2Line c rd) ⟨[(8 * set, ⟨pline, st, true, data, 0, [], mvas⟩)], used, l.leaving⟩ s.ext s.errlog))

/-- The TLB invalidate functions: every entry that is not locked, or the entry of an MVA, becomes invalid; the pointers
stay; an entry function that would hit a locked entry refuses. Where several entries cover the MVA each of them counts, which
is the model's choice (log 50).
The TLB lock functions with the MMU on: an MVA that no entry covers and whose first-level descriptor is a section is
translated into a locked entry at the lock pointer, which advances (the last entry is never locked), and refused if its S bit
is set on a product without coherence support (21 R282, 93 U48); a fault descriptor is a precise lock abort. Both where no newer
contents of the descriptor's line wait in a cache or buffer (93 U50). Unlock clears every lock and the lock pointer. With the MMU
off they refuse. -/
def Obligations.TlbFunctions : Prop :=
  (∀ (s : State) (c : Cond) (rd : Reg), s.RunsArm c → rd ≠ 15 → s.privileged = true →
     let v := s.readReg rd
     let kept (t : Tlb) : Tlb := { t with entries := t.entries.map fun o => o.filter (·.locked) }
     let without (t : Tlb) : Tlb := { t with entries := t.entries.map fun o => o.filter (fun e => !e.covers v) }
     let done (i d : Tlb) : Outcome := .next { s with pc := s.pc + 4, tlbs := ⟨i, d⟩ }
     let held (t : Tlb) : Prop := ∃ e, some e ∈ t.entries.toList ∧ e.locked = true ∧ e.covers v = true
     exec (.invTlbs c rd) s = done (kept s.tlbs.i) (kept s.tlbs.d) ∧
     exec (.invItlb c rd) s = done (kept s.tlbs.i) s.tlbs.d ∧
     exec (.invDtlb c rd) s = done s.tlbs.i (kept s.tlbs.d) ∧
     (held s.tlbs.i → exec (.invItlbEntry c rd) s = .refused .lockedTlbEntryInvalidated) ∧
     (¬ held s.tlbs.i → exec (.invItlbEntry c rd) s = done (without s.tlbs.i) s.tlbs.d) ∧
     (held s.tlbs.d → exec (.invDtlbEntry c rd) s = .refused .lockedTlbEntryInvalidated) ∧
     (¬ held s.tlbs.d → exec (.invDtlbEntry c rd) s = done s.tlbs.i (without s.tlbs.d))) ∧
  (∀ (s : State) (c : Cond) (rd : Reg), s.RunsArm c → rd ≠ 15 → s.privileged = true →
     let v := s.readReg rd
     let at1 : PAddr := 0#4 ++ s.cp15.ttBase ++ v.extractLsb' 20 12 ++ 0#2
     let desc : Word := s.mem.readBytes at1 4
     let done (tlbs : Tlbs) : Outcome := .next { s with pc := s.pc + 4, tlbs := tlbs }
     let opened (t : Tlb) : Tlb :=
       { t with entries := t.entries.map fun o => o.map ({ · with locked := false }), lockptr := 0 }
     let isLocked (t t' : Tlb) : Prop := ∃ e : TlbEntry, e.locked = true ∧ e.kind = .sect ∧ e.covers v = true ∧
       e.pa v = 0#4 ++ desc.extractLsb' 20 12 ++ v.extractLsb' 0 20 ∧ e.domain = desc.extractLsb' 5 4 ∧
       t' = ⟨t.entries.set t.lockptr (some e), 31, t.lockptr + 1⟩
     let aborts (i : Instr) : Prop := ∃ t, exec i s = .next t ∧ s.Entered t modeAbt 3 (s.pc + 8) 0x10 false ∧
       t.cp15.fsr.x = true ∧ t.cp15.fsr.d = false ∧ t.cp15.fsr.status = 0b0100 ∧ t.tlbs = s.tlbs
     let walks : Prop := s.l2On = false ∧ s.ext.busErrors = [] ∧ s.cp15.ttOC ≠ 1 ∧ s.cfg.pBitUsed = false ∧
       s.Coherent (lineOf at1)
     (s.cp15.ctrl.mmu = false →
       exec (.lockItlbEntry c rd) s = .refused .tlbLockMmuOff ∧ exec (.lockDtlbEntry c rd) s = .refused .tlbLockMmuOff ∧
       exec (.unlockItlb c rd) s = .refused .tlbLockMmuOff ∧ exec (.unlockDtlb c rd) s = .refused .tlbLockMmuOff) ∧
     (s.cp15.ctrl.mmu = true →
       exec (.unlockItlb c rd) s = done ⟨opened s.tlbs.i, s.tlbs.d⟩ ∧
       exec (.unlockDtlb c rd) s = done ⟨s.tlbs.i, opened s.tlbs.d⟩ ∧
       (walks → desc.extractLsb' 0 2 = 2 → desc.getLsbD 18 = false → desc.getLsbD 16 = true → s.cfg.coherency = false →
         (s.tlbs.i.lookup v = none → exec (.lockItlbEntry c rd) s = .refused .sharedWithoutCoherence) ∧
         (s.tlbs.d.lookup v = none → exec (.lockDtlbEntry c rd) s = .refused .sharedWithoutCoherence)) ∧
       (walks → desc.extractLsb' 0 2 = 2 → desc.getLsbD 18 = false → (desc.getLsbD 16 = false ∨ s.cfg.coherency = true) →
         (s.tlbs.i.lookup v = none → s.tlbs.i.lockptr < 31 →
           ∃ t, exec (.lockItlbEntry c rd) s = done ⟨t, s.tlbs.d⟩ ∧ isLocked s.tlbs.i t) ∧
         (s.tlbs.d.lookup v = none → s.tlbs.d.lockptr < 31 →
           ∃ t, exec (.lockDtlbEntry c rd) s = done ⟨s.tlbs.i, t⟩ ∧ isLocked s.tlbs.d t)) ∧
       (walks → desc.extractLsb' 0 2 = 0 → s.dbg.dcsr.ge = false → s.dbg.sds = false →
         (s.tlbs.i.lookup v = none → aborts (.lockItlbEntry c rd)) ∧
         (s.tlbs.d.lookup v = none → aborts (.lockDtlbEntry c rd)))))

/-! ## CP14 and CP7 (spec 12) -/

/-- MRC of the registers of CP14 and CP7 that only read, in a privileged mode: the defined fields (reserved bits are any
value), to a register; with Rd = R15 bits 31 to 28 of the same value are N, Z, C and V, and no register changes (43 R626).
CCLKCFG reads so where the ASSP does not set it (`P_CCLKCFG`).
For the registers that hold no reserved bit, and for the flags of TXRXCTRL (RR, OV, D, TR), the value with Rd = R15 is
fixed whole.
The debug communication and trace registers that a read changes: RX clears RR (12 R158); TBREG, with no trace being
made, gives the byte that the trace pointer has come round to, and moves the pointer on (12 R159). With Rd = R15 bits 31 to 28
are the flags. -/
def Obligations.DebugRegisterRead : Prop :=
  (∀ (s : State) (c : Cond), s.RunsArm c → s.privileged = true →
     let reads (i : Reg → Instr) (p : Word → Prop) : Prop := ∀ rd, ∃ (v : Word) (n : Nat), p v ∧
       exec (i rd) s = .next (if rd = 15 then { s with
           cpsr := { s.cpsr with n := v.getLsbD 31, z := v.getLsbD 30, c := v.getLsbD 29, v := v.getLsbD 28 }
           pc := s.pc + 4, run := { s.run with free := n } }
         else { s with regs := s.regs.set (s.bank rd) v, pc := s.pc + 4, run := { s.run with free := n } })
     let m := s.pmu
     let d := s.dbg
     reads (.mrcPmnc c) (fun v => v.extractLsb' 24 8 = 0x24 ∧ v.getLsbD 4 = m.disable ∧ v.getLsbD 3 = m.divide ∧
       v.extractLsb' 1 2 = 0 ∧ v.getLsbD 0 = m.enable) ∧
     reads (.mrcCcnt c) (fun v => v = m.ccnt) ∧
     reads (.mrcInten c) (fun v => v.extractLsb' 0 5 = m.inten) ∧
     reads (.mrcFlag c) (fun v => v.extractLsb' 0 5 = m.flag) ∧
     reads (.mrcEvtsel c) (fun v => v = m.evtsel) ∧
     reads (.mrcPmn0 c) (fun v => v = m.pmn[0]) ∧ reads (.mrcPmn1 c) (fun v => v = m.pmn[1]) ∧
     reads (.mrcPmn2 c) (fun v => v = m.pmn[2]) ∧ reads (.mrcPmn3 c) (fun v => v = m.pmn[3]) ∧
     reads (.mrcCclkcfg c) (fun v => s.cfg.clockDefined = false → v.extractLsb' 0 4 = s.clk.cclkcfg) ∧
     reads (.mrcPwrmode c) (fun v => v.extractLsb' 0 4 = s.clk.pwrmode) ∧
     reads (.mrcDcsr c) (fun v => v.getLsbD 31 = d.dcsr.ge ∧ v.getLsbD 30 = d.dcsr.h ∧ v.getLsbD 29 = s.ext.socBreak ∧
       v.getLsbD 23 = d.dcsr.tf ∧ v.getLsbD 22 = d.dcsr.ti ∧ v.getLsbD 20 = d.dcsr.td ∧ v.getLsbD 19 = d.dcsr.ta ∧
       v.getLsbD 18 = d.dcsr.ts ∧ v.getLsbD 17 = d.dcsr.tu ∧ v.getLsbD 16 = d.dcsr.tr ∧ v.getLsbD 6 = d.dcsr.tt ∧
       v.getLsbD 5 = d.dcsr.sa ∧ v.extractLsb' 2 3 = d.dcsr.moe ∧ v.getLsbD 1 = d.dcsr.m ∧ v.getLsbD 0 = d.dcsr.e) ∧
     reads (.mrcTxrxctrl c) (fun v =>
       v.getLsbD 31 = d.rr ∧ v.getLsbD 30 = d.ov ∧ v.getLsbD 29 = d.dl ∧ v.getLsbD 28 = d.txr) ∧
     (s.tracing = false → reads (.mrcChkpt0 c) (fun v => v = d.chkpt0) ∧ reads (.mrcChkpt1 c) (fun v => v = d.chkpt1)) ∧
     reads (.mrcErrlog c) (fun v => v.extractLsb' 0 8 = s.errlog.log) ∧
     reads (.mrcErradrl c) (fun v => v = s.errlog.adrL) ∧
     reads (.mrcErradru c) (fun v => v.extractLsb' 0 4 = s.errlog.adrU)) ∧
  (∀ (s : State) (c : Cond), s.RunsArm c → s.privileged = true →
     let flags (i : Instr) (v : Word) : Prop := exec i s = .next { s with
       cpsr := { s.cpsr with n := v.getLsbD 31, z := v.getLsbD 30, c := v.getLsbD 29, v := v.getLsbD 28 }, pc := s.pc + 4 }
     flags (.mrcCcnt c 15) s.pmu.ccnt ∧ flags (.mrcEvtsel c 15) s.pmu.evtsel ∧
     flags (.mrcPmn0 c 15) s.pmu.pmn[0] ∧ flags (.mrcPmn1 c 15) s.pmu.pmn[1] ∧
     flags (.mrcPmn2 c 15) s.pmu.pmn[2] ∧ flags (.mrcPmn3 c 15) s.pmu.pmn[3] ∧ flags (.mrcErradrl c 15) s.errlog.adrL ∧
     (s.tracing = false → flags (.mrcChkpt0 c 15) s.dbg.chkpt0 ∧ flags (.mrcChkpt1 c 15) s.dbg.chkpt1) ∧
     ∃ n, exec (.mrcTxrxctrl c 15) s = .next { s with
       cpsr := { s.cpsr with n := s.dbg.rr, z := s.dbg.ov, c := s.dbg.dl, v := s.dbg.txr }
       pc := s.pc + 4
       run := { s.run with free := n } }) ∧
  (∀ (s : State) (c : Cond) (rd : Reg), s.RunsArm c → s.privileged = true →
     let read (v : Word) (t : State) : State :=
       if rd = 15 then
         { t with cpsr := { s.cpsr with n := v.getLsbD 31, z := v.getLsbD 30, c := v.getLsbD 29, v := v.getLsbD 28 } }
       else { t with regs := s.regs.set (s.bank rd) v }
     exec (.mrcRx c rd) s = .next (read s.dbg.rx { s with pc := s.pc + 4, dbg := { s.dbg with rr := false } }) ∧
     (s.tracing = false → ∃ (v : Word) (n : Nat) (due : Bool) (ck0 ck1 : Option (BitVec 8)),
       v.extractLsb' 0 8 = s.trace.buffer[s.trace.tp.toNat]'s.trace.tp.isLt ∧
       exec (.mrcTbreg c rd) s = .next (read v { s with
         pc := s.pc + 4
         trace := { s.trace with
           buffer := s.trace.buffer.set s.trace.tp.toNat 0 s.trace.tp.isLt
           tp := s.trace.tp + 1, ckptDue := due, ckptAt0 := ck0, ckptAt1 := ck1 }
         run := { s.run with free := n } })))

/-- MCR of the performance monitor: the control bits with C and P, which reset the counters; interrupt enables; flags
cleared by ones; event selection; the counters. A reserved bit that is set refuses where it must be written as zero; in FLAG
ones in bits 31:5 are ignored, which is the model's choice (log 43). That C restarts the phase of the divide by 64, and a
write of CCNT keeps it, is the model's choice too (log 4).
MCR of the clock, power, communication, checkpoint and error log registers: the fields that software writes;
a power mode that the product has not reads back as 0 (61 R950). -/
def Obligations.DebugRegisterWrite : Prop :=
  (∀ (s : State) (c : Cond) (rd : Reg), s.RunsArm c → s.privileged = true → rd ≠ 15 →
     let v := s.readReg rd
     let m := s.pmu
     let done (after : Pmu) : Outcome := .next { s with pmu := after, pc := s.pc + 4 }
     (v &&& 0x00FFFFE0 = 0 → (v.getLsbD 1 = true →
         v.getLsbD 0 = true ∧ v.getLsbD 4 = false ∧ (m.enable = false ∨ m.disable = true)) →
       exec (.mcrPmnc c rd) s = done { m with
         enable := v.getLsbD 0
         divide := v.getLsbD 3
         disable := v.getLsbD 4
         ccnt := if v.getLsbD 2 then 0 else m.ccnt
         phase := if v.getLsbD 2 then 0 else m.phase
         pmn := if v.getLsbD 1 then Vector.replicate 4 0 else m.pmn }) ∧
     (v &&& 0x00FFFFE0 ≠ 0 → exec (.mcrPmnc c rd) s = .refused .reservedBitWritten) ∧
     exec (.mcrCcnt c rd) s = done { m with ccnt := v } ∧
     (exec (.mcrInten c rd) s =
       if v.toNat < 32 then done { m with inten := v.extractLsb' 0 5 } else .refused .reservedBitWritten) ∧
     exec (.mcrFlag c rd) s = done { m with flag := m.flag &&& ~~~v.extractLsb' 0 5 } ∧
     (m.enable = false ∨ m.disable = true → exec (.mcrEvtsel c rd) s = done { m with evtsel := v }) ∧
     exec (.mcrPmn0 c rd) s = done { m with pmn := m.pmn.set 0 v } ∧
     exec (.mcrPmn1 c rd) s = done { m with pmn := m.pmn.set 1 v } ∧
     exec (.mcrPmn2 c rd) s = done { m with pmn := m.pmn.set 2 v } ∧
     exec (.mcrPmn3 c rd) s = done { m with pmn := m.pmn.set 3 v }) ∧
  (∀ (s : State) (c : Cond) (rd : Reg), s.RunsArm c → s.privileged = true → rd ≠ 15 →
     let v := s.readReg rd
     let small (clk : Clk) : Outcome :=
       if v.toNat < 16 then .next { s with clk := clk, pc := s.pc + 4 } else .refused .reservedBitWritten
     let debug (d : Debug) : Outcome := .next { s with dbg := d, pc := s.pc + 4 }
     let log (k : Bool) (e : ErrLog) : Outcome :=
       if k then .next { s with errlog := e, pc := s.pc + 4 } else .refused .reservedBitWritten
     exec (.mcrCclkcfg c rd) s = small { s.clk with cclkcfg := v.extractLsb' 0 4 } ∧
     exec (.mcrPwrmode c rd) s = small { s.clk with
       pwrmode := if s.cfg.pwrIdle.getLsbD (v.toNat % 16) then v.extractLsb' 0 4 else 0 } ∧
     exec (.mcrTx c rd) s = debug { s.dbg with tx := v, txr := true } ∧
     (v.extractLsb' 0 28 = 0 → exec (.mcrTxrxctrl c rd) s = debug { s.dbg with ov := v.getLsbD 30 }) ∧
     (s.tracing = false → exec (.mcrChkpt0 c rd) s = debug { s.dbg with chkpt0 := v } ∧
       exec (.mcrChkpt1 c rd) s = debug { s.dbg with chkpt1 := v }) ∧
     exec (.mcrErrlog c rd) s = log (v.toNat < 256) { s.errlog with log := v.extractLsb' 0 8 } ∧
     exec (.mcrErradrl c rd) s = log true { s.errlog with adrL := v } ∧
     exec (.mcrErradru c rd) s = log (v.toNat < 16) { s.errlog with adrU := v.extractLsb' 0 4 })

/-- MCR to DCSR: software writes GE, TT, SA, MOE, M and E, never H or a trap bit. A new E restarts the count of written
entries, which is the model's choice (log 30, DEDUCED by decision D34); enabling the buffer, by E or by GE, sets the
instruction count to 0 (61 R940, R943). In Halt Mode outside Special Debug State the write is ignored. -/
def Obligations.DebugControlWrite : Prop :=
  ∀ (s : State) (c : Cond) (rd : Reg), s.RunsArm c → s.privileged = true → rd ≠ 15 →
    let v := s.readReg rd
    let d := s.dbg.dcsr
    (s.dbg.dcsr.h = true → s.dbg.sds = false → exec (.mcrDcsr c rd) s = .next { s with pc := s.pc + 4 }) ∧
    (s.dbg.dcsr.h = false ∨ s.dbg.sds = true → v &&& 0x1F20FF80 = 0 →
      (s.tracing = true → v.getLsbD 6 = d.tt ∧ v.getLsbD 1 = d.m) →
      exec (.mcrDcsr c rd) s = .next { s with
        dbg := { s.dbg with dcsr := { d with
          ge := v.getLsbD 31, tt := v.getLsbD 6, sa := v.getLsbD 5, moe := v.extractLsb' 2 3, m := v.getLsbD 1
          e := v.getLsbD 0 } }
        trace := { s.trace with
          written := if v.getLsbD 0 = true ∧ d.e = false then 0 else s.trace.written
          count := if v.getLsbD 0 = true ∧ v.getLsbD 31 = true ∧ (d.e = false ∨ d.ge = false) then 0 else s.trace.count }
        pc := s.pc + 4 }) ∧
    (s.dbg.dcsr.h = false ∨ s.dbg.sds = true → v &&& 0x1F20FF80 ≠ 0 →
      exec (.mcrDcsr c rd) s = .refused .reservedBitWritten)

/-- LDC and STC of CP14, straight to memory, for every register that they may name: LDC writes the register of CRd with the
word at the address (as an MCR of the word would: CCLKCFG, PWRMODE, TX, DCSR, CHKPT0, CHKPT1, TXRXCTRL), STC stores the
register (as an MRC would read it: those but TX, and RX and TBREG); the base is written back with W; STC of TX, and a register
that they may not name, refuse. That a new E of DCSR restarts the count of written entries is the model's choice (log 30,
DEDUCED by decision D34). -/
def Obligations.DebugRegisterTransfer : Prop :=
  ∀ (s : State) (c : Cond) (p u n w : Bool) (rn : Reg) (off8 : BitVec 8), s.RunsArm c → s.Direct →
    s.privileged = true → (w = true → rn ≠ 15) →
    let off : Word := BitVec.ofNat 32 (4 * off8.toNat)
    let a := s.addressOf p u rn off
    let word : Word := s.mem.readBytes (s.physical (a &&& 0xFFFFFFFC) 4) 4
    let regs := s.basedRegs w rn (s.indexedBy u rn off)
    let d := s.dbg
    let loads (crd : BitVec 4) (clk : Clk) (dbg : Debug) (trace : Trace) : Prop := ∃ events,
      exec (.ldcP14 c p u n w rn crd off8) s = .next { s with
        regs := regs, pc := s.pc + 4, clk := clk, dbg := dbg, trace := trace, run := { s.run with events := events } }
    let stores (crd : BitVec 4) (dbg : Debug) (trace : Trace) (q : Word → Prop) : Prop :=
      ∃ (m : Memory) (v : Word) (events : List (BitVec 8)) (free : Nat),
        exec (.stcP14 c p u n w rn crd off8) s = .next { s with
          regs := regs, pc := s.pc + 4, mem := m, dbg := dbg, trace := trace
          run := { s.run with events := events, free := free } } ∧
        Stored s.mem m (s.physical (a &&& 0xFFFFFFFC) 4) 4 v ∧ q v
    s.Aligned a 4 ∨ s.cp15.ctrl.align = false →
    (word.toNat < 16 → loads 6 { s.clk with cclkcfg := word.extractLsb' 0 4 } d s.trace ∧
      loads 7 { s.clk with pwrmode := if s.cfg.pwrIdle.getLsbD word.toNat then word.extractLsb' 0 4 else 0 } d s.trace) ∧
    loads 8 s.clk { d with tx := word, txr := true } s.trace ∧
    (d.dcsr.h = true → d.sds = false → loads 10 s.clk d s.trace) ∧
    (d.dcsr.h = false ∨ d.sds = true → word &&& 0x1F20FF80 = 0 → loads 10 s.clk
      { d with dcsr := { d.dcsr with
        ge := word.getLsbD 31, tt := word.getLsbD 6, sa := word.getLsbD 5, moe := word.extractLsb' 2 3
        m := word.getLsbD 1, e := word.getLsbD 0 } }
      { s.trace with
        written := if word.getLsbD 0 = true ∧ d.dcsr.e = false then 0 else s.trace.written
        count := if word.getLsbD 0 = true ∧ word.getLsbD 31 = true then 0 else s.trace.count }) ∧
    loads 12 s.clk { d with chkpt0 := word } s.trace ∧ loads 13 s.clk { d with chkpt1 := word } s.trace ∧
    (word.extractLsb' 0 28 = 0 → loads 14 s.clk { d with ov := word.getLsbD 30 } s.trace) ∧
    (∀ crd : BitVec 4, crd.toNat ∉ [6, 7, 8, 10, 12, 13, 14] →
      exec (.ldcP14 c p u n w rn crd off8) s = .refused .coprocTransferUnlisted) ∧
    stores 6 d s.trace (fun v => s.cfg.clockDefined = false → v.extractLsb' 0 4 = s.clk.cclkcfg) ∧
    stores 7 d s.trace (fun v => v.extractLsb' 0 4 = s.clk.pwrmode) ∧
    exec (.stcP14 c p u n w rn 8 off8) s = .refused .txRead ∧
    stores 9 { d with rr := false } s.trace (fun v => v = d.rx) ∧
    stores 10 d s.trace (fun v => v.getLsbD 31 = d.dcsr.ge ∧ v.getLsbD 30 = d.dcsr.h ∧ v.getLsbD 29 = s.ext.socBreak ∧
      v.getLsbD 23 = d.dcsr.tf ∧ v.getLsbD 22 = d.dcsr.ti ∧ v.getLsbD 20 = d.dcsr.td ∧ v.getLsbD 19 = d.dcsr.ta ∧
      v.getLsbD 18 = d.dcsr.ts ∧ v.getLsbD 17 = d.dcsr.tu ∧ v.getLsbD 16 = d.dcsr.tr ∧ v.getLsbD 6 = d.dcsr.tt ∧
      v.getLsbD 5 = d.dcsr.sa ∧ v.extractLsb' 2 3 = d.dcsr.moe ∧ v.getLsbD 1 = d.dcsr.m ∧ v.getLsbD 0 = d.dcsr.e) ∧
    (∃ due ck0 ck1, stores 11 d { s.trace with
        buffer := s.trace.buffer.set s.trace.tp.toNat 0 s.trace.tp.isLt
        tp := s.trace.tp + 1, ckptDue := due, ckptAt0 := ck0, ckptAt1 := ck1 }
      (fun v => v.extractLsb' 0 8 = s.trace.buffer[s.trace.tp.toNat]'s.trace.tp.isLt)) ∧
    stores 12 d s.trace (fun v => v = d.chkpt0) ∧ stores 13 d s.trace (fun v => v = d.chkpt1) ∧
    stores 14 d s.trace (fun v => v.getLsbD 31 = d.rr ∧ v.getLsbD 30 = d.ov ∧ v.getLsbD 29 = d.dl ∧ v.getLsbD 28 = d.txr) ∧
    (∀ crd : BitVec 4, crd.toNat ∉ [6, 7, 8, 9, 10, 11, 12, 13, 14] →
      exec (.stcP14 c p u n w rn crd off8) s = .refused .coprocTransferUnlisted)

/-! ## Thumb (spec 46) -/

/-- The Thumb logical, move and shift instructions on low registers: the result to Rd, N and Z from it, C from the shifter
or unchanged, V unchanged.
The Thumb additions and subtractions on low registers, every operand form: the result and all four flags.
The Thumb compares and TST: flags only. -/
def Obligations.ThumbDataProcessingResult : Prop :=
  (∀ (s : State) (rm rd : LowReg) (imm5 : BitVec 5) (imm8 : BitVec 8), s.RunsThumb →
     let r (x : LowReg) : Reg := 0#1 ++ x
     let x := s.readReg (r rd)
     let m := s.readReg (r rm)
     let k := s.cpsr.c
     let done (o : Word × Bool) : Outcome := .next { s with
       regs := s.regs.set (s.bank (r rd)) o.1
       pc := s.pc + 2
       cpsr := { s.cpsr with n := o.1.getLsbD 31, z := o.1 == 0, c := o.2 } }
     let byReg (sh : ShiftType) := s.operand (.shiftReg (r rm) sh (r rd))
     exec (.tAnd rm rd) s = done (x &&& m, k) ∧ exec (.tEor rm rd) s = done (x ^^^ m, k) ∧
     exec (.tOrr rm rd) s = done (x ||| m, k) ∧ exec (.tBic rm rd) s = done (x &&& ~~~m, k) ∧
     exec (.tMvn rm rd) s = done (~~~m, k) ∧ exec (.tMovImm8 rd imm8) s = done (imm8.setWidth 32, k) ∧
     exec (.tMul rm rd) s = done (BitVec.ofNat 32 (m.toNat * x.toNat), k) ∧
     exec (.tLsl (.imm imm5 rm rd)) s = done (s.operand (.shiftImm imm5 .lsl (r rm))) ∧
     exec (.tLsr (.imm imm5 rm rd)) s = done (s.operand (.shiftImm imm5 .lsr (r rm))) ∧
     exec (.tAsr (.imm imm5 rm rd)) s = done (s.operand (.shiftImm imm5 .asr (r rm))) ∧
     exec (.tLsl (.reg rm rd)) s = done (byReg .lsl) ∧ exec (.tLsr (.reg rm rd)) s = done (byReg .lsr) ∧
     exec (.tAsr (.reg rm rd)) s = done (byReg .asr) ∧ exec (.tRorReg rm rd) s = done (byReg .ror)) ∧
  (∀ (s : State) (rm rn rd : LowReg) (imm3 : BitVec 3) (imm8 : BitVec 8), s.RunsThumb →
     let r (x : LowReg) : Word := s.readReg (0#1 ++ x)
     let a (v : AluResult) : Outcome := .next { s with
       regs := s.regs.set (s.bank (0#1 ++ rd)) v.value
       pc := s.pc + 2
       cpsr := { s.cpsr with n := v.value.getLsbD 31, z := v.value == 0, c := v.carry, v := v.overflow } }
     let i3 : Word := imm3.setWidth 32
     let i8 : Word := imm8.setWidth 32
     exec (.tAdd (.reg rm rn rd)) s = a (addWithCarry (r rn) (r rm) false) ∧
     exec (.tAdd (.imm3 imm3 rn rd)) s = a (addWithCarry (r rn) i3 false) ∧
     exec (.tAdd (.imm8 rd imm8)) s = a (addWithCarry (r rd) i8 false) ∧
     exec (.tSub (.reg rm rn rd)) s = a (addWithCarry (r rn) (~~~r rm) true) ∧
     exec (.tSub (.imm3 imm3 rn rd)) s = a (addWithCarry (r rn) (~~~i3) true) ∧
     exec (.tSub (.imm8 rd imm8)) s = a (addWithCarry (r rd) (~~~i8) true) ∧
     exec (.tAdc rm rd) s = a (addWithCarry (r rd) (r rm) s.cpsr.c) ∧
     exec (.tSbc rm rd) s = a (addWithCarry (r rd) (~~~r rm) s.cpsr.c) ∧
     exec (.tNeg rm rd) s = a (addWithCarry 0 (~~~r rm) true)) ∧
  (∀ (s : State) (rm rn : LowReg) (imm8 : BitVec 8) (h1 h2 : Bool), s.RunsThumb →
     let high (h : Bool) (x : LowReg) : Reg := BitVec.ofNat 4 (x.toNat + if h then 8 else 0)
     let r (x : LowReg) : Word := s.readReg (high false x)
     let flags (v : AluResult) : Outcome := .next { s with
       pc := s.pc + 2
       cpsr := { s.cpsr with n := v.value.getLsbD 31, z := v.value == 0, c := v.carry, v := v.overflow } }
     exec (.tTst rm rn) s = .next { s with
       pc := s.pc + 2
       cpsr := { s.cpsr with n := (r rn &&& r rm).getLsbD 31, z := r rn &&& r rm == 0 } } ∧
     exec (.tCmp (.imm8 rn imm8)) s = flags (addWithCarry (r rn) (~~~imm8.setWidth 32) true) ∧
     exec (.tCmp (.reg rm rn)) s = flags (addWithCarry (r rn) (~~~r rm) true) ∧
     exec (.tCmn rm rn) s = flags (addWithCarry (r rn) (r rm) false) ∧
     exec (.tCmpHi h1 h2 rm rn) s =
       if (h1 = false ∧ h2 = false) ∨ high h1 rn = 15 then .refused .operandRestriction
       else flags (addWithCarry (s.readReg (high h1 rn)) (~~~s.readReg (high h2 rm)) true))

/-- The Thumb address and high-register operations: no flag changes; a write of R15 branches in Thumb state. -/
def Obligations.ThumbHighAndAddressResult : Prop :=
  ∀ (s : State) (rm rd : LowReg) (imm8 : BitVec 8) (imm7 : BitVec 7) (h1 h2 : Bool), s.RunsThumb →
    let high (h : Bool) (x : LowReg) : Reg := BitVec.ofNat 4 (x.toNat + if h then 8 else 0)
    let set (d : Reg) (v : Word) : Outcome := .next { s with regs := s.regs.set (s.bank d) v, pc := s.pc + 2 }
    let done (d : Reg) (v : Word) : Outcome :=
      if d = 15 then .next { s with pc := BitVec.ofNat 32 (v.toNat / 2 * 2), run := { s.run with flow := .indirect true } }
      else set d v
    let i8 : Word := BitVec.ofNat 32 (4 * imm8.toNat)
    let i7 : Word := BitVec.ofNat 32 (4 * imm7.toNat)
    (if h1 = false ∧ h2 = false then
      exec (.tAddHi h1 h2 rm rd) s = .refused .operandRestriction ∧
      exec (.tMovHi h1 h2 rm rd) s = .refused .operandRestriction
    else
      exec (.tAddHi h1 h2 rm rd) s = done (high h1 rd) (s.readReg (high h1 rd) + s.readReg (high h2 rm)) ∧
      exec (.tMovHi h1 h2 rm rd) s = done (high h1 rd) (s.readReg (high h2 rm))) ∧
    exec (.tAddPc rd imm8) s = set (high false rd) (BitVec.ofNat 32 ((s.pc + 4).toNat / 4 * 4) + i8) ∧
    exec (.tAddSp rd imm8) s = set (high false rd) (s.readReg 13 + i8) ∧
    exec (.tIncSp imm7) s = set 13 (s.readReg 13 + i7) ∧ exec (.tDecSp imm7) s = set 13 (s.readReg 13 - i7)

/-- The Thumb loads, straight to memory: as the ARM loads, from the address of every form. -/
def Obligations.ThumbLoadResult : Prop :=
  ∀ (s : State) (rm rn rd : LowReg) (imm5 : BitVec 5) (imm8 : BitVec 8), s.RunsThumb → s.Direct →
    let r (x : LowReg) : Word := s.readReg (0#1 ++ x)
    let loads (i : Instr) (v : Word) : Prop := ∃ events, exec i s = .next { s with
      regs := s.regs.set (s.bank (0#1 ++ rd)) v, pc := s.pc + 2, run := { s.run with events := events } }
    let word (i : Instr) (a : Word) : Prop := s.Aligned a 4 ∨ s.cp15.ctrl.align = false →
      loads i ((s.mem.readBytes (s.physical (a &&& 0xFFFFFFFC) 4) 4 : Word).rotateRight (8 * (a.toNat % 4)))
    let byte (a : Word) : Byte := s.mem.readBytes (s.physical a 1) 1
    let half (a : Word) : Half := s.mem.readBytes (s.physical a 2) 2
    let halfAt (i : Instr) (a : Word) (f : Half → Word) : Prop := s.Aligned a 2 → loads i (f (half a))
    let scaled (k : Nat) : Word := BitVec.ofNat 32 (k * imm5.toNat)
    let by4 : Word := BitVec.ofNat 32 (4 * imm8.toNat)
    word (.tLdr rd (.pc imm8)) (BitVec.ofNat 32 ((s.pc + 4).toNat / 4 * 4) + by4) ∧
    word (.tLdr rd (.reg rm rn)) (r rn + r rm) ∧ word (.tLdr rd (.imm imm5 rn)) (r rn + scaled 4) ∧
    word (.tLdr rd (.sp imm8)) (s.readReg 13 + by4) ∧
    halfAt (.tLdrh rd (.reg rm rn)) (r rn + r rm) (fun h => h.setWidth 32) ∧
    halfAt (.tLdrh rd (.imm imm5 rn)) (r rn + scaled 2) (fun h => h.setWidth 32) ∧
    halfAt (.tLdrshReg rm rn rd) (r rn + r rm) (fun h => h.signExtend 32) ∧
    loads (.tLdrb rd (.reg rm rn)) ((byte (r rn + r rm)).setWidth 32) ∧
    loads (.tLdrb rd (.imm imm5 rn)) ((byte (r rn + scaled 1)).setWidth 32) ∧
    loads (.tLdrsbReg rm rn rd) ((byte (r rn + r rm)).signExtend 32)

/-- The Thumb stores, straight to memory: the low bytes of Rd at the address of every form, every other byte as before. -/
def Obligations.ThumbStoreResult : Prop :=
  ∀ (s : State) (rm rn rd : LowReg) (imm5 : BitVec 5) (imm8 : BitVec 8), s.RunsThumb → s.Direct →
    let r (x : LowReg) : Word := s.readReg (0#1 ++ x)
    let stores (i : Instr) (a : Word) (n : Nat) (v : BitVec (8 * n)) : Prop := ∃ (m : Memory) (events : List (BitVec 8)),
      exec i s = .next { s with pc := s.pc + 2, mem := m, run := { s.run with events := events } } ∧
      m.wf = true ∧ Stored s.mem m (s.physical a n) n v
    let word (i : Instr) (a : Word) : Prop := s.Aligned a 4 ∨ s.cp15.ctrl.align = false →
      stores i (a &&& 0xFFFFFFFC) 4 (r rd)
    let half (i : Instr) (a : Word) : Prop := s.Aligned a 2 → stores i a 2 ((r rd).setWidth 16)
    let scaled (k : Nat) : Word := BitVec.ofNat 32 (k * imm5.toNat)
    word (.tStr rd (.reg rm rn)) (r rn + r rm) ∧ word (.tStr rd (.imm imm5 rn)) (r rn + scaled 4) ∧
    word (.tStr rd (.sp imm8)) (s.readReg 13 + BitVec.ofNat 32 (4 * imm8.toNat)) ∧
    half (.tStrh rd (.reg rm rn)) (r rn + r rm) ∧ half (.tStrh rd (.imm imm5 rn)) (r rn + scaled 2) ∧
    stores (.tStrb rd (.reg rm rn)) (r rn + r rm) 1 ((r rd).setWidth 8) ∧
    stores (.tStrb rd (.imm imm5 rn)) (r rn + scaled 1) 1 ((r rd).setWidth 8)

/-- PUSH and STMIA: the registers, lowest first (with R14 last for PUSH), in the rising words below SP or from Rn up; the
base moved past them; every other byte as before. An empty list refuses. Nothing from outside falls between the words
(92 D25). -/
def Obligations.ThumbStoreMultipleResult : Prop :=
  ∀ (s : State) (rn : LowReg) (lr : Bool) (regs : BitVec 8), s.RunsThumb → s.Direct →
    s.run.env = [] →
    let base : Reg := 0#1 ++ rn
    let listed := registersOf (0#8 ++ regs)
    let stores (i : Instr) (rs : List Reg) (b : Reg) (start after : Word) : Prop :=
      (s.Aligned start 4 ∨ s.cp15.ctrl.align = false) → (start &&& 0xFFFFFFFC).toNat + 4 * rs.length ≤ 2 ^ 32 →
      let place (k : Nat) : PAddr := s.physical ((start + BitVec.ofNat 32 (4 * k)) &&& 0xFFFFFFFC) 4
      ∃ (m : Memory) (events : List (BitVec 8)),
        exec i s = .next { s with
          regs := s.regs.set (s.bank b) after, pc := s.pc + 2, mem := m, run := { s.run with events := events } } ∧
        (∀ k (h : k < rs.length), m.readBytes (place k) 4 = s.readReg rs[k]) ∧
        (∀ a : PAddr, (∀ k < rs.length, ¬ (a - place k).toNat < 4) → m.read a = s.mem.read a)
    let pushed := listed ++ (if lr then [14#4] else [])
    (if lr = false ∧ regs = 0 then exec (.tPush lr regs) s = .refused .operandRestriction
    else stores (.tPush lr regs) pushed 13 (s.readReg 13 - BitVec.ofNat 32 (4 * pushed.length))
      (s.readReg 13 - BitVec.ofNat 32 (4 * pushed.length))) ∧
    ((Instr.tStmia rn regs).operandsAllowed = true →
      stores (.tStmia rn regs) listed base (s.readReg base) (s.readReg base + BitVec.ofNat 32 (4 * listed.length)))

/-- POP and LDMIA: the registers from the rising words at SP or at Rn; SP moved past them, Rn too unless it is loaded;
POP with R15 is an interworking branch. Nothing from outside falls between the words (92 D25). -/
def Obligations.ThumbLoadMultipleResult : Prop :=
  ∀ (s : State) (rn : LowReg) (regs : BitVec 8), s.RunsThumb → s.Direct →
    s.run.env = [] →
    let base : Reg := 0#1 ++ rn
    let listed := registersOf (0#8 ++ regs)
    let n := listed.length
    let fits (start : Word) (k : Nat) : Prop := (s.Aligned start 4 ∨ s.cp15.ctrl.align = false) ∧
      (start &&& 0xFFFFFFFC).toNat + 4 * k ≤ 2 ^ 32
    let word (start : Word) (i : Nat) : Word :=
      s.mem.readBytes (s.physical ((start + BitVec.ofNat 32 (4 * i)) &&& 0xFFFFFFFC) 4) 4
    let loaded (t : State) (start : Word) (b : Reg) (size : Nat) : Prop :=
      t = { s with regs := t.regs, pc := t.pc, cpsr := t.cpsr, run := t.run } ∧
      (∀ i (h : i < n), t.regs[s.bank listed[i]] = word start i) ∧
      (b ∉ listed → t.regs[s.bank b] = start + BitVec.ofNat 32 (4 * size)) ∧
      (∀ k : Fin 32, (∀ r ∈ listed, s.bank r ≠ k) → k ≠ s.bank b → t.regs[k] = s.regs[k])
    (regs ≠ 0 → fits (s.readReg 13) n → ∃ t, exec (.tPop false regs) s = .next t ∧ loaded t (s.readReg 13) 13 n ∧
      t.pc = s.pc + 2 ∧ t.cpsr = s.cpsr) ∧
    (fits (s.readReg 13) (n + 1) →
      let v := word (s.readReg 13) n
      if v.toNat % 4 = 2 then exec (.tPop true regs) s = .refused .misalignedPc
      else ∃ t, exec (.tPop true regs) s = .next t ∧ loaded t (s.readReg 13) 13 (n + 1) ∧
        t.pc = BitVec.ofNat 32 (v.toNat / 2 * 2) ∧ t.cpsr = { s.cpsr with t := decide (v.toNat % 2 = 1) }) ∧
    (regs ≠ 0 → fits (s.readReg base) n → ∃ t, exec (.tLdmia rn regs) s = .next t ∧ loaded t (s.readReg base) base n ∧
      t.pc = s.pc + 2 ∧ t.cpsr = s.cpsr)

/-- The Thumb branches: the conditional and the long B; the BL and BLX pair, whose prefix leaves the upper part of the
target in R14 and whose suffix branches and links. -/
def Obligations.ThumbBranchResult : Prop :=
  ∀ (s : State) (c : Cond) (imm8 : BitVec 8) (imm11 : BitVec 11) (imm10 : BitVec 10), s.RunsThumb →
    let flow (pc : Word) (f : Flow) : Outcome := .next { s with pc := pc, run := { s.run with flow := f } }
    let linked := s.regs.set (s.bank 14) ((s.pc + 2) ||| 1)
    exec (.tBCond c imm8) s = (if s.cpsr.holds c then
        flow (BitVec.ofInt 32 (s.pc.toNat + 4 + 2 * imm8.toInt)) (.direct true)
      else flow (s.pc + 2) (.direct false)) ∧
    exec (.tB imm11) s = flow (BitVec.ofInt 32 (s.pc.toNat + 4 + 2 * imm11.toInt)) (.direct true) ∧
    exec (.tBlPrefix imm11) s = .next { s with
      regs := s.regs.set (s.bank 14) (BitVec.ofInt 32 (s.pc.toNat + 4 + 4096 * imm11.toInt)), pc := s.pc + 2 } ∧
    exec (.tBlSuffix imm11) s = .next { s with
      regs := linked
      pc := BitVec.ofNat 32 ((s.readReg 14 + BitVec.ofNat 32 (2 * imm11.toNat)).toNat / 2 * 2)
      run := { s.run with flow := .direct true } } ∧
    exec (.tBlxSuffix imm10) s = .next { s with
      regs := linked
      pc := BitVec.ofNat 32 ((s.readReg 14 + BitVec.ofNat 32 (4 * imm10.toNat)).toNat / 4 * 4)
      cpsr := { s.cpsr with t := false }
      run := { s.run with flow := .indirect true } }

/-! ## The machine (spec 10, 30, 60, 70) -/

/-- Words of every family, written out bit by bit from the encodings of the spec, decode to their instructions: data processing
and CLZ, multiplies, the DSP multiplies and saturating sums, loads and stores, preload, multiple transfers, swap, branches, the
status registers, SWI and BKPT, the generic coprocessor forms, the undefined space (30 sections 3 and 4; 43), CP0 (44),
registers of CP15, CP14 and CP7 (11, 12), a function of each section of 45, and Thumb instructions of each section of 46. -/
def Obligations.DecodeOfWrittenWords : Prop :=
  (∀ x ∈ ([
    (0xE0912003, .add .al true 1 2 (.shiftImm 0 .lsl 3)), (0x03A0C4FF, .mov .eq false 0 12 (.imm 4 0xFF)),
    (0xE16F0F11, .clz .al 15 0 15 1), (0xE0C54392, .smull .al false 5 4 3 2), (0xE16002A1, .smulxy .al 0 0 2 false true 1),
    (0xE1020051, .qadd .al 2 0 0 1), (0xE7B21103, .ldr .al true true true 2 1 (.reg 2 .lsl 3)),
    (0xE1D100B2, .ldrh .al true true false 1 0 (.imm 0 2)), (0xE1C120D8, .ldrd .al true true false 1 2 (.imm 0 8)),
    (0xE5621003, .strb .al true false true 2 1 (.imm 3)), (0xE01210D3, .ldrsb .al false false false 2 1 (.reg 0 3)),
    (0xF5D1F004, .pld true 1 (.imm 4)), (0xE92D4003, .stm .al true false true 13 0x4003), (0xE1020091, .swp .al 2 0 0 1),
    (0x1AFFFFFE, .b .ne 0xFFFFFE), (0xE12FFF1E, .bx .al 15 15 15 14), (0xE121F003, .msrReg .al false 1 15 0 3),
    (0xEF123456, .swi .al 0x123456), (0xE12ABC7D, .bkpt 0xABC 0xD), (0xE7F000F0, .undefinedSpace .al 0xF8007 0)] :
      List (Nat × Instr)), decodeTableWord 32 x.1 = some x.2) ∧
  (∀ x ∈ ([
    (0xEE2431C5, .cdp .al 2 4 3 1 6 5), (0xEE4431D5, .mcr .al 2 4 3 1 6 5), (0xEE5431D5, .mrc .al 2 4 3 1 6 5),
    (0xED932104, .ldc .al true true false false 3 2 1 4), (0xEC443156, .mcrr .al 4 3 1 5 6), (0xFE2431C5, .cdp2 2 4 3 1 6 5),
    (0xEE201011, .mia .al 1 0 1), (0xEC410000, .mar .al 1 0 0),
    (0xEE011F10, .mcrControl .al 1), (0xEE1A2E10, .mrcDcsr .al 2), (0xEE101E11, .mrcPmnc .al 1), (0xEE101712, .mrcErrlog .al 1),
    (0xEE070F3A, .cleanDcacheMva .al 0), (0xEE070F9A, .dataWriteBarrier .al 0), (0xEE270F3B, .cleanL2Mva .al 0),
    (0xEE070FB2, .allocDcacheLine .al 0), (0xEE080F17, .invTlbs .al 0), (0xEE090F15, .lockIcacheLine .al 0),
    (0xEE290F15, .lockL2Line .al 0), (0xEE0A0F14, .lockItlbEntry .al 0)] : List (Nat × Instr)),
    decodeTableWord 32 x.1 = some x.2) ∧
  (∀ x ∈ ([
    (0x0108, .tLsl (.imm 4 1 0)), (0x1888, .tAdd (.reg 2 1 0)), (0x4008, .tAnd 1 0), (0x4688, .tMovHi true false 1 0),
    (0x4770, .tBx true 6 0), (0xA801, .tAddSp 0 1), (0x4802, .tLdr 0 (.pc 2)), (0x78C8, .tLdrb 0 (.imm 3 1)),
    (0xB503, .tPush true 3), (0xC905, .tLdmia 1 5), (0xD1FC, .tBCond .ne 0xFC), (0xE07E, .tB 0x07E), (0xF012, .tBlPrefix 0x012),
    (0xDF12, .tSwi 0x12), (0xBEAB, .tBkpt 0xAB)] : List (Nat × Instr)), decodeTableWord 16 x.1 = some x.2)

/-- Every multiply and DSP instruction that is well formed: the decoder reads its encoding back.
Every branch, status register and exception instruction of the ARM set that is well formed: the decoder reads its
encoding back. -/
def Obligations.ArmRoundTrip : Prop :=
  (∀ i : Instr, i.WellFormed → i.isMultiply = true → decode (encode i) = .instr i) ∧
  (∀ i : Instr, i.WellFormed → i.isBranchOrStatus = true → decode (encode i) = .instr i)

/-- Every data-processing instruction, load, store, preload, multiple transfer and swap of the ARM set that is well formed: the
decoder reads its encoding back. -/
def Obligations.DataAndTransferRoundTrip : Prop :=
  ∀ i : Instr, i.WellFormed → i.isDataOrTransfer = true → decode (encode i) = .instr i

/-- Every other ARM instruction that is well formed, those of the coprocessors, of CP0 and of the system registers and the
undefined space: the decoder reads its encoding back. -/
def Obligations.CoprocessorAndSystemRoundTrip : Prop :=
  ∀ (i : Instr) (w : BitVec 32), i.WellFormed → encode i = .arm w → i.isMultiply = false → i.isBranchOrStatus = false →
    i.isDataOrTransfer = false → decodeArm w = .instr i

/-- Every Thumb instruction that is well formed: the decoder reads its encoding back. -/
def Obligations.ThumbRoundTrip : Prop :=
  ∀ (i : Instr) (h : BitVec 16), i.WellFormed → encode i = .thumb h → decodeThumb h = .instr i

/-- The state after reset has the values that spec 70 R963 to R968 give: the pc, the mode, I, F and T; CTRL, AUXCTRL, the
D-cache lock, PID, DBCON and CPAR zero, the breakpoints disabled; the performance monitor disabled with no interrupt and
no flag; active power mode; the debug unit off; the error log clear; caches and buffers empty; TLBs invalid and unlocked,
the round-robin pointer at 31 and the lock pointer at 0. Of CTRL, that S and R are 0 is the model's choice (log 5). -/
def Obligations.ResetValues : Prop :=
  let s := State.reset
  s.pc = 0 ∧ s.cpsr.m = 0b10011 ∧ s.cpsr.i = true ∧ s.cpsr.f = true ∧ s.cpsr.t = false ∧
  s.cp15.ctrl = ⟨false, false, false, false, false, false, false, false, false, false⟩ ∧
  s.cp15.auxOC = 0 ∧ s.cp15.auxIC = 0 ∧ s.cp15.auxP = false ∧ s.cp15.dcLock = false ∧ s.cp15.pid = 0 ∧
  s.cp15.ibr0.getLsbD 0 = false ∧ s.cp15.ibr1.getLsbD 0 = false ∧ s.cp15.dbcon = ⟨false, 0, 0⟩ ∧ s.cp15.cpar = 0 ∧
  s.pmu.enable = false ∧ s.pmu.inten = 0 ∧ s.pmu.flag = 0 ∧ s.clk.pwrmode = 0 ∧
  s.dbg.dcsr.ge = false ∧ s.dbg.dcsr.e = false ∧ s.dbg.dcsr.moe = 0 ∧ s.dbg.rr = false ∧ s.dbg.ov = false ∧
  s.dbg.txr = false ∧ s.dbg.sds = false ∧ s.errlog = ⟨0, 0, 0⟩ ∧
  s.caches.i.lines = [] ∧ s.caches.d.lines = [] ∧ s.caches.btb = [] ∧ s.caches.buf.entries = [] ∧ s.caches.l2.lines = [] ∧
  (∀ t ∈ [s.tlbs.i, s.tlbs.d], t.rr = 31 ∧ t.lockptr = 0 ∧ ∀ k : Fin 32, t.entries[k] = none) ∧
  s.ext.pendingAbort = none

/-- When reset ends (70 R961): execution begins at 0 in Supervisor mode with I and F set, the MMU off, CTRL.B set
only on a product that is big endian only (92 D12) and the caches empty (that CTRL.S and CTRL.R are then 0 is the model's
choice, log 5); memory, the trace buffer and the Debug SRAM are as before, DCSR.H and the trap bits too; with H and the reset trap
set, DEBUG mode is entered with link 4. -/
def Obligations.ResetEntry : Prop :=
  ∀ s : State, s.run.env = [] → s.ext.resetPin = false → s.dbg.holdReset = false → s.ext.inReset = true →
    ∃ t, step s = .next t ∧ t.mem = s.mem ∧ t.trace = s.trace ∧ t.jtag = s.jtag ∧
      t.cp15.ctrl = { State.reset.cp15.ctrl with bigEndian := s.cfg.endian == .big } ∧
      t.caches = State.reset.caches ∧ t.tlbs = State.reset.tlbs ∧ t.ext.inReset = false ∧ t.dbg.dcsr.ge = false ∧
      t.dbg.dcsr.h = s.dbg.dcsr.h ∧ t.dbg.dcsr.tr = s.dbg.dcsr.tr ∧ t.pc = 0 ∧ t.cpsr.i = true ∧ t.cpsr.f = true ∧
      t.cpsr.t = false ∧
      (if s.dbg.dcsr.h && s.dbg.dcsr.tr then
        t.cpsr.m = modeDbg ∧ t.dbg.sds = true ∧ t.dbg.fromSram = true ∧ t.dbg.dcsr.moe = 0b101 ∧ t.regs[31] = 4
      else t.cpsr.m = modeSvc ∧ t.dbg.sds = false ∧ t.dbg.dcsr.moe = 0)

/-- The state after reset has the invariant of every run: memory canonical (log 7), a legal mode, an aligned pc. -/
def Obligations.ResetHasInvariant : Prop := State.reset.Inv

/-- A step runs the decoded instruction: when nothing intervenes, the step is the meaning of the instruction in memory at
the pc, run in the same state but for the fetch buffers and the model's own notes; and with the performance monitor, the
BTB, the trace and the memory buffer idle the end of the step changes the model's own notes alone. -/
def Obligations.StepRunsTheDecodedInstruction : Prop :=
  ∀ (s : State) (i : Instr), s.Fetches → s.instructionAtPc = .instr i →
    ∃ s' : State, step s = retire s' s.codeAtPc (exec i s') ∧
      s' = { s with
        caches := { s.caches with i := s'.caches.i }
        run := { s.run with events := s'.run.events, userTransfer := s.run.userTransfer - 1 } } ∧
      (∀ f, exec i s' = .fault f → step s = .fault f) ∧ (∀ r, exec i s' = .refused r → step s = .refused r) ∧
      (∀ t, exec i s' = .next t → s.pmu.enable = false → s.cp15.ctrl.btb = false → s.tracing = false →
        t.caches.buf.entries = [] → ∃ n, step s = .next { t with
          run := { t.run with flow := .sequential, events := [], pcLoad := false, free := n } })

/-- Interrupts (60 R850 to R852): at a quiescent boundary with no debug and the performance monitor off, an FIQ that is
not masked is taken before an IRQ that is not masked; each enters its mode with the link the next instruction plus 4. -/
def Obligations.InterruptEntry : Prop :=
  ∀ s : State, s.Quiescent → s.dbg.sds = false → s.dbg.dcsr.ge = false → s.pmu.enable = false →
    (s.fiqInput = true → s.cpsr.f = false → ∃ t, step s = .next t ∧ s.Entered t modeFiq 0 (s.pc + 4) 0x1C true) ∧
    (s.irqInput = true → s.cpsr.i = false → (s.fiqInput = false ∨ s.cpsr.f = true) →
      ∃ t, step s = .next t ∧ s.Entered t modeIrq 1 (s.pc + 4) 0x18 false)

/-- Every step keeps the invariant: memory stays canonical (the model's own form, log 7), the mode one of the eight, the pc aligned. -/
def Obligations.EveryStepKeepsTheInvariant : Prop := ∀ s t : State, s.Inv → step s = .next t → t.Inv

/-- User mode is confined (10 R30): outside debug, no instruction executed in User mode changes a register of CP15 (but
the fault registers, by an abort it takes), the performance monitor, the clock registers, the debug unit, the trace buffer, the
debugger's side (JTAG registers and Debug SRAM) or an interrupt or break input, nor, with nothing from outside and where neither
the bus nor an L2 line errs, the error log of CP7 or the reset input; the mode changes only to that of an exception with a
vector; and while it stays User no banked register of another mode and no SPSR changes. -/
def Obligations.UserModeIsConfined : Prop :=
  ∀ (i : Instr) (s t : State), s.cpsr.m = modeUsr → s.dbg.sds = false → s.dbg.dcsr.ge = false →
    exec i s = .next t →
    t.cp15 = { s.cp15 with fsr := t.cp15.fsr, far := t.cp15.far } ∧ t.pmu = s.pmu ∧ t.clk = s.clk ∧ t.dbg = s.dbg ∧
    t.trace = s.trace ∧ t.jtag = s.jtag ∧ t.ext.irq = s.ext.irq ∧ t.ext.fiq = s.ext.fiq ∧ t.ext.socBreak = s.ext.socBreak ∧
    (s.run.env = [] → s.ext.busErrors = [] → (∀ e ∈ s.caches.l2.lines, e.2.errors = []) →
      t.errlog = s.errlog ∧ t.ext.resetPin = s.ext.resetPin ∧ t.ext.inReset = s.ext.inReset) ∧
    (t.cpsr.m = modeUsr ∨
      ((t.cpsr.m = modeSvc ∨ t.cpsr.m = modeAbt ∨ t.cpsr.m = modeUnd) ∧ t.cpsr.i = true ∧ t.cpsr.t = false ∧
        (t.pc - (if s.cp15.ctrl.highVectors then 0xFFFF0000 else 0)).toNat < 0x14)) ∧
    (t.cpsr.m = modeUsr → t.spsr = s.spsr ∧ t.cpsr.i = s.cpsr.i ∧ t.cpsr.f = s.cpsr.f ∧
      ∀ k : Fin 32, 15 ≤ k.val → t.regs[k] = s.regs[k])
end

