-- ==== Sys2Proof/Laws/Memory.lean ====
section
/-! SUPPORT. Keyed lists and main memory: what a read gives after a write, and that every write keeps the canonical
form. -/

namespace Sys2Proof.Machine

/-! ## Keyed lists -/

section Keyed
variable {α : Type}

theorem lookupKey_insertKey (k j : Nat) (v : α) (l : List (Nat × α)) :
    lookupKey j (insertKey k v l) = if j = k then some v else lookupKey j l := by
  induction l with
  | nil => simp [insertKey, lookupKey, eq_comm]
  | cons c t ih =>
    obtain ⟨k', v'⟩ := c
    simp only [insertKey]
    split
    · simp [lookupKey, eq_comm]
    · split
      · subst k'; by_cases h : j = k
        · simp [lookupKey, h]
        · simp [lookupKey, h, Ne.symm h]
      · by_cases h : j = k
        · subst j; simp [lookupKey, *]
        · simp [lookupKey, ih, h]

/-- Every key of a list is above a bound. -/
theorem risingKeys_cons (k : Nat) (v : α) (t : List (Nat × α)) :
    risingKeys ((k, v) :: t) = (risingKeys t && t.all fun c => k < c.1) := by
  induction t generalizing k v with
  | nil => rfl
  | cons c t ih =>
    obtain ⟨k', v'⟩ := c
    simp only [risingKeys, ih k' v', List.all_cons]
    by_cases h : k < k'
    · simp only [h, decide_true, Bool.true_and]
      by_cases h2 : t.all fun c => decide (k' < c.1)
      · have : (t.all fun c => decide (k < c.1)) = true := by
          simp only [List.all_eq_true, decide_eq_true_eq] at h2 ⊢
          exact fun x hx => h.trans (h2 x hx)
        simp [h2, this]
      · simp [h2]
    · simp [h]

theorem lookupKey_above {k : Nat} {l : List (Nat × α)} (h : (l.all fun c => decide (k < c.1)) = true) :
    lookupKey k l = none := by
  induction l with
  | nil => rfl
  | cons c t ih =>
    obtain ⟨k', v'⟩ := c
    simp only [List.all_cons, Bool.and_eq_true, decide_eq_true_eq] at h
    simp [lookupKey, ih h.2]; omega

theorem lookupKey_eraseKey {k j : Nat} {l : List (Nat × α)} (h : risingKeys l = true) :
    lookupKey j (eraseKey k l) = if j = k then none else lookupKey j l := by
  induction l with
  | nil => simp [eraseKey, lookupKey]
  | cons c t ih =>
    obtain ⟨k', v'⟩ := c
    rw [risingKeys_cons, Bool.and_eq_true] at h
    simp only [eraseKey]
    by_cases e : k' = k
    · subst e
      by_cases hj : j = k'
      · subst hj; simp [lookupKey_above h.2]
      · simp [lookupKey, hj, Ne.symm hj]
    · simp only [e, if_false, lookupKey, ih h.1]
      by_cases hj : j = k
      · subst hj; simp [e]
      · simp [hj]

theorem all_insertKey {p : Nat × α → Bool} {k : Nat} {v : α} {l : List (Nat × α)} (hv : p (k, v) = true)
    (h : l.all p = true) : (insertKey k v l).all p = true := by
  induction l with
  | nil => simp [insertKey, hv]
  | cons c t ih =>
    obtain ⟨k', v'⟩ := c
    simp only [List.all_cons, Bool.and_eq_true] at h
    simp only [insertKey]
    split
    · simp [hv, h]
    · split <;> simp [hv, h, ih]

theorem all_eraseKey {p : Nat × α → Bool} {k : Nat} {l : List (Nat × α)} (h : l.all p = true) :
    (eraseKey k l).all p = true := by
  induction l with
  | nil => rfl
  | cons c t ih =>
    obtain ⟨k', v'⟩ := c
    simp only [List.all_cons, Bool.and_eq_true] at h
    simp only [eraseKey]
    split <;> simp [h, ih]

theorem risingKeys_insertKey {k : Nat} {v : α} {l : List (Nat × α)} (h : risingKeys l = true) :
    risingKeys (insertKey k v l) = true := by
  induction l with
  | nil => rfl
  | cons c t ih =>
    obtain ⟨k', v'⟩ := c
    have h' := h
    rw [risingKeys_cons, Bool.and_eq_true] at h'
    simp only [insertKey]
    split
    · rename_i hk
      rw [risingKeys_cons, h, List.all_cons, Bool.true_and, Bool.and_eq_true]
      refine ⟨by simpa using hk, ?_⟩
      simp only [List.all_eq_true, decide_eq_true_eq] at h' ⊢
      exact fun x hx => hk.trans (h'.2 x hx)
    · split
      · subst k'; rw [risingKeys_cons, Bool.and_eq_true]; exact h'
      · rename_i h1 h2
        rw [risingKeys_cons, Bool.and_eq_true]
        exact ⟨ih h'.1, all_insertKey (by simp; omega) h'.2⟩

theorem risingKeys_eraseKey {k : Nat} {l : List (Nat × α)} (h : risingKeys l = true) :
    risingKeys (eraseKey k l) = true := by
  induction l with
  | nil => rfl
  | cons c t ih =>
    obtain ⟨k', v'⟩ := c
    rw [risingKeys_cons, Bool.and_eq_true] at h
    simp only [eraseKey]
    split
    · exact h.1
    · rw [risingKeys_cons, Bool.and_eq_true]
      exact ⟨ih h.1, all_eraseKey h.2⟩

end Keyed

/-! ## Main memory -/

namespace Memory

theorem wf_nil : Memory.wf [] = true := rfl

/-- A byte store keeps the canonical form. -/
theorem wf_write {m : Memory} (h : m.wf = true) (a : PAddr) (b : Byte) : (m.write a b).wf = true := by
  rw [Memory.wf, Bool.and_eq_true] at h
  unfold Memory.write
  split
  · rw [Memory.wf, Bool.and_eq_true]
    exact ⟨risingKeys_eraseKey h.1, all_eraseKey h.2⟩
  · rename_i hb
    rw [Memory.wf, Bool.and_eq_true]
    exact ⟨risingKeys_insertKey h.1, all_insertKey (by simpa using ⟨a.isLt, hb⟩) h.2⟩

/-- A store of bytes keeps the canonical form. -/
theorem wf_writeBytes {m : Memory} (h : m.wf = true) (a : PAddr) (n : Nat) (v : BitVec (8 * n)) (mask : BitVec n) :
    (m.writeBytes a n v mask).wf = true := by
  induction n generalizing m a with
  | zero => exact h
  | succ n ih =>
    simp only [Memory.writeBytes]
    apply ih
    split
    · exact wf_write h a _
    · exact h

/-- A store of a list of bytes keeps the canonical form. -/
theorem wf_writeList {m : Memory} (h : m.wf = true) (a : PAddr) (l : List Byte) : (m.writeList a l).wf = true := by
  induction l generalizing m a with
  | nil => exact h
  | cons b t ih => exact ih (wf_write h a b) _

/-- The byte read after a byte store. -/
theorem read_write {m : Memory} (h : m.wf = true) (a c : PAddr) (b : Byte) :
    (m.write a b).read c = if c = a then b else m.read c := by
  rw [Memory.wf, Bool.and_eq_true] at h
  unfold Memory.write Memory.read
  by_cases hb : b = blank
  · simp only [hb, if_true, lookupKey_eraseKey h.1, BitVec.toNat_inj]
    split <;> simp
  · simp only [hb, if_false, lookupKey_insertKey, BitVec.toNat_inj]
    split <;> simp

/-- The byte read after a store of masked bytes. -/
theorem read_writeBytes {m : Memory} (h : m.wf = true) (a c : PAddr) (n : Nat) (hn : n ≤ 2 ^ 36) (v : BitVec (8 * n))
    (mask : BitVec n) :
    (m.writeBytes a n v mask).read c =
      if (c - a).toNat < n ∧ mask.getLsbD (c - a).toNat then v.extractLsb' (8 * (c - a).toNat) 8 else m.read c := by
  induction n generalizing m a with
  | zero => simp [Memory.writeBytes]
  | succ n ih =>
    simp only [Memory.writeBytes]
    have hw : (if mask.getLsbD 0 = true then m.write a (v.setWidth 8) else m).wf = true := by
      split
      · exact wf_write h a _
      · exact h
    rw [ih hw (a + 1) (by omega)]
    by_cases hc : c = a
    · subst hc
      have h1 : (c - (c + 1)).toNat = 2 ^ 36 - 1 := by
        have : c - (c + 1) = BitVec.ofNat 36 (2 ^ 36 - 1) := by bv_omega
        rw [this]; rfl
      have h2 : ¬ ((c - (c + 1)).toNat < n) := by omega
      have h3 : (c - c).toNat = 0 := by simp
      simp only [h2, false_and, if_false, h3, Nat.zero_lt_succ, true_and, Nat.mul_zero]
      split
      · simp only [read_write h, if_true]
        ext i hi; simp [BitVec.getElem_setWidth, BitVec.getElem_extractLsb']
      · rfl
    · have h1 : (c - a).toNat = (c - (a + 1)).toNat + 1 := by bv_omega
      have h4 : (if mask.getLsbD 0 = true then m.write a (v.setWidth 8) else m).read c = m.read c := by
        split
        · rw [read_write h, if_neg hc]
        · rfl
      rw [h1, h4]
      generalize (c - (a + 1)).toNat = i
      simp only [Nat.add_lt_add_iff_right]
      by_cases hi : i < n
      · have h5 : (mask.extractLsb' 1 n).getLsbD i = mask.getLsbD (i + 1) := by
          simp [hi, Nat.add_comm]
        rw [h5]
        split
        · ext j hj
          simp only [BitVec.getElem_extractLsb', BitVec.getLsbD_extractLsb']
          have : 8 * i + j < 8 * n := by omega
          simp only [this, decide_true, Bool.true_and]
          congr 1; omega
        · rfl
      · simp [hi]

end Memory

end Sys2Proof.Machine
end

