-- ==== Sys2Proof/Laws/State.lean ====
section
/-! SUPPORT. One lemma for each field under each setter of `State`, and each named update as a setter: `simp` then reads
any field of any chain of updates. -/

namespace Sys2Proof.Machine

section Regs
variable (s : State) (x : Vector Word 32)
@[simp] theorem State.setRegs_regs : (s.setRegs x).regs = x := rfl
@[simp] theorem State.setRegs_pc : (s.setRegs x).pc = s.pc := rfl
@[simp] theorem State.setRegs_cpsr : (s.setRegs x).cpsr = s.cpsr := rfl
@[simp] theorem State.setRegs_spsr : (s.setRegs x).spsr = s.spsr := rfl
@[simp] theorem State.setRegs_acc0 : (s.setRegs x).acc0 = s.acc0 := rfl
@[simp] theorem State.setRegs_cp15 : (s.setRegs x).cp15 = s.cp15 := rfl
@[simp] theorem State.setRegs_pmu : (s.setRegs x).pmu = s.pmu := rfl
@[simp] theorem State.setRegs_clk : (s.setRegs x).clk = s.clk := rfl
@[simp] theorem State.setRegs_debug : (s.setRegs x).dbg = s.dbg := rfl
@[simp] theorem State.setRegs_trace : (s.setRegs x).trace = s.trace := rfl
@[simp] theorem State.setRegs_jtag : (s.setRegs x).jtag = s.jtag := rfl
@[simp] theorem State.setRegs_errlog : (s.setRegs x).errlog = s.errlog := rfl
@[simp] theorem State.setRegs_mem : (s.setRegs x).mem = s.mem := rfl
@[simp] theorem State.setRegs_tlbs : (s.setRegs x).tlbs = s.tlbs := rfl
@[simp] theorem State.setRegs_caches : (s.setRegs x).caches = s.caches := rfl
@[simp] theorem State.setRegs_ext : (s.setRegs x).ext = s.ext := rfl
@[simp] theorem State.setRegs_run : (s.setRegs x).run = s.run := rfl
@[simp] theorem State.setRegs_cfg : (s.setRegs x).cfg = s.cfg := rfl
@[simp] theorem State.setRegs_setRegs (y : Vector Word 32) : (s.setRegs x).setRegs y = s.setRegs y := rfl
@[simp] theorem State.setRegs_self : s.setRegs s.regs = s := rfl
end Regs

section Pc
variable (s : State) (x : Word)
@[simp] theorem State.setPc_regs : (s.setPc x).regs = s.regs := rfl
@[simp] theorem State.setPc_pc : (s.setPc x).pc = x := rfl
@[simp] theorem State.setPc_cpsr : (s.setPc x).cpsr = s.cpsr := rfl
@[simp] theorem State.setPc_spsr : (s.setPc x).spsr = s.spsr := rfl
@[simp] theorem State.setPc_acc0 : (s.setPc x).acc0 = s.acc0 := rfl
@[simp] theorem State.setPc_cp15 : (s.setPc x).cp15 = s.cp15 := rfl
@[simp] theorem State.setPc_pmu : (s.setPc x).pmu = s.pmu := rfl
@[simp] theorem State.setPc_clk : (s.setPc x).clk = s.clk := rfl
@[simp] theorem State.setPc_debug : (s.setPc x).dbg = s.dbg := rfl
@[simp] theorem State.setPc_trace : (s.setPc x).trace = s.trace := rfl
@[simp] theorem State.setPc_jtag : (s.setPc x).jtag = s.jtag := rfl
@[simp] theorem State.setPc_errlog : (s.setPc x).errlog = s.errlog := rfl
@[simp] theorem State.setPc_mem : (s.setPc x).mem = s.mem := rfl
@[simp] theorem State.setPc_tlbs : (s.setPc x).tlbs = s.tlbs := rfl
@[simp] theorem State.setPc_caches : (s.setPc x).caches = s.caches := rfl
@[simp] theorem State.setPc_ext : (s.setPc x).ext = s.ext := rfl
@[simp] theorem State.setPc_run : (s.setPc x).run = s.run := rfl
@[simp] theorem State.setPc_cfg : (s.setPc x).cfg = s.cfg := rfl
@[simp] theorem State.setPc_setPc (y : Word) : (s.setPc x).setPc y = s.setPc y := rfl
@[simp] theorem State.setPc_self : s.setPc s.pc = s := rfl
end Pc

section Cpsr
variable (s : State) (x : Psr)
@[simp] theorem State.setCpsr_regs : (s.setCpsr x).regs = s.regs := rfl
@[simp] theorem State.setCpsr_pc : (s.setCpsr x).pc = s.pc := rfl
@[simp] theorem State.setCpsr_cpsr : (s.setCpsr x).cpsr = x := rfl
@[simp] theorem State.setCpsr_spsr : (s.setCpsr x).spsr = s.spsr := rfl
@[simp] theorem State.setCpsr_acc0 : (s.setCpsr x).acc0 = s.acc0 := rfl
@[simp] theorem State.setCpsr_cp15 : (s.setCpsr x).cp15 = s.cp15 := rfl
@[simp] theorem State.setCpsr_pmu : (s.setCpsr x).pmu = s.pmu := rfl
@[simp] theorem State.setCpsr_clk : (s.setCpsr x).clk = s.clk := rfl
@[simp] theorem State.setCpsr_debug : (s.setCpsr x).dbg = s.dbg := rfl
@[simp] theorem State.setCpsr_trace : (s.setCpsr x).trace = s.trace := rfl
@[simp] theorem State.setCpsr_jtag : (s.setCpsr x).jtag = s.jtag := rfl
@[simp] theorem State.setCpsr_errlog : (s.setCpsr x).errlog = s.errlog := rfl
@[simp] theorem State.setCpsr_mem : (s.setCpsr x).mem = s.mem := rfl
@[simp] theorem State.setCpsr_tlbs : (s.setCpsr x).tlbs = s.tlbs := rfl
@[simp] theorem State.setCpsr_caches : (s.setCpsr x).caches = s.caches := rfl
@[simp] theorem State.setCpsr_ext : (s.setCpsr x).ext = s.ext := rfl
@[simp] theorem State.setCpsr_run : (s.setCpsr x).run = s.run := rfl
@[simp] theorem State.setCpsr_cfg : (s.setCpsr x).cfg = s.cfg := rfl
@[simp] theorem State.setCpsr_setCpsr (y : Psr) : (s.setCpsr x).setCpsr y = s.setCpsr y := rfl
@[simp] theorem State.setCpsr_self : s.setCpsr s.cpsr = s := rfl
end Cpsr

section Spsr
variable (s : State) (x : Vector Psr 6)
@[simp] theorem State.setSpsr_regs : (s.setSpsr x).regs = s.regs := rfl
@[simp] theorem State.setSpsr_pc : (s.setSpsr x).pc = s.pc := rfl
@[simp] theorem State.setSpsr_cpsr : (s.setSpsr x).cpsr = s.cpsr := rfl
@[simp] theorem State.setSpsr_spsr : (s.setSpsr x).spsr = x := rfl
@[simp] theorem State.setSpsr_acc0 : (s.setSpsr x).acc0 = s.acc0 := rfl
@[simp] theorem State.setSpsr_cp15 : (s.setSpsr x).cp15 = s.cp15 := rfl
@[simp] theorem State.setSpsr_pmu : (s.setSpsr x).pmu = s.pmu := rfl
@[simp] theorem State.setSpsr_clk : (s.setSpsr x).clk = s.clk := rfl
@[simp] theorem State.setSpsr_debug : (s.setSpsr x).dbg = s.dbg := rfl
@[simp] theorem State.setSpsr_trace : (s.setSpsr x).trace = s.trace := rfl
@[simp] theorem State.setSpsr_jtag : (s.setSpsr x).jtag = s.jtag := rfl
@[simp] theorem State.setSpsr_errlog : (s.setSpsr x).errlog = s.errlog := rfl
@[simp] theorem State.setSpsr_mem : (s.setSpsr x).mem = s.mem := rfl
@[simp] theorem State.setSpsr_tlbs : (s.setSpsr x).tlbs = s.tlbs := rfl
@[simp] theorem State.setSpsr_caches : (s.setSpsr x).caches = s.caches := rfl
@[simp] theorem State.setSpsr_ext : (s.setSpsr x).ext = s.ext := rfl
@[simp] theorem State.setSpsr_run : (s.setSpsr x).run = s.run := rfl
@[simp] theorem State.setSpsr_cfg : (s.setSpsr x).cfg = s.cfg := rfl
@[simp] theorem State.setSpsr_setSpsr (y : Vector Psr 6) : (s.setSpsr x).setSpsr y = s.setSpsr y := rfl
@[simp] theorem State.setSpsr_self : s.setSpsr s.spsr = s := rfl
end Spsr

section Acc0
variable (s : State) (x : BitVec 40)
@[simp] theorem State.setAcc0_regs : (s.setAcc0 x).regs = s.regs := rfl
@[simp] theorem State.setAcc0_pc : (s.setAcc0 x).pc = s.pc := rfl
@[simp] theorem State.setAcc0_cpsr : (s.setAcc0 x).cpsr = s.cpsr := rfl
@[simp] theorem State.setAcc0_spsr : (s.setAcc0 x).spsr = s.spsr := rfl
@[simp] theorem State.setAcc0_acc0 : (s.setAcc0 x).acc0 = x := rfl
@[simp] theorem State.setAcc0_cp15 : (s.setAcc0 x).cp15 = s.cp15 := rfl
@[simp] theorem State.setAcc0_pmu : (s.setAcc0 x).pmu = s.pmu := rfl
@[simp] theorem State.setAcc0_clk : (s.setAcc0 x).clk = s.clk := rfl
@[simp] theorem State.setAcc0_debug : (s.setAcc0 x).dbg = s.dbg := rfl
@[simp] theorem State.setAcc0_trace : (s.setAcc0 x).trace = s.trace := rfl
@[simp] theorem State.setAcc0_jtag : (s.setAcc0 x).jtag = s.jtag := rfl
@[simp] theorem State.setAcc0_errlog : (s.setAcc0 x).errlog = s.errlog := rfl
@[simp] theorem State.setAcc0_mem : (s.setAcc0 x).mem = s.mem := rfl
@[simp] theorem State.setAcc0_tlbs : (s.setAcc0 x).tlbs = s.tlbs := rfl
@[simp] theorem State.setAcc0_caches : (s.setAcc0 x).caches = s.caches := rfl
@[simp] theorem State.setAcc0_ext : (s.setAcc0 x).ext = s.ext := rfl
@[simp] theorem State.setAcc0_run : (s.setAcc0 x).run = s.run := rfl
@[simp] theorem State.setAcc0_cfg : (s.setAcc0 x).cfg = s.cfg := rfl
@[simp] theorem State.setAcc0_setAcc0 (y : BitVec 40) : (s.setAcc0 x).setAcc0 y = s.setAcc0 y := rfl
@[simp] theorem State.setAcc0_self : s.setAcc0 s.acc0 = s := rfl
end Acc0

section Cp15
variable (s : State) (x : Cp15)
@[simp] theorem State.setCp15_regs : (s.setCp15 x).regs = s.regs := rfl
@[simp] theorem State.setCp15_pc : (s.setCp15 x).pc = s.pc := rfl
@[simp] theorem State.setCp15_cpsr : (s.setCp15 x).cpsr = s.cpsr := rfl
@[simp] theorem State.setCp15_spsr : (s.setCp15 x).spsr = s.spsr := rfl
@[simp] theorem State.setCp15_acc0 : (s.setCp15 x).acc0 = s.acc0 := rfl
@[simp] theorem State.setCp15_cp15 : (s.setCp15 x).cp15 = x := rfl
@[simp] theorem State.setCp15_pmu : (s.setCp15 x).pmu = s.pmu := rfl
@[simp] theorem State.setCp15_clk : (s.setCp15 x).clk = s.clk := rfl
@[simp] theorem State.setCp15_debug : (s.setCp15 x).dbg = s.dbg := rfl
@[simp] theorem State.setCp15_trace : (s.setCp15 x).trace = s.trace := rfl
@[simp] theorem State.setCp15_jtag : (s.setCp15 x).jtag = s.jtag := rfl
@[simp] theorem State.setCp15_errlog : (s.setCp15 x).errlog = s.errlog := rfl
@[simp] theorem State.setCp15_mem : (s.setCp15 x).mem = s.mem := rfl
@[simp] theorem State.setCp15_tlbs : (s.setCp15 x).tlbs = s.tlbs := rfl
@[simp] theorem State.setCp15_caches : (s.setCp15 x).caches = s.caches := rfl
@[simp] theorem State.setCp15_ext : (s.setCp15 x).ext = s.ext := rfl
@[simp] theorem State.setCp15_run : (s.setCp15 x).run = s.run := rfl
@[simp] theorem State.setCp15_cfg : (s.setCp15 x).cfg = s.cfg := rfl
@[simp] theorem State.setCp15_setCp15 (y : Cp15) : (s.setCp15 x).setCp15 y = s.setCp15 y := rfl
@[simp] theorem State.setCp15_self : s.setCp15 s.cp15 = s := rfl
end Cp15

section Pmu
variable (s : State) (x : Pmu)
@[simp] theorem State.setPmu_regs : (s.setPmu x).regs = s.regs := rfl
@[simp] theorem State.setPmu_pc : (s.setPmu x).pc = s.pc := rfl
@[simp] theorem State.setPmu_cpsr : (s.setPmu x).cpsr = s.cpsr := rfl
@[simp] theorem State.setPmu_spsr : (s.setPmu x).spsr = s.spsr := rfl
@[simp] theorem State.setPmu_acc0 : (s.setPmu x).acc0 = s.acc0 := rfl
@[simp] theorem State.setPmu_cp15 : (s.setPmu x).cp15 = s.cp15 := rfl
@[simp] theorem State.setPmu_pmu : (s.setPmu x).pmu = x := rfl
@[simp] theorem State.setPmu_clk : (s.setPmu x).clk = s.clk := rfl
@[simp] theorem State.setPmu_debug : (s.setPmu x).dbg = s.dbg := rfl
@[simp] theorem State.setPmu_trace : (s.setPmu x).trace = s.trace := rfl
@[simp] theorem State.setPmu_jtag : (s.setPmu x).jtag = s.jtag := rfl
@[simp] theorem State.setPmu_errlog : (s.setPmu x).errlog = s.errlog := rfl
@[simp] theorem State.setPmu_mem : (s.setPmu x).mem = s.mem := rfl
@[simp] theorem State.setPmu_tlbs : (s.setPmu x).tlbs = s.tlbs := rfl
@[simp] theorem State.setPmu_caches : (s.setPmu x).caches = s.caches := rfl
@[simp] theorem State.setPmu_ext : (s.setPmu x).ext = s.ext := rfl
@[simp] theorem State.setPmu_run : (s.setPmu x).run = s.run := rfl
@[simp] theorem State.setPmu_cfg : (s.setPmu x).cfg = s.cfg := rfl
@[simp] theorem State.setPmu_setPmu (y : Pmu) : (s.setPmu x).setPmu y = s.setPmu y := rfl
@[simp] theorem State.setPmu_self : s.setPmu s.pmu = s := rfl
end Pmu

section Clk
variable (s : State) (x : Clk)
@[simp] theorem State.setClk_regs : (s.setClk x).regs = s.regs := rfl
@[simp] theorem State.setClk_pc : (s.setClk x).pc = s.pc := rfl
@[simp] theorem State.setClk_cpsr : (s.setClk x).cpsr = s.cpsr := rfl
@[simp] theorem State.setClk_spsr : (s.setClk x).spsr = s.spsr := rfl
@[simp] theorem State.setClk_acc0 : (s.setClk x).acc0 = s.acc0 := rfl
@[simp] theorem State.setClk_cp15 : (s.setClk x).cp15 = s.cp15 := rfl
@[simp] theorem State.setClk_pmu : (s.setClk x).pmu = s.pmu := rfl
@[simp] theorem State.setClk_clk : (s.setClk x).clk = x := rfl
@[simp] theorem State.setClk_debug : (s.setClk x).dbg = s.dbg := rfl
@[simp] theorem State.setClk_trace : (s.setClk x).trace = s.trace := rfl
@[simp] theorem State.setClk_jtag : (s.setClk x).jtag = s.jtag := rfl
@[simp] theorem State.setClk_errlog : (s.setClk x).errlog = s.errlog := rfl
@[simp] theorem State.setClk_mem : (s.setClk x).mem = s.mem := rfl
@[simp] theorem State.setClk_tlbs : (s.setClk x).tlbs = s.tlbs := rfl
@[simp] theorem State.setClk_caches : (s.setClk x).caches = s.caches := rfl
@[simp] theorem State.setClk_ext : (s.setClk x).ext = s.ext := rfl
@[simp] theorem State.setClk_run : (s.setClk x).run = s.run := rfl
@[simp] theorem State.setClk_cfg : (s.setClk x).cfg = s.cfg := rfl
@[simp] theorem State.setClk_setClk (y : Clk) : (s.setClk x).setClk y = s.setClk y := rfl
@[simp] theorem State.setClk_self : s.setClk s.clk = s := rfl
end Clk

section Debug
variable (s : State) (x : Debug)
@[simp] theorem State.setDebug_regs : (s.setDebug x).regs = s.regs := rfl
@[simp] theorem State.setDebug_pc : (s.setDebug x).pc = s.pc := rfl
@[simp] theorem State.setDebug_cpsr : (s.setDebug x).cpsr = s.cpsr := rfl
@[simp] theorem State.setDebug_spsr : (s.setDebug x).spsr = s.spsr := rfl
@[simp] theorem State.setDebug_acc0 : (s.setDebug x).acc0 = s.acc0 := rfl
@[simp] theorem State.setDebug_cp15 : (s.setDebug x).cp15 = s.cp15 := rfl
@[simp] theorem State.setDebug_pmu : (s.setDebug x).pmu = s.pmu := rfl
@[simp] theorem State.setDebug_clk : (s.setDebug x).clk = s.clk := rfl
@[simp] theorem State.setDebug_debug : (s.setDebug x).dbg = x := rfl
@[simp] theorem State.setDebug_trace : (s.setDebug x).trace = s.trace := rfl
@[simp] theorem State.setDebug_jtag : (s.setDebug x).jtag = s.jtag := rfl
@[simp] theorem State.setDebug_errlog : (s.setDebug x).errlog = s.errlog := rfl
@[simp] theorem State.setDebug_mem : (s.setDebug x).mem = s.mem := rfl
@[simp] theorem State.setDebug_tlbs : (s.setDebug x).tlbs = s.tlbs := rfl
@[simp] theorem State.setDebug_caches : (s.setDebug x).caches = s.caches := rfl
@[simp] theorem State.setDebug_ext : (s.setDebug x).ext = s.ext := rfl
@[simp] theorem State.setDebug_run : (s.setDebug x).run = s.run := rfl
@[simp] theorem State.setDebug_cfg : (s.setDebug x).cfg = s.cfg := rfl
@[simp] theorem State.setDebug_setDebug (y : Debug) : (s.setDebug x).setDebug y = s.setDebug y := rfl
@[simp] theorem State.setDebug_self : s.setDebug s.dbg = s := rfl
end Debug

section Trace
variable (s : State) (x : Trace)
@[simp] theorem State.setTrace_regs : (s.setTrace x).regs = s.regs := rfl
@[simp] theorem State.setTrace_pc : (s.setTrace x).pc = s.pc := rfl
@[simp] theorem State.setTrace_cpsr : (s.setTrace x).cpsr = s.cpsr := rfl
@[simp] theorem State.setTrace_spsr : (s.setTrace x).spsr = s.spsr := rfl
@[simp] theorem State.setTrace_acc0 : (s.setTrace x).acc0 = s.acc0 := rfl
@[simp] theorem State.setTrace_cp15 : (s.setTrace x).cp15 = s.cp15 := rfl
@[simp] theorem State.setTrace_pmu : (s.setTrace x).pmu = s.pmu := rfl
@[simp] theorem State.setTrace_clk : (s.setTrace x).clk = s.clk := rfl
@[simp] theorem State.setTrace_debug : (s.setTrace x).dbg = s.dbg := rfl
@[simp] theorem State.setTrace_trace : (s.setTrace x).trace = x := rfl
@[simp] theorem State.setTrace_jtag : (s.setTrace x).jtag = s.jtag := rfl
@[simp] theorem State.setTrace_errlog : (s.setTrace x).errlog = s.errlog := rfl
@[simp] theorem State.setTrace_mem : (s.setTrace x).mem = s.mem := rfl
@[simp] theorem State.setTrace_tlbs : (s.setTrace x).tlbs = s.tlbs := rfl
@[simp] theorem State.setTrace_caches : (s.setTrace x).caches = s.caches := rfl
@[simp] theorem State.setTrace_ext : (s.setTrace x).ext = s.ext := rfl
@[simp] theorem State.setTrace_run : (s.setTrace x).run = s.run := rfl
@[simp] theorem State.setTrace_cfg : (s.setTrace x).cfg = s.cfg := rfl
@[simp] theorem State.setTrace_setTrace (y : Trace) : (s.setTrace x).setTrace y = s.setTrace y := rfl
@[simp] theorem State.setTrace_self : s.setTrace s.trace = s := rfl
end Trace

section Jtag
variable (s : State) (x : Jtag)
@[simp] theorem State.setJtag_regs : (s.setJtag x).regs = s.regs := rfl
@[simp] theorem State.setJtag_pc : (s.setJtag x).pc = s.pc := rfl
@[simp] theorem State.setJtag_cpsr : (s.setJtag x).cpsr = s.cpsr := rfl
@[simp] theorem State.setJtag_spsr : (s.setJtag x).spsr = s.spsr := rfl
@[simp] theorem State.setJtag_acc0 : (s.setJtag x).acc0 = s.acc0 := rfl
@[simp] theorem State.setJtag_cp15 : (s.setJtag x).cp15 = s.cp15 := rfl
@[simp] theorem State.setJtag_pmu : (s.setJtag x).pmu = s.pmu := rfl
@[simp] theorem State.setJtag_clk : (s.setJtag x).clk = s.clk := rfl
@[simp] theorem State.setJtag_debug : (s.setJtag x).dbg = s.dbg := rfl
@[simp] theorem State.setJtag_trace : (s.setJtag x).trace = s.trace := rfl
@[simp] theorem State.setJtag_jtag : (s.setJtag x).jtag = x := rfl
@[simp] theorem State.setJtag_errlog : (s.setJtag x).errlog = s.errlog := rfl
@[simp] theorem State.setJtag_mem : (s.setJtag x).mem = s.mem := rfl
@[simp] theorem State.setJtag_tlbs : (s.setJtag x).tlbs = s.tlbs := rfl
@[simp] theorem State.setJtag_caches : (s.setJtag x).caches = s.caches := rfl
@[simp] theorem State.setJtag_ext : (s.setJtag x).ext = s.ext := rfl
@[simp] theorem State.setJtag_run : (s.setJtag x).run = s.run := rfl
@[simp] theorem State.setJtag_cfg : (s.setJtag x).cfg = s.cfg := rfl
@[simp] theorem State.setJtag_setJtag (y : Jtag) : (s.setJtag x).setJtag y = s.setJtag y := rfl
@[simp] theorem State.setJtag_self : s.setJtag s.jtag = s := rfl
end Jtag

section Errlog
variable (s : State) (x : ErrLog)
@[simp] theorem State.setErrlog_regs : (s.setErrlog x).regs = s.regs := rfl
@[simp] theorem State.setErrlog_pc : (s.setErrlog x).pc = s.pc := rfl
@[simp] theorem State.setErrlog_cpsr : (s.setErrlog x).cpsr = s.cpsr := rfl
@[simp] theorem State.setErrlog_spsr : (s.setErrlog x).spsr = s.spsr := rfl
@[simp] theorem State.setErrlog_acc0 : (s.setErrlog x).acc0 = s.acc0 := rfl
@[simp] theorem State.setErrlog_cp15 : (s.setErrlog x).cp15 = s.cp15 := rfl
@[simp] theorem State.setErrlog_pmu : (s.setErrlog x).pmu = s.pmu := rfl
@[simp] theorem State.setErrlog_clk : (s.setErrlog x).clk = s.clk := rfl
@[simp] theorem State.setErrlog_debug : (s.setErrlog x).dbg = s.dbg := rfl
@[simp] theorem State.setErrlog_trace : (s.setErrlog x).trace = s.trace := rfl
@[simp] theorem State.setErrlog_jtag : (s.setErrlog x).jtag = s.jtag := rfl
@[simp] theorem State.setErrlog_errlog : (s.setErrlog x).errlog = x := rfl
@[simp] theorem State.setErrlog_mem : (s.setErrlog x).mem = s.mem := rfl
@[simp] theorem State.setErrlog_tlbs : (s.setErrlog x).tlbs = s.tlbs := rfl
@[simp] theorem State.setErrlog_caches : (s.setErrlog x).caches = s.caches := rfl
@[simp] theorem State.setErrlog_ext : (s.setErrlog x).ext = s.ext := rfl
@[simp] theorem State.setErrlog_run : (s.setErrlog x).run = s.run := rfl
@[simp] theorem State.setErrlog_cfg : (s.setErrlog x).cfg = s.cfg := rfl
@[simp] theorem State.setErrlog_setErrlog (y : ErrLog) : (s.setErrlog x).setErrlog y = s.setErrlog y := rfl
@[simp] theorem State.setErrlog_self : s.setErrlog s.errlog = s := rfl
end Errlog

section Mem
variable (s : State) (x : Memory)
@[simp] theorem State.setMem_regs : (s.setMem x).regs = s.regs := rfl
@[simp] theorem State.setMem_pc : (s.setMem x).pc = s.pc := rfl
@[simp] theorem State.setMem_cpsr : (s.setMem x).cpsr = s.cpsr := rfl
@[simp] theorem State.setMem_spsr : (s.setMem x).spsr = s.spsr := rfl
@[simp] theorem State.setMem_acc0 : (s.setMem x).acc0 = s.acc0 := rfl
@[simp] theorem State.setMem_cp15 : (s.setMem x).cp15 = s.cp15 := rfl
@[simp] theorem State.setMem_pmu : (s.setMem x).pmu = s.pmu := rfl
@[simp] theorem State.setMem_clk : (s.setMem x).clk = s.clk := rfl
@[simp] theorem State.setMem_debug : (s.setMem x).dbg = s.dbg := rfl
@[simp] theorem State.setMem_trace : (s.setMem x).trace = s.trace := rfl
@[simp] theorem State.setMem_jtag : (s.setMem x).jtag = s.jtag := rfl
@[simp] theorem State.setMem_errlog : (s.setMem x).errlog = s.errlog := rfl
@[simp] theorem State.setMem_mem : (s.setMem x).mem = x := rfl
@[simp] theorem State.setMem_tlbs : (s.setMem x).tlbs = s.tlbs := rfl
@[simp] theorem State.setMem_caches : (s.setMem x).caches = s.caches := rfl
@[simp] theorem State.setMem_ext : (s.setMem x).ext = s.ext := rfl
@[simp] theorem State.setMem_run : (s.setMem x).run = s.run := rfl
@[simp] theorem State.setMem_cfg : (s.setMem x).cfg = s.cfg := rfl
@[simp] theorem State.setMem_setMem (y : Memory) : (s.setMem x).setMem y = s.setMem y := rfl
@[simp] theorem State.setMem_self : s.setMem s.mem = s := rfl
end Mem

section Tlbs
variable (s : State) (x : Tlbs)
@[simp] theorem State.setTlbs_regs : (s.setTlbs x).regs = s.regs := rfl
@[simp] theorem State.setTlbs_pc : (s.setTlbs x).pc = s.pc := rfl
@[simp] theorem State.setTlbs_cpsr : (s.setTlbs x).cpsr = s.cpsr := rfl
@[simp] theorem State.setTlbs_spsr : (s.setTlbs x).spsr = s.spsr := rfl
@[simp] theorem State.setTlbs_acc0 : (s.setTlbs x).acc0 = s.acc0 := rfl
@[simp] theorem State.setTlbs_cp15 : (s.setTlbs x).cp15 = s.cp15 := rfl
@[simp] theorem State.setTlbs_pmu : (s.setTlbs x).pmu = s.pmu := rfl
@[simp] theorem State.setTlbs_clk : (s.setTlbs x).clk = s.clk := rfl
@[simp] theorem State.setTlbs_debug : (s.setTlbs x).dbg = s.dbg := rfl
@[simp] theorem State.setTlbs_trace : (s.setTlbs x).trace = s.trace := rfl
@[simp] theorem State.setTlbs_jtag : (s.setTlbs x).jtag = s.jtag := rfl
@[simp] theorem State.setTlbs_errlog : (s.setTlbs x).errlog = s.errlog := rfl
@[simp] theorem State.setTlbs_mem : (s.setTlbs x).mem = s.mem := rfl
@[simp] theorem State.setTlbs_tlbs : (s.setTlbs x).tlbs = x := rfl
@[simp] theorem State.setTlbs_caches : (s.setTlbs x).caches = s.caches := rfl
@[simp] theorem State.setTlbs_ext : (s.setTlbs x).ext = s.ext := rfl
@[simp] theorem State.setTlbs_run : (s.setTlbs x).run = s.run := rfl
@[simp] theorem State.setTlbs_cfg : (s.setTlbs x).cfg = s.cfg := rfl
@[simp] theorem State.setTlbs_setTlbs (y : Tlbs) : (s.setTlbs x).setTlbs y = s.setTlbs y := rfl
@[simp] theorem State.setTlbs_self : s.setTlbs s.tlbs = s := rfl
end Tlbs

section Caches
variable (s : State) (x : Caches)
@[simp] theorem State.setCaches_regs : (s.setCaches x).regs = s.regs := rfl
@[simp] theorem State.setCaches_pc : (s.setCaches x).pc = s.pc := rfl
@[simp] theorem State.setCaches_cpsr : (s.setCaches x).cpsr = s.cpsr := rfl
@[simp] theorem State.setCaches_spsr : (s.setCaches x).spsr = s.spsr := rfl
@[simp] theorem State.setCaches_acc0 : (s.setCaches x).acc0 = s.acc0 := rfl
@[simp] theorem State.setCaches_cp15 : (s.setCaches x).cp15 = s.cp15 := rfl
@[simp] theorem State.setCaches_pmu : (s.setCaches x).pmu = s.pmu := rfl
@[simp] theorem State.setCaches_clk : (s.setCaches x).clk = s.clk := rfl
@[simp] theorem State.setCaches_debug : (s.setCaches x).dbg = s.dbg := rfl
@[simp] theorem State.setCaches_trace : (s.setCaches x).trace = s.trace := rfl
@[simp] theorem State.setCaches_jtag : (s.setCaches x).jtag = s.jtag := rfl
@[simp] theorem State.setCaches_errlog : (s.setCaches x).errlog = s.errlog := rfl
@[simp] theorem State.setCaches_mem : (s.setCaches x).mem = s.mem := rfl
@[simp] theorem State.setCaches_tlbs : (s.setCaches x).tlbs = s.tlbs := rfl
@[simp] theorem State.setCaches_caches : (s.setCaches x).caches = x := rfl
@[simp] theorem State.setCaches_ext : (s.setCaches x).ext = s.ext := rfl
@[simp] theorem State.setCaches_run : (s.setCaches x).run = s.run := rfl
@[simp] theorem State.setCaches_cfg : (s.setCaches x).cfg = s.cfg := rfl
@[simp] theorem State.setCaches_setCaches (y : Caches) : (s.setCaches x).setCaches y = s.setCaches y := rfl
@[simp] theorem State.setCaches_self : s.setCaches s.caches = s := rfl
end Caches

section Ext
variable (s : State) (x : External)
@[simp] theorem State.setExt_regs : (s.setExt x).regs = s.regs := rfl
@[simp] theorem State.setExt_pc : (s.setExt x).pc = s.pc := rfl
@[simp] theorem State.setExt_cpsr : (s.setExt x).cpsr = s.cpsr := rfl
@[simp] theorem State.setExt_spsr : (s.setExt x).spsr = s.spsr := rfl
@[simp] theorem State.setExt_acc0 : (s.setExt x).acc0 = s.acc0 := rfl
@[simp] theorem State.setExt_cp15 : (s.setExt x).cp15 = s.cp15 := rfl
@[simp] theorem State.setExt_pmu : (s.setExt x).pmu = s.pmu := rfl
@[simp] theorem State.setExt_clk : (s.setExt x).clk = s.clk := rfl
@[simp] theorem State.setExt_debug : (s.setExt x).dbg = s.dbg := rfl
@[simp] theorem State.setExt_trace : (s.setExt x).trace = s.trace := rfl
@[simp] theorem State.setExt_jtag : (s.setExt x).jtag = s.jtag := rfl
@[simp] theorem State.setExt_errlog : (s.setExt x).errlog = s.errlog := rfl
@[simp] theorem State.setExt_mem : (s.setExt x).mem = s.mem := rfl
@[simp] theorem State.setExt_tlbs : (s.setExt x).tlbs = s.tlbs := rfl
@[simp] theorem State.setExt_caches : (s.setExt x).caches = s.caches := rfl
@[simp] theorem State.setExt_ext : (s.setExt x).ext = x := rfl
@[simp] theorem State.setExt_run : (s.setExt x).run = s.run := rfl
@[simp] theorem State.setExt_cfg : (s.setExt x).cfg = s.cfg := rfl
@[simp] theorem State.setExt_setExt (y : External) : (s.setExt x).setExt y = s.setExt y := rfl
@[simp] theorem State.setExt_self : s.setExt s.ext = s := rfl
end Ext

section Run
variable (s : State) (x : Run)
@[simp] theorem State.setRun_regs : (s.setRun x).regs = s.regs := rfl
@[simp] theorem State.setRun_pc : (s.setRun x).pc = s.pc := rfl
@[simp] theorem State.setRun_cpsr : (s.setRun x).cpsr = s.cpsr := rfl
@[simp] theorem State.setRun_spsr : (s.setRun x).spsr = s.spsr := rfl
@[simp] theorem State.setRun_acc0 : (s.setRun x).acc0 = s.acc0 := rfl
@[simp] theorem State.setRun_cp15 : (s.setRun x).cp15 = s.cp15 := rfl
@[simp] theorem State.setRun_pmu : (s.setRun x).pmu = s.pmu := rfl
@[simp] theorem State.setRun_clk : (s.setRun x).clk = s.clk := rfl
@[simp] theorem State.setRun_debug : (s.setRun x).dbg = s.dbg := rfl
@[simp] theorem State.setRun_trace : (s.setRun x).trace = s.trace := rfl
@[simp] theorem State.setRun_jtag : (s.setRun x).jtag = s.jtag := rfl
@[simp] theorem State.setRun_errlog : (s.setRun x).errlog = s.errlog := rfl
@[simp] theorem State.setRun_mem : (s.setRun x).mem = s.mem := rfl
@[simp] theorem State.setRun_tlbs : (s.setRun x).tlbs = s.tlbs := rfl
@[simp] theorem State.setRun_caches : (s.setRun x).caches = s.caches := rfl
@[simp] theorem State.setRun_ext : (s.setRun x).ext = s.ext := rfl
@[simp] theorem State.setRun_run : (s.setRun x).run = x := rfl
@[simp] theorem State.setRun_cfg : (s.setRun x).cfg = s.cfg := rfl
@[simp] theorem State.setRun_setRun (y : Run) : (s.setRun x).setRun y = s.setRun y := rfl
@[simp] theorem State.setRun_self : s.setRun s.run = s := rfl
end Run

/-! Named updates as setters. -/

section Updates
variable (s : State)
@[simp] theorem State.mapCpsr_eq (f : Psr → Psr) : s.mapCpsr f = s.setCpsr (f s.cpsr) := rfl
@[simp] theorem State.mapCp15_eq (f : Cp15 → Cp15) : s.mapCp15 f = s.setCp15 (f s.cp15) := rfl
@[simp] theorem State.mapDebug_eq (f : Debug → Debug) : s.mapDebug f = s.setDebug (f s.dbg) := rfl
@[simp] theorem State.mapExt_eq (f : External → External) : s.mapExt f = s.setExt (f s.ext) := rfl
@[simp] theorem State.mapCaches_eq (f : Caches → Caches) : s.mapCaches f = s.setCaches (f s.caches) := rfl
@[simp] theorem State.mapPmu_eq (f : Pmu → Pmu) : s.mapPmu f = s.setPmu (f s.pmu) := rfl
@[simp] theorem State.mapJtag_eq (f : Jtag → Jtag) : s.mapJtag f = s.setJtag (f s.jtag) := rfl
@[simp] theorem State.mapItlb_eq (f : Tlb → Tlb) : s.mapItlb f = s.setTlbs { s.tlbs with i := f s.tlbs.i } := rfl
@[simp] theorem State.mapDtlb_eq (f : Tlb → Tlb) : s.mapDtlb f = s.setTlbs { s.tlbs with d := f s.tlbs.d } := rfl
@[simp] theorem State.advance_eq : s.advance = s.setPc (s.pc + s.size) := rfl
@[simp] theorem State.withFlow_eq (f : Flow) : s.withFlow f = s.setRun { s.run with flow := f } := rfl
@[simp] theorem State.jump_eq (target : Word) (f : Flow) :
    s.jump target f = (s.setPc target).setRun { s.run with flow := f } := rfl
@[simp] theorem State.note_eq (e : BitVec 8) : s.note e = s.setRun { s.run with events := e :: s.run.events } := rfl
@[simp] theorem State.writeReg_eq (r : Reg) (v : Word) : s.writeReg r v = s.setRegs (s.regs.set (s.bank r) v) := rfl
@[simp] theorem State.writeBank_eq (m : BitVec 5) (r : Reg) (v : Word) :
    s.writeBank m r v = s.setRegs (s.regs.set (bankedRegister s.cfg.debugBanksR13 m r) v) := rfl
end Updates

end Sys2Proof.Machine
end

