-- ==== Sys2Proof/Laws/Monad.lean ====
section
/-! SUPPORT. How a meaning's body evaluates, and what a body keeps: `Keeps R m` says that from every state, however `m`
ends, it leaves a state that `R` relates to the one it began in. -/

namespace Sys2Proof.Machine

/-! ## Evaluation -/

section Evaluate
variable {α β : Type} (s : State)

theorem M.bind_apply (m : M α) (f : α → M β) :
    (m >>= f) s = match m s with
      | .ok a s' => f a s'
      | .error e s' => .error e s' := by
  cases h : m s <;> simp [bind, EStateM.bind, h]

theorem M.bind_ok {m : M α} {f : α → M β} {a : α} {s' : State} (h : m s = .ok a s') : (m >>= f) s = f a s' := by
  rw [M.bind_apply, h]

theorem M.bind_error {m : M α} {f : α → M β} {e : Stop} {s' : State} (h : m s = .error e s') :
    (m >>= f) s = .error e s' := by
  rw [M.bind_apply, h]

theorem M.map_apply (f : α → β) (m : M α) :
    (f <$> m) s = match m s with
      | .ok a s' => .ok (f a) s'
      | .error e s' => .error e s' := by
  cases h : m s <;> simp [Functor.map, EStateM.map, h]

theorem M.ite_apply (c : Prop) [Decidable c] (m n : M α) : (if c then m else n) s = if c then m s else n s := by
  split <;> rfl

@[simp] theorem M.pure_apply (a : α) : (pure a : M α) s = .ok a s := rfl
@[simp] theorem M.state_apply : M.state s = .ok s s := rfl
@[simp] theorem M.update_apply (f : State → State) : M.update f s = .ok () (f s) := rfl
@[simp] theorem M.stop_apply (e : Stop) : (M.stop e : M α) s = .error e s := rfl
@[simp] theorem M.refuse_apply (r : Refusal) : (M.refuse r : M α) s = .error (.refuse r) s := rfl
@[simp] theorem M.draw_apply (w : Nat) : M.draw w s = .ok (s.draw w).1 (s.draw w).2 := rfl
@[simp] theorem M.require_true (r : Refusal) : M.require true r s = .ok () s := rfl
@[simp] theorem M.require_false (r : Refusal) : M.require false r s = .error (.refuse r) s := rfl
@[simp] theorem M.defined_true : M.defined true s = .ok () s := rfl
@[simp] theorem M.defined_false : M.defined false s = .error .undefined s := rfl
@[simp] theorem asUser_apply : asUser s = .ok s.userMode s := rfl
@[simp] theorem setReg_apply (r : Reg) (v : Word) : setReg r v s = .ok () (s.writeReg r v) := rfl
@[simp] theorem next_apply : next s = .ok () s.advance := rfl

theorem allowed_true {c : Bool} (h : c = true) : allowed c s = .ok () s := by subst h; rfl

/-- Reading a register outside the hazard of a user-bank transfer. -/
theorem reg_ok (r : Reg) (h : s.run.userTransfer ≠ 1) : reg r s = .ok (s.readReg r) s := by
  simp [reg, State.afterUserTransfer, h]

/-- A register read is the register, or the refusal of the hazard. -/
theorem reg_cases (r : Reg) : reg r s = .ok (s.readReg r) s ∨ reg r s = .error (.refuse .bankedAfterUserTransfer) s := by
  simp only [reg]; split <;> simp

end Evaluate

/-! ## What a body keeps -/

/-- From every state, however `m` ends, `R` relates the states before and after. -/
def M.Keeps {α : Type} (R : State → State → Prop) (m : M α) : Prop :=
  ∀ s, match m s with
    | .ok _ s' => R s s'
    | .error _ s' => R s s'

/-- A relation of states that holds over steps of a body, one after another. -/
structure Follows (R : State → State → Prop) : Prop where
  refl : ∀ s, R s s
  trans : ∀ {a b c}, R a b → R b c → R a c

section Keeps
variable {α β : Type} {R : State → State → Prop}

theorem M.Keeps.ok {m : M α} (h : M.Keeps R m) {s s' : State} {a : α} (e : m s = .ok a s') : R s s' := by
  have := h s; rwa [e] at this

theorem M.Keeps.error {m : M α} (h : M.Keeps R m) {s s' : State} {x : Stop} (e : m s = .error x s') : R s s' := by
  have := h s; rwa [e] at this

theorem M.Keeps.mono {R' : State → State → Prop} {m : M α} (h : M.Keeps R m) (i : ∀ a b, R a b → R' a b) :
    M.Keeps R' m := by
  intro s
  have := h s
  cases e : m s <;> rw [e] at this <;> exact i _ _ this

theorem M.Keeps.bind (hR : Follows R) {m : M α} {f : α → M β} (h : M.Keeps R m) (k : ∀ a, M.Keeps R (f a)) :
    M.Keeps R (m >>= f) := by
  intro s
  rw [M.bind_apply]
  cases e : m s with
  | error x s1 => exact h.error e
  | ok a s1 =>
    have h1 := h.ok e
    have h2 := k a s1
    cases e2 : f a s1 with
    | error x s2 => simp only [e2] at h2 ⊢; exact hR.trans h1 h2
    | ok b s2 => simp only [e2] at h2 ⊢; exact hR.trans h1 h2

theorem M.Keeps.pure (hR : Follows R) (a : α) : M.Keeps R (Pure.pure a : M α) := fun s => hR.refl s
theorem M.Keeps.state (hR : Follows R) : M.Keeps R M.state := fun s => hR.refl s
theorem M.Keeps.stop (hR : Follows R) (e : Stop) : M.Keeps R (M.stop e : M α) := fun s => hR.refl s
theorem M.Keeps.refuse (hR : Follows R) (r : Refusal) : M.Keeps R (M.refuse r : M α) := fun s => hR.refl s
theorem M.Keeps.update {f : State → State} (h : ∀ s, R s (f s)) : M.Keeps R (M.update f) := h

theorem M.Keeps.require (hR : Follows R) (c : Bool) (r : Refusal) : M.Keeps R (M.require c r) := by
  cases c
  · exact fun s => hR.refl s
  · exact fun s => hR.refl s
theorem M.Keeps.defined (hR : Follows R) (c : Bool) : M.Keeps R (M.defined c) := by
  cases c
  · exact fun s => hR.refl s
  · exact fun s => hR.refl s
theorem M.Keeps.reg (hR : Follows R) (r : Reg) : M.Keeps R (reg r) := by
  intro s; rcases reg_cases s r with h | h <;> rw [h] <;> exact hR.refl s
theorem M.Keeps.asUser (hR : Follows R) : M.Keeps R asUser := fun s => hR.refl s

theorem M.Keeps.each (hR : Follows R) {f : α → M β} (h : ∀ a, M.Keeps R (f a)) (l : List α) :
    M.Keeps R (M.each f l) := by
  induction l with
  | nil => exact .pure hR _
  | cons a t ih => exact .bind hR (h a) fun _ => .bind hR ih fun _ => .pure hR _

theorem M.Keeps.tryAbort {m : M α} (h : M.Keeps R m) : M.Keeps R (M.tryAbort m) := by
  intro s
  have := h s
  unfold M.tryAbort
  cases e : m s with
  | ok a s' => simpa [e] using this
  | error x s' => cases x <;> simpa [e] using this

end Keeps

end Sys2Proof.Machine
end

