-- ==== Sys2Proof/Laws/Exec.lean ====
section
/-! SUPPORT. What the shared operations of the meanings answer: operands, the frame of an instruction, addresses. -/

namespace Sys2Proof.Machine

section Frame
variable {α : Type} {s s' : State}

theorem finish_ok {m : M Unit} {u : Unit} (h : m s = .ok u s') : finish m s = .next s' := by simp [finish, h]

theorem finish_refuse {m : M Unit} {r : Refusal} (h : m s = .error (.refuse r) s') : finish m s = .refused r := by
  simp [finish, h]

theorem finish_abort {m : M Unit} {a : DataAbort} (h : m s = .error (.abort a) s') :
    finish m s = .next (s'.dataAbort a) := by simp [finish, h]

theorem finish_undefined {m : M Unit} (h : m s = .error .undefined s') (k : s'.dbg.sds = false) :
    finish m s = .next s'.undefinedInstruction := by simp [finish, h, k]

theorem runIf_holds {c : Cond} (m : M Unit) (h : s.cpsr.holds c = true) : runIf c m s = finish m s := by simp [runIf, h]

theorem runIf_fails {c : Cond} (m : M Unit) (h : s.cpsr.holds c = false) : runIf c m s = .next s.advance := by
  simp [runIf, h]

theorem runBranch_holds {c : Cond} (f : Flow) (m : M Unit) (h : s.cpsr.holds c = true) :
    runBranch c f m s = finish m s := by simp [runBranch, h]

theorem runBranch_fails {c : Cond} (f : Flow) (m : M Unit) (h : s.cpsr.holds c = false) :
    runBranch c f m s = .next (s.advance.withFlow f) := by simp [runBranch, h]

end Frame

section Operands
variable {s : State}

theorem reg_ready (h : s.Ready) (r : Reg) : reg r s = .ok (s.readReg r) s := reg_ok s r h

/-- A User register that a transfer stores is that register, R15 the instruction's address plus 12. -/
theorem storedUser_ready (h : s.Ready) (r : Reg) :
    storedUser r s = .ok (if r = 15 then s.pc + 12 else s.readBank modeUsr r) s := by
  have h' : s.afterUserTransfer = false := decide_eq_false h
  by_cases k : r = 15 <;> simp only [storedUser, k, h', if_true, if_false, Bool.false_and, Bool.false_eq_true]

/-- A read of the SPSR is the SPSR of the mode, and refuses in a mode that has none. -/
theorem readSpsr_ready (h : s.Ready) :
    readSpsr s = match spsrOf s.cpsr.m with
      | none => .error (.refuse .noSpsr) s
      | some k => .ok s.spsr[k] s := by
  have h' : s.afterUserTransfer = false := decide_eq_false h
  unfold readSpsr
  cases spsrOf s.cpsr.m <;> simp only [h', Bool.false_eq_true, if_false]

theorem shifterOperand_ready (h : s.Ready) (so : ShifterOperand) : shifterOperand so s = .ok (s.operand so) s := by
  cases so <;> simp [shifterOperand, State.operand, M.bind_apply, M.map_apply, reg_ready h]

theorem offsetTwo_ready (h : s.Ready) (off : Offset2) : offsetTwo off s = .ok (s.offsetWord off) s := by
  cases off <;> simp [offsetTwo, State.offsetWord, M.bind_apply, M.map_apply, reg_ready h]

theorem offsetThree_ready (h : s.Ready) (off : Offset3) : offsetThree off s = .ok (s.offsetSmall off) s := by
  cases off <;> simp [offsetThree, State.offsetSmall, reg_ready h]

end Operands

end Sys2Proof.Machine
end

