-- ==== Sys2Proof/Laws/Direct.lean ====
section
/-! SUPPORT. A data access with nothing between the core and memory (`State.Direct`): what it answers, and which bytes a
store changes. -/

namespace Sys2Proof.Machine

/-- The PMU notes of a data access that no cache serves. -/
def State.accessed (s : State) : State := (s.note 0x0A).note 0x0B

section Direct
variable {s : State}

theorem checkAlign_aligned {mva : Word} {n : Nat} (h : mva.toNat % n = 0) : checkAlign mva n s = .ok mva s := by
  simp [checkAlign, h]

/-- With CTRL.A clear a word access ignores the low two bits of its address (20 R193). -/
theorem checkAlign_word {mva : Word} (h : s.cp15.ctrl.align = false) :
    checkAlign mva 4 s = .ok (mva &&& 0xFFFFFFFC) s := by
  by_cases e : mva.toNat % 4 = 0
  · rw [checkAlign_aligned e]
    congr 1
    apply BitVec.eq_of_getLsbD_eq
    intro i hi
    have h0 : mva.getLsbD 0 = false := by
      rw [BitVec.getLsbD, Nat.testBit_zero]; simp; omega
    have h1 : mva.getLsbD 1 = false := by
      rw [BitVec.getLsbD, Nat.testBit_succ, Nat.testBit_zero]; simp; omega
    rcases i with _ | _ | i
    · simpa using h0
    · simpa using h1
    · have k : ∀ j < 32, 2 ≤ j → (0xFFFFFFFC : Word).getLsbD j = true := by decide
      simp only [BitVec.getLsbD_and, k (i + 2) hi (by omega), Bool.and_true]
  · simp [checkAlign, e, M.bind_apply, h]

theorem noteBreak_noDebug (h : s.dbg.dcsr.ge = false) (mva : Word) (n : Nat) (st : Bool) : s.noteBreak mva n st = s := by
  simp [State.noteBreak, State.dataBreakAt, h]

theorem locate_direct (h : s.Direct) {va mva : Word} {n : Nat} (kind : AccessKind) (user : Bool)
    (ha : checkAlign (s.remap va) n s = .ok mva s) :
    locate va n kind user s = .ok ⟨mva, mva.setWidth 36, .stronglyOrdered⟩ s := by
  simp [locate, M.bind_apply, M.map_apply, ha, locateMva, h.mmu, noteBreak_noDebug h.noDebug]

theorem drainAll_direct (h : s.caches.buf.entries = []) : drainAll s = .ok () s := by
  simp [drainAll, M.bind_apply, h]

theorem barrier_direct (h : s.caches.buf.entries = []) (hl : s.caches.l2.leaving = []) : barrier s = .ok () s := by
  simp [barrier, settleLeaving, M.bind_apply, hl, drainAll_direct h]

theorem mem_joinMvas {l : BitVec 27} {old new : List (BitVec 27)} : l ∈ joinMvas old new ↔ l ∈ old ∨ l ∈ new := by
  by_cases h : l ∈ old <;> simp [joinMvas, h]

/-- A line has been cached by an access of one of these MVAs, and not merely by table walks, pushes or other mappings. -/
theorem l2CachedBy_iff {p : BitVec 31} {mvas : List (BitVec 27)} :
    s.l2CachedBy p mvas = true ↔ s.l2On = true ∧ ∃ w x, s.l2Find p = some (w, x) ∧ ∃ m ∈ mvas, m ∈ x.mvas := by
  rcases h : s.l2Find p with _ | ⟨w, x⟩ <;> simp [State.l2CachedBy, h]

/-- An access past the L2 goes on with nothing changed, or refuses just where its own MVA has cached the line. -/
theorem l2Bypass_apply (p : BitVec 31) (mvas : List (BitVec 27)) :
    l2Bypass p mvas s = if s.l2CachedBy p mvas then .error (.refuse .cacheabilityChanged) s else .ok () s := by
  simp only [l2Bypass, M.bind_apply, M.state_apply]
  cases s.l2CachedBy p mvas <;> rfl

theorem l2Bypass_direct (h : s.cp15.ctrl.mmu = false) (p : BitVec 31) (mvas : List (BitVec 27)) :
    l2Bypass p mvas s = .ok () s := by
  simp [l2Bypass_apply, State.l2CachedBy, State.l2On, h]

theorem mayPass_direct (h : s.cp15.ctrl.mmu = false) (e : BufEntry) : e.mayPass s = .ok () s := by
  simp only [BufEntry.mayPass]
  split
  · rfl
  · exact l2Bypass_direct h _ _

theorem drainFor_direct (h : s.caches.buf.entries = []) (p : BitVec 31) : drainFor p s = .ok () s := by
  simp [drainFor, M.bind_apply, h]

theorem busAnswer_direct (h : s.ext.busErrors = []) (pline : BitVec 31) (origin : Option PAddr) :
    busAnswer pline origin s = .ok false s := by
  simp [busAnswer, M.bind_apply, h]

theorem busRead_direct (h : s.ext.busErrors = []) (pa : PAddr) (n : Nat) :
    busRead pa n s = .ok (s.mem.readBytes pa n, false) s := by
  simp [busRead, M.bind_apply, busAnswer_direct h]

theorem settleFor_direct (h : s.caches.l2.leaving = []) (p : BitVec 31) : settleFor p s = .ok () s := by
  simp [settleFor, M.bind_apply, h]

theorem busWrite_direct (h : s.ext.busErrors = []) (hl : s.caches.l2.leaving = []) (origin : Option PAddr) (pa : PAddr) (n : Nat)
    (v : BitVec (8 * n)) (mask : BitVec n) :
    busWrite origin pa n v mask s = .ok () (s.setMem (s.mem.writeBytes pa n v mask)) := by
  simp [busWrite, busPut, M.bind_apply, settleFor_direct hl, busAnswer_direct h]

theorem dFind_direct (h : s.caches.d.lines = []) (l : BitVec 27) : s.dFind l = none := by
  simp [State.dFind, h, l1Ways, findWay, lookupKey]

theorem dRead_direct (h : s.Direct) (mva : Word) (pa : PAddr) (n : Nat) (swap : Bool) :
    dRead mva pa .stronglyOrdered n swap s = .ok (s.mem.readBytes pa n) s.accessed := by
  simp [dRead, M.bind_apply, Attr.stronglyOrdered, Attr.uncached, State.dCaches, barrier_direct, h.settled, l2Bypass_direct, h.mmu,
    drainFor_direct, h.buffer, dFind_direct, h.lines, readPast, busRead_direct, h.noErrors, State.accessed, State.l2On]

/-- The stored bytes of a store that lies in one line. -/
theorem stored_line {m : Memory} (hm : m.wf = true) (pa : PAddr) (n : Nat) (hn : 0 < n) (hline : lineOffset pa + n ≤ 32)
    (v : BitVec (8 * n)) :
    Stored m (m.writeBytes (lineAddr (lineOf pa)) 32 (lineData (lineOffset pa) n v) (lineMask (lineOffset pa) n)) pa n v := by
  intro a
  rw [Memory.read_writeBytes hm _ _ _ (by norm_num)]
  have hoff : lineOffset pa = pa.toNat % 32 := by simp [lineOffset, BitVec.extractLsb'_toNat]
  have hbase : (lineAddr (lineOf pa)).toNat = pa.toNat - pa.toNat % 32 := by
    have hp := pa.isLt
    simp only [lineAddr, lineOf, BitVec.toNat_append, BitVec.extractLsb'_toNat, BitVec.toNat_ofNat, Nat.shiftRight_eq_div_pow]
    rw [Nat.zero_mod, Nat.or_zero, Nat.shiftLeft_eq, Nat.mod_eq_of_lt (by omega)]
    omega
  have hp := pa.isLt
  have ha := a.isLt
  have e1 : (a - pa).toNat = (2 ^ 36 - pa.toNat + a.toNat) % 2 ^ 36 := BitVec.toNat_sub ..
  have e2 : (a - lineAddr (lineOf pa)).toNat = (2 ^ 36 - (pa.toNat - pa.toNat % 32) + a.toNat) % 2 ^ 36 := by
    rw [BitVec.toNat_sub, hbase]
  rw [hoff] at hline ⊢
  generalize (a - lineAddr (lineOf pa)).toNat = d at e2 ⊢
  generalize (a - pa).toNat = k at e1 ⊢
  have hle : pa.toNat % 32 ≤ pa.toNat := Nat.mod_le _ _
  clear hoff hbase
  generalize pa.toNat % 32 = off at hline e2 hle ⊢
  have hbit : ∀ d < 32, (lineMask off n).getLsbD d = (decide (off ≤ d) && decide (d < off + n)) := by
    intro d hd
    simp only [lineMask, BitVec.getLsbD_ofNat, hd, decide_true, Bool.true_and]
    rw [Nat.mul_comm, Nat.testBit_two_pow_mul, Nat.testBit_two_pow_sub_one]
    by_cases h : off ≤ d
    · simp [h]; omega
    · simp [h]
  by_cases hk : k < n
  · have hd : d = k + off := by omega
    rw [if_pos ⟨by omega, by rw [hbit _ (by omega)]; simp; omega⟩, if_pos hk]
    subst hd
    ext i hi
    simp only [lineData, BitVec.getElem_extractLsb', BitVec.getLsbD_shiftLeft, BitVec.getLsbD_setWidth]
    have h1 : 8 * (k + off) + i < 256 := by omega
    have h2 : ¬ 8 * (k + off) + i < 8 * off := by omega
    have h3 : 8 * (k + off) + i - 8 * off = 8 * k + i := by omega
    simp [h1, h2, h3]
    intro; omega
  · rw [if_neg hk, if_neg]
    rintro ⟨h1, h2⟩
    rw [hbit _ h1] at h2
    simp at h2
    omega

theorem memRead_direct (h : s.Direct) {va mva : Word} {n : Nat} (ha : checkAlign (s.remap va) n s = .ok mva s) (user : Bool) :
    memRead va n user s = .ok (s.mem.readBytes (s.lane (mva.setWidth 36) n) n) s.accessed := by
  simp [memRead, M.bind_apply, locate_direct h .read user ha, dRead_direct h]

theorem dWrite_direct (h : s.Direct) (mva : Word) (pa : PAddr) (n : Nat) (v : BitVec (8 * n)) :
    dWrite mva pa .stronglyOrdered n v s =
      .ok () (s.accessed.setMem (s.mem.writeBytes (lineAddr (lineOf pa)) 32 (lineData (lineOffset pa) n v)
        (lineMask (lineOffset pa) n))) := by
  simp [dWrite, M.bind_apply, Attr.stronglyOrdered, Attr.uncached, barrier_direct, mayPass_direct, h.mmu, drainFor_direct, storeNext,
    writeNext, h.buffer, dFind_direct, h.lines, busWrite_direct, h.noErrors, h.settled, State.accessed, State.l2On]

theorem memWrite_direct (h : s.Direct) {va mva : Word} {n : Nat} (ha : checkAlign (s.remap va) n s = .ok mva s)
    (v : BitVec (8 * n)) (user : Bool) :
    memWrite va n v user s = .ok () (s.accessed.setMem (s.mem.writeBytes
      (lineAddr (lineOf (s.lane (mva.setWidth 36) n))) 32 (lineData (lineOffset (s.lane (mva.setWidth 36) n)) n v)
      (lineMask (lineOffset (s.lane (mva.setWidth 36) n)) n))) := by
  simp [memWrite, M.bind_apply, locate_direct h .write user ha, dWrite_direct h]

/-- The line place of an aligned access of 1, 2 or 4 bytes. -/
theorem lane_inLine {mva : Word} {n : Nat} (hn : n = 1 ∨ n = 2 ∨ n = 4) (ha : mva.toNat % n = 0) :
    lineOffset (s.lane (mva.setWidth 36) n) + n ≤ 32 := by
  have key : ∀ pa : PAddr, pa.toNat % n = 0 → lineOffset pa + n ≤ 32 := by
    intro pa hpa
    simp only [lineOffset, BitVec.extractLsb'_toNat, Nat.shiftRight_zero]
    rcases hn with rfl | rfl | rfl <;> omega
  have hw : (mva.setWidth 36 : PAddr).toNat = mva.toNat := by
    rw [BitVec.toNat_setWidth]; have := mva.isLt; omega
  apply key
  unfold State.lane
  split
  · rcases hn with rfl | rfl | rfl
    · simp [Nat.mod_one]
    · have : ((mva.setWidth 36 : PAddr) ^^^ 2).toNat % 2 = 0 := by
        rw [BitVec.toNat_xor, hw]
        have : (mva.toNat ^^^ (2 : PAddr).toNat) % 2 = (mva.toNat % 2) ^^^ ((2 : PAddr).toNat % 2) := Nat.xor_mod_two_pow (n := 1)
        rw [this, ha]; rfl
      simpa using this
    · simpa [hw] using ha
  · rw [hw]; exact ha

/-- The bits of a remapped address. -/
theorem pid_bit (p : BitVec 7) (q : BitVec 25) (i : Nat) :
    (p ++ q : Word).getLsbD i = if i < 25 then q.getLsbD i else p.getLsbD (i - 25) := by
  rw [BitVec.getLsbD_append]

/-- The bits of an address aligned down to a word. -/
theorem aligned_bit (v : Word) (i : Nat) : (v &&& 0xFFFFFFFC).getLsbD i = (v.getLsbD i && decide (2 ≤ i)) := by
  rw [BitVec.getLsbD_and]
  by_cases h : i < 32
  · interval_cases i <;> simp
  · simp [BitVec.getLsbD_of_ge v i (by omega)]

/-- Aligning an address down commutes with the remapping. -/
theorem remap_aligned (va : Word) : s.remap va &&& 0xFFFFFFFC = s.remap (va &&& 0xFFFFFFFC) := by
  have e : (va &&& 0xFFFFFFFC).extractLsb' 25 7 = va.extractLsb' 25 7 := by
    apply BitVec.eq_of_getLsbD_eq
    intro i hi
    simp only [BitVec.getLsbD_extractLsb', aligned_bit]
    have h2 : decide (2 ≤ 25 + i) = true := by simp; omega
    rw [h2, Bool.and_true]
  unfold State.remap
  rw [e]
  split
  · apply BitVec.eq_of_getLsbD_eq
    intro i hi
    rw [aligned_bit, pid_bit, pid_bit]
    by_cases hl : i < 25
    · simp only [hl, if_true, BitVec.getLsbD_extractLsb', aligned_bit, Nat.zero_add]
      cases va.getLsbD i <;> simp
    · have : 2 ≤ i := by omega
      simp [hl, this]
  · rfl

/-- The location of a word access, which CTRL.A aligns down or requires aligned (20 R192, R193). -/
theorem checkAlign_usable {va : Word} (h : s.Aligned va 4 ∨ s.cp15.ctrl.align = false) :
    checkAlign (s.remap va) 4 s = .ok (s.remap (va &&& 0xFFFFFFFC)) s := by
  rw [← remap_aligned]
  rcases h with h | h
  · by_cases g : s.cp15.ctrl.align = false
    · exact checkAlign_word g
    · rw [checkAlign_aligned h]
      congr 1
      have h' : (s.remap va).toNat % 4 = 0 := h
      have h0 : (s.remap va).getLsbD 0 = false := by
        rw [BitVec.getLsbD, Nat.testBit_zero]; simp; omega
      have h1 : (s.remap va).getLsbD 1 = false := by
        rw [BitVec.getLsbD, Nat.testBit_succ, Nat.testBit_zero]; simp; omega
      apply BitVec.eq_of_getLsbD_eq
      intro i hi
      rcases i with _ | _ | i
      · simpa using h0
      · simpa using h1
      · simp only [BitVec.getLsbD_and]
        have : (0xFFFFFFFC : Word).getLsbD (i + 2) = true := by
          have : i < 30 := by omega
          interval_cases i <;> decide
        rw [this, Bool.and_true]
  · exact checkAlign_word h

/-- A word read (42 R540): the word at the address rounded down. -/
theorem memRead_word (h : s.Direct) {va : Word} (ha : s.Aligned va 4 ∨ s.cp15.ctrl.align = false) (user : Bool) :
    memRead va 4 user s = .ok (s.mem.readBytes (s.physical (va &&& 0xFFFFFFFC) 4) 4) s.accessed :=
  memRead_direct h (checkAlign_usable ha) user

/-- A read at an aligned address. -/
theorem memRead_aligned (h : s.Direct) {va : Word} {n : Nat} (ha : s.Aligned va n) (user : Bool) :
    memRead va n user s = .ok (s.mem.readBytes (s.physical va n) n) s.accessed :=
  memRead_direct h (checkAlign_aligned ha) user

/-- What a store at a located address leaves. -/
theorem memWrite_located (h : s.Direct) {va mva : Word} {n : Nat} (hn : n = 1 ∨ n = 2 ∨ n = 4)
    (ha : checkAlign (s.remap va) n s = .ok mva s) (hm : mva.toNat % n = 0) (v : BitVec (8 * n)) (user : Bool) :
    ∃ m : Memory, memWrite va n v user s = .ok () (s.accessed.setMem m) ∧ m.wf = true ∧
      Stored s.mem m (s.lane (mva.setWidth 36) n) n v :=
  ⟨_, memWrite_direct h ha v user, Memory.wf_writeBytes h.canonical _ _ _ _,
    stored_line h.canonical _ _ (by omega) (lane_inLine hn hm) _⟩

/-- A word write: the word at the address rounded down, every other byte as before. -/
theorem memWrite_word (h : s.Direct) {va : Word} (ha : s.Aligned va 4 ∨ s.cp15.ctrl.align = false) (v : Word)
    (user : Bool) : ∃ m : Memory, memWrite va 4 v user s = .ok () (s.accessed.setMem m) ∧ m.wf = true ∧
      Stored s.mem m (s.physical (va &&& 0xFFFFFFFC) 4) 4 v := by
  refine memWrite_located h (by omega) (checkAlign_usable ha) ?_ v user
  rw [← remap_aligned, BitVec.toNat_and]
  have : (0xFFFFFFFC : Word).toNat = 2 ^ 32 - 4 := by decide
  have e : ((s.remap va).toNat &&& (0xFFFFFFFC : Word).toNat) % 4
      = ((s.remap va).toNat % 4) &&& ((0xFFFFFFFC : Word).toNat % 4) := Nat.and_mod_two_pow (n := 2)
  rw [e]
  simp

/-- A write at an aligned address. -/
theorem memWrite_aligned (h : s.Direct) {va : Word} {n : Nat} (hn : n = 1 ∨ n = 2 ∨ n = 4) (ha : s.Aligned va n)
    (v : BitVec (8 * n)) (user : Bool) : ∃ m : Memory, memWrite va n v user s = .ok () (s.accessed.setMem m) ∧
      m.wf = true ∧ Stored s.mem m (s.physical va n) n v :=
  memWrite_located h hn (checkAlign_aligned ha) ha v user

end Direct

end Sys2Proof.Machine
end

