-- ==== Sys2Proof/Laws/Exception.lean ====
section
/-! SUPPORT. What taking an exception does to every field (60 R824). -/

namespace Sys2Proof.Machine

/-- The SPSR of the mode an exception is taken in. -/
def Exc.saved : Exc → Fin 6
  | .undefined => 4
  | .swi => 2
  | .prefetchAbort => 3
  | .dataAbort => 3
  | .irq => 1
  | .fiq => 0

theorem Exc.saved_spec (x : Exc) : spsrOf x.mode = some x.saved := by cases x <;> decide

/-- The entry every exception shares, field by field. -/
theorem enterMode_eq (s : State) (m : BitVec 5) (k : Fin 6) (hk : spsrOf m = some k) (link : Word) (setF : Bool)
    (target : Word) : s.enterMode m link setF target = { s with
      regs := s.regs.set (bankedRegister s.cfg.debugBanksR13 m 14) link
      pc := target
      cpsr := { s.cpsr with m := m, t := false, i := true, f := s.cpsr.f || setF }
      spsr := s.spsr.set k s.cpsr
      run := { s.run with flow := .exception, userTransfer := 0 } } := by
  simp [State.enterMode, hk, State.setCpsr, State.writeBank, State.setRegs, State.setSpsr, State.setPc, State.setRun]

/-- With no debug an exception is the entry alone: no trace entry, no vector trap. -/
theorem takeException_noDebug (s : State) (x : Exc) (link : Word) (h : s.dbg.dcsr.ge = false) :
    s.takeException x link = s.enterMode x.mode link (x == .fiq) (s.vectorAddress x) := by
  have ht : s.tracing = false := by simp [State.tracing, h]
  by_cases e : x = .dataAbort <;> simp [State.takeException, State.traceException, ht, h, e]

/-- Taking an exception with no debug: what `State.Entered` says. -/
theorem takeException_entered (s : State) (x : Exc) (link : Word) (h : s.dbg.dcsr.ge = false) :
    s.Entered (s.takeException x link) x.mode x.saved link ((x.vector ++ 0#2).setWidth 32) (x == .fiq) := by
  rw [takeException_noDebug s x link h, enterMode_eq s x.mode x.saved x.saved_spec]
  exact ⟨rfl, rfl, rfl, rfl, rfl⟩

/-- A precise data abort outside Special Debug State, with no debug. -/
theorem dataAbort_noDebug (s : State) (a : DataAbort) (h : s.dbg.dcsr.ge = false) (hs : s.dbg.sds = false) :
    s.dataAbort a =
      ((s.loseBreak.setFaultStatus a.status a.domain).setFaultAddress a.far).takeException .dataAbort (s.pc + 8) := by
  have g : ∀ (t : State) (st : BitVec 5) (d : Option (BitVec 4)), (t.setFaultStatus st d).dbg = t.dbg := by
    intro t st d; cases d <;> rfl
  have g' : ∀ (t : State) (f : Option Word), (t.setFaultAddress f).dbg = t.dbg := by
    intro t f; cases f <;> rfl
  have hs' : s.loseBreak.dbg.sds = false := hs
  have h' : s.loseBreak.dbg.dcsr.ge = false := h
  have p : s.loseBreak.pc = s.pc := rfl
  simp [State.dataAbort, hs', State.traceDataAbort, State.tracing, g, g', h', p]

/-- The states agree on everything but CP15 and the model's own fields. -/
def AgreesBut (s t : State) : Prop := t = { s with cp15 := t.cp15, run := t.run }

theorem AgreesBut.trans {s t u : State} (h : AgreesBut s t) (k : AgreesBut t u) : AgreesBut s u := by
  unfold AgreesBut at *
  rw [k, h]

theorem loseBreak_agrees (s : State) : AgreesBut s s.loseBreak := rfl

theorem setFaultStatus_agrees (s : State) (st : BitVec 5) (d : Option (BitVec 4)) :
    AgreesBut s (s.setFaultStatus st d) := by cases d <;> rfl

theorem setFaultAddress_agrees (s : State) (a : Option Word) : AgreesBut s (s.setFaultAddress a) := by cases a <;> rfl

theorem setFaultStatus_ctrl (s : State) (st : BitVec 5) (d : Option (BitVec 4)) :
    (s.setFaultStatus st d).cp15.ctrl = s.cp15.ctrl := by cases d <;> rfl

theorem setFaultAddress_ctrl (s : State) (a : Option Word) : (s.setFaultAddress a).cp15.ctrl = s.cp15.ctrl := by
  cases a <;> rfl

/-- What a precise data abort leaves, outside Special Debug State, with no debug. -/
theorem dataAbort_entered (s : State) (a : DataAbort) (h : s.dbg.dcsr.ge = false) (hs : s.dbg.sds = false) :
    s.Entered (s.dataAbort a) modeAbt 3 (s.pc + 8) 0x10 false := by
  rw [dataAbort_noDebug s a h hs]
  have ht : AgreesBut s ((s.loseBreak.setFaultStatus a.status a.domain).setFaultAddress a.far) :=
    ((loseBreak_agrees s).trans (setFaultStatus_agrees ..)).trans (setFaultAddress_agrees ..)
  have hv : ((s.loseBreak.setFaultStatus a.status a.domain).setFaultAddress a.far).cp15.ctrl = s.cp15.ctrl := by
    rw [setFaultAddress_ctrl, setFaultStatus_ctrl]; rfl
  generalize (s.loseBreak.setFaultStatus a.status a.domain).setFaultAddress a.far = t at ht hv ⊢
  have hd : t.dbg = s.dbg := by rw [ht]
  rw [takeException_noDebug _ _ _ (by rw [hd]; exact h), enterMode_eq _ _ 3 (by decide)]
  have hr : t.regs = s.regs := by rw [ht]
  have hc : t.cpsr = s.cpsr := by rw [ht]
  have hp : t.spsr = s.spsr := by rw [ht]
  have hf : t.cfg = s.cfg := by rw [ht]
  refine ⟨?_, ?_, ?_, ?_, ?_⟩
  · simp only [hc]; rfl
  · simp only [State.vectorAddress, State.vectorBase, hv]; rfl
  · simp only [hr, hf]; rfl
  · simp only [hp, hc]
  · rw [ht]

end Sys2Proof.Machine
end

