-- ==== Sys2Proof/Laws/Multiple.lean ====
section
/-! SUPPORT. Multiple transfers that go straight to memory: the words a list of addresses reads, the bytes a list of stores
changes, and the registers a list of writes leaves. -/

namespace Sys2Proof.Machine

/-- The state with other notes for the performance monitor. -/
def State.noted (s : State) (events : List (BitVec 8)) : State := s.setRun { s.run with events := events }

theorem accessed_noted (s : State) : s.accessed = s.noted (0x0B :: 0x0A :: s.run.events) := rfl

theorem noted_direct {s : State} (h : s.Direct) (ev : List (BitVec 8)) : (s.noted ev).Direct :=
  ⟨h.mmu, h.lines, h.buffer, h.settled, h.noErrors, h.noDebug, h.canonical⟩

theorem stored_direct {s : State} (h : s.Direct) (ev : List (BitVec 8)) {m : Memory} (hm : m.wf = true) :
    ((s.noted ev).setMem m).Direct := ⟨h.mmu, h.lines, h.buffer, h.settled, h.noErrors, h.noDebug, hm⟩

/-- The address is one that a word access takes (20 R192, R193). -/
def State.Usable (s : State) (va : Word) : Prop := s.Aligned va 4 ∨ s.cp15.ctrl.align = false

/-- With nothing from outside, nothing happens between two words. -/
theorem betweenWords_alone {s : State} (h : s.run.env = []) : betweenWords s = .ok () s := by
  simp [betweenWords, M.bind_apply, h]

/-- The gap after a word of a list. -/
theorem gap_alone {α : Type} {s : State} (t : List α) (h : s.run.env = []) :
    gapBefore t s = .ok () s := by
  unfold gapBefore
  split
  · rfl
  · exact betweenWords_alone h

/-- The words at a list of addresses. -/
theorem loadWords_direct (user : Bool) (l : List Word) :
    ∀ {s : State}, s.Direct → s.run.env = [] → (∀ a ∈ l, s.Usable a) → ∃ ev, loadWords user l s =
      .ok (l.map fun a => s.mem.readBytes (s.physical (a &&& 0xFFFFFFFC) 4) 4, none) (s.noted ev) := by
  induction l with
  | nil => intro s h _ _; exact ⟨s.run.events, rfl⟩
  | cons a t ih =>
    intro s h hq hu
    obtain ⟨ev, e⟩ := ih (noted_direct h (0x0B :: 0x0A :: s.run.events)) hq (fun b hb => hu b (List.mem_cons_of_mem _ hb))
    refine ⟨ev, ?_⟩
    have e1 := memRead_word h (hu a List.mem_cons_self) user
    have g := gap_alone t (s := s.noted (0x0B :: 0x0A :: s.run.events)) hq
    simp only [loadWords, M.bind_apply, M.tryAbort, e1, accessed_noted, g, e]
    rfl

/-- Stores of words in turn. -/
inductive StoredWords : Memory → List (PAddr × Word) → Memory → Prop where
  | nil (m : Memory) : StoredWords m [] m
  | cons {m m1 m2 : Memory} {pa : PAddr} {v : Word} {t : List (PAddr × Word)} (h : Stored m m1 pa 4 v)
      (k : StoredWords m1 t m2) : StoredWords m ((pa, v) :: t) m2

/-- The stores of a list of words. -/
theorem storeWords_direct (user : Bool) (l : List (Word × Word)) :
    ∀ {s : State}, s.Direct → s.run.env = [] → (∀ x ∈ l, s.Usable x.1) → ∃ ev m, storeWords user l s = .ok () ((s.noted ev).setMem m) ∧
      m.wf = true ∧ StoredWords s.mem (l.map fun x => (s.physical (x.1 &&& 0xFFFFFFFC) 4, x.2)) m := by
  induction l with
  | nil => intro s h _ _; exact ⟨s.run.events, s.mem, rfl, h.canonical, .nil _⟩
  | cons x t ih =>
    intro s h hq hu
    obtain ⟨m1, e1, hw, hs⟩ := memWrite_word h (hu x List.mem_cons_self) x.2 user
    obtain ⟨ev, m, e, hm, hk⟩ := ih (stored_direct h (0x0B :: 0x0A :: s.run.events) hw) hq
      (fun b hb => hu b (List.mem_cons_of_mem _ hb))
    refine ⟨ev, m, ?_, hm, .cons hs hk⟩
    have g := gap_alone t (s := (s.noted (0x0B :: 0x0A :: s.run.events)).setMem m1) hq
    simp only [storeWords, M.bind_apply, e1, accessed_noted, g, e]
    rfl

/-- A bit of some bytes of memory. -/
theorem readBytes_bit (m : Memory) (n : Nat) : ∀ (pa : PAddr) (i : Nat), i < 8 * n →
    (m.readBytes pa n).getLsbD i = (m.read (pa + BitVec.ofNat 36 (i / 8))).getLsbD (i % 8) := by
  induction n with
  | zero => intro pa i h; omega
  | succ n ih =>
    intro pa i h
    have e : (m.readBytes pa (n + 1)).getLsbD i = (m.readBytes (pa + 1) n ++ m.read pa).getLsbD i := rfl
    rw [e, BitVec.getLsbD_append]
    by_cases hi : i < 8
    · have d : i / 8 = 0 := by omega
      have r : i % 8 = i := by omega
      simp only [hi, if_true, d, r, BitVec.ofNat_eq_ofNat, BitVec.add_zero]
    · have a : pa + BitVec.ofNat 36 (i / 8) = pa + 1 + BitVec.ofNat 36 ((i - 8) / 8) := by
        rw [BitVec.add_assoc]
        congr 1
        rw [show (1 : PAddr) = BitVec.ofNat 36 1 from rfl, ← BitVec.ofNat_add]
        congr 1
        omega
      have r : (i - 8) % 8 = i % 8 := by omega
      rw [if_neg hi, ih (pa + 1) (i - 8) (by omega), a, r]

/-- The word of a line of memory that an aligned address names is the word at the address. -/
theorem lineWord_memoryLine (s : State) {pa : PAddr} (h : pa.toNat % 4 = 0) :
    lineWord (s.memoryLine (lineOf pa)) (wordIndex pa) = s.mem.readBytes pa 4 := by
  have hw : wordIndex pa = pa.toNat / 4 % 8 := by
    simp [wordIndex, BitVec.extractLsb'_toNat, Nat.shiftRight_eq_div_pow]
  have hl : (lineAddr (lineOf pa)).toNat = pa.toNat / 32 * 32 := by
    have : (lineAddr (lineOf pa)).toNat = (lineOf pa).toNat <<< 5 :=
      (BitVec.toNat_append (lineOf pa) 0#5).trans (by simp)
    rw [this, Nat.shiftLeft_eq, lineOf, BitVec.extractLsb'_toNat, Nat.shiftRight_eq_div_pow, Nat.mod_eq_of_lt]
    have := pa.isLt
    omega
  apply BitVec.eq_of_getLsbD_eq
  intro i hi
  rw [readBytes_bit s.mem 4 pa i hi, lineWord, State.memoryLine, BitVec.getLsbD_extractLsb',
    readBytes_bit s.mem 32 _ _ (by omega)]
  have a : lineAddr (lineOf pa) + BitVec.ofNat 36 ((32 * wordIndex pa + i) / 8) = pa + BitVec.ofNat 36 (i / 8) := by
    apply BitVec.eq_of_toNat_eq
    have := pa.isLt
    rw [BitVec.toNat_add, BitVec.toNat_add, BitVec.toNat_ofNat, BitVec.toNat_ofNat, hl, hw]
    omega
  rw [a, show (32 * wordIndex pa + i) % 8 = i % 8 by omega]
  simp [hi]

/-- A value that is stored reads back. -/
theorem Stored.reads {m m' : Memory} {pa : PAddr} {n : Nat} {v : BitVec (8 * n)} (hn : n ≤ 2 ^ 36)
    (h : Stored m m' pa n v) : m'.readBytes pa n = v := by
  apply BitVec.eq_of_getLsbD_eq
  intro i hi
  rw [readBytes_bit m' n pa i hi, h]
  have e : pa + BitVec.ofNat 36 (i / 8) - pa = BitVec.ofNat 36 (i / 8) := by
    rw [BitVec.add_comm, BitVec.add_sub_cancel]
  have t : (BitVec.ofNat 36 (i / 8)).toNat = i / 8 := by rw [BitVec.toNat_ofNat]; omega
  rw [e, t, if_pos (by omega), BitVec.getLsbD_extractLsb']
  have : i % 8 < 8 := by omega
  rw [show 8 * (i / 8) + i % 8 = i by omega]
  simp [this]

/-- Bytes that a store does not cover read as before. -/
theorem Stored.elsewhere {m m' : Memory} {pa : PAddr} {n : Nat} {v : BitVec (8 * n)} (h : Stored m m' pa n v) {a : PAddr}
    (ha : ¬ (a - pa).toNat < n) : m'.read a = m.read a := by rw [h, if_neg ha]

/-- Bytes that no store of a list covers read as before. -/
theorem StoredWords.elsewhere {m m' : Memory} {l : List (PAddr × Word)} (h : StoredWords m l m') {a : PAddr}
    (ha : ∀ x ∈ l, ¬ (a - x.1).toNat < 4) : m'.read a = m.read a := by
  induction h with
  | nil m => rfl
  | cons h k ih =>
    rw [ih fun x hx => ha x (List.mem_cons_of_mem _ hx), h.elsewhere (ha _ List.mem_cons_self)]

/-- Two words share no byte. -/
def Apart (p q : PAddr) : Prop := ∀ a : PAddr, (a - p).toNat < 4 → ¬ (a - q).toNat < 4

/-- Each word of a list of stores that share no byte reads back. -/
theorem StoredWords.reads {m m' : Memory} {l : List (PAddr × Word)} (h : StoredWords m l m')
    (hp : l.Pairwise fun x y => Apart x.1 y.1) : ∀ x ∈ l, m'.readBytes x.1 4 = x.2 := by
  induction h with
  | nil m => intro x hx; cases hx
  | @cons m m1 m2 pa v t h k ih =>
    rw [List.pairwise_cons] at hp
    intro x hx
    rcases List.mem_cons.mp hx with rfl | hx
    · rw [← h.reads (by norm_num)]
      apply BitVec.eq_of_getLsbD_eq
      intro i hi
      rw [readBytes_bit _ 4 _ i hi, readBytes_bit _ 4 _ i hi]
      congr 1
      apply k.elsewhere
      intro y hy
      refine hp.1 y hy _ ?_
      rw [BitVec.add_comm, BitVec.add_sub_cancel, BitVec.toNat_ofNat]
      omega
    · exact ih hp.2 x hx

end Sys2Proof.Machine
end

