-- ==== Sys2Proof/Laws/Pipeline.lean ====
section
/-! SUPPORT. What the bus, the caches, the MMU and a data access can change: never a register, a mode, a system register,
the debug unit or the flow of control, and memory stays in its canonical form. -/

namespace Sys2Proof.Machine

/-- The states agree on everything but memory, TLBs, caches, the error log, pending aborts and the model's counters, and
memory stays canonical; the inputs are as they were. -/
structure SameCore (s t : State) : Prop where
  regs : t.regs = s.regs
  pc : t.pc = s.pc
  cpsr : t.cpsr = s.cpsr
  spsr : t.spsr = s.spsr
  acc0 : t.acc0 = s.acc0
  cp15 : t.cp15 = s.cp15
  pmu : t.pmu = s.pmu
  clk : t.clk = s.clk
  dbg : t.dbg = s.dbg
  trace : t.trace = s.trace
  jtag : t.jtag = s.jtag
  cfg : t.cfg = s.cfg
  ext : t.ext = { s.ext with busErrors := t.ext.busErrors, pendingAbort := t.ext.pendingAbort }
  env : t.run.env = s.run.env
  flow : t.run.flow = s.run.flow
  userTransfer : t.run.userTransfer = s.run.userTransfer
  pcLoad : t.run.pcLoad = s.run.pcLoad
  mem : s.mem.wf = true → t.mem.wf = true

theorem sameCore_follows : Follows SameCore where
  refl _ := ⟨rfl, rfl, rfl, rfl, rfl, rfl, rfl, rfl, rfl, rfl, rfl, rfl, rfl, rfl, rfl, rfl, rfl, id⟩
  trans h k := ⟨k.regs.trans h.regs, k.pc.trans h.pc, k.cpsr.trans h.cpsr, k.spsr.trans h.spsr, k.acc0.trans h.acc0,
    k.cp15.trans h.cp15, k.pmu.trans h.pmu, k.clk.trans h.clk, k.dbg.trans h.dbg, k.trace.trans h.trace,
    k.jtag.trans h.jtag, k.cfg.trans h.cfg, by rw [k.ext, h.ext], k.env.trans h.env, k.flow.trans h.flow,
    k.userTransfer.trans h.userTransfer, k.pcLoad.trans h.pcLoad, k.mem ∘ h.mem⟩

/-- A body that changes nothing but what `SameCore` leaves open. -/
abbrev M.Quiet {α : Type} (m : M α) : Prop := M.Keeps SameCore m

set_option linter.unreachableTactic false
set_option linter.unusedTactic false

namespace Quiet

section Combinators
variable {α β : Type}

theorem bind {m : M α} {f : α → M β} (h : M.Quiet m) (k : ∀ a, M.Quiet (f a)) : M.Quiet (m >>= f) :=
  .bind sameCore_follows h k
theorem pure (a : α) : M.Quiet (Pure.pure a : M α) := .pure sameCore_follows a
theorem state : M.Quiet M.state := .state sameCore_follows
theorem stop (e : Stop) : M.Quiet (M.stop e : M α) := .stop sameCore_follows e
theorem refuse (r : Refusal) : M.Quiet (M.refuse r : M α) := .refuse sameCore_follows r
theorem require (c : Bool) (r : Refusal) : M.Quiet (M.require c r) := .require sameCore_follows c r
theorem defined (c : Bool) : M.Quiet (M.defined c) := .defined sameCore_follows c
theorem reg (r : Reg) : M.Quiet (Machine.reg r) := .reg sameCore_follows r
theorem asUser : M.Quiet Machine.asUser := .asUser sameCore_follows
theorem each {f : α → M β} (h : ∀ a, M.Quiet (f a)) (l : List α) : M.Quiet (M.each f l) := .each sameCore_follows h l
theorem draw (w : Nat) : M.Quiet (M.draw w) :=
  fun _ => ⟨rfl, rfl, rfl, rfl, rfl, rfl, rfl, rfl, rfl, rfl, rfl, rfl, rfl, rfl, rfl, rfl, rfl, id⟩
theorem tryAbort {m : M α} (h : M.Quiet m) : M.Quiet (M.tryAbort m) := M.Keeps.tryAbort h

end Combinators

/-! ## Bus and L2 -/

theorem setMem {f : State → Memory} (h : ∀ s, s.mem.wf = true → (f s).wf = true) :
    M.Quiet (M.update fun s => s.setMem (f s)) := .update fun s => by constructor <;> first | rfl | exact h s

theorem logErrors_core (s : State) (b : BitVec 8) (a : Option PAddr) : SameCore s (s.logErrors b a) := by
  unfold State.logErrors
  dsimp only
  split
  · exact sameCore_follows.refl s
  · split
    · constructor <;> first | rfl | exact id
    · split <;> constructor <;> first | rfl | exact id

theorem logErrors (b : BitVec 8) (a : Option PAddr) : M.Quiet (M.update (·.logErrors b a)) :=
  .update fun s => logErrors_core s b a

theorem transactionAddress (pline : BitVec 31) (origin : Option PAddr) :
    M.Quiet (Machine.transactionAddress pline origin) := by
  unfold Machine.transactionAddress
  split
  · exact pure _
  · exact bind (draw _) fun _ => pure _

theorem busAnswer (pline : BitVec 31) (origin : Option PAddr) : M.Quiet (Machine.busAnswer pline origin) := by
  unfold Machine.busAnswer
  repeat' first
    | with_reducible exact pure _ | with_reducible exact state | with_reducible exact transactionAddress _ _
    | with_reducible exact logErrors _ _
    | refine bind ?_ fun _ => ?_
    | split
    | (refine .update fun s => ?_; constructor <;> first | rfl | exact id)
    | dsimp only

theorem busRead (pa : PAddr) (n : Nat) : M.Quiet (Machine.busRead pa n) := by
  unfold Machine.busRead
  repeat' first
    | with_reducible exact pure _ | with_reducible exact state | with_reducible exact draw _
    | with_reducible exact busAnswer _ _
    | refine bind ?_ fun _ => ?_
    | split

theorem busPut (origin : Option PAddr) (pa : PAddr) (n : Nat) (v : BitVec (8 * n)) (mask : BitVec n) :
    M.Quiet (Machine.busPut origin pa n v mask) := by
  unfold Machine.busPut
  repeat' first
    | with_reducible exact pure _ | with_reducible exact draw _ | with_reducible exact busAnswer _ _
    | exact setMem fun s h => Memory.wf_writeBytes h _ _ _ _
    | refine bind ?_ fun _ => ?_
    | split
    | (refine .update fun s => ?_; constructor <;> first | rfl | exact id)

theorem settleLeaving : M.Quiet Machine.settleLeaving := by
  unfold Machine.settleLeaving
  repeat' first
    | with_reducible exact pure _ | with_reducible exact state | with_reducible exact busPut _ _ _ _ _
    | with_reducible exact each (fun _ => busPut _ _ _ _ _) _
    | refine bind ?_ fun _ => ?_
    | split
    | (refine .update fun s => ?_; constructor <;> first | rfl | exact id)

theorem settleFor (pline : BitVec 31) : M.Quiet (Machine.settleFor pline) := by
  unfold Machine.settleFor
  repeat' first
    | with_reducible exact pure _ | with_reducible exact state | with_reducible exact settleLeaving
    | refine bind ?_ fun _ => ?_
    | split

theorem busWrite (origin : Option PAddr) (pa : PAddr) (n : Nat) (v : BitVec (8 * n)) (mask : BitVec n) :
    M.Quiet (busWrite origin pa n v mask) :=
  bind (settleFor _) fun _ => busPut _ _ _ _ _

theorem settle (d : BitVec 256) (k : BitVec 32) : M.Quiet (Machine.settle d k) := by
  unfold Machine.settle
  repeat' first
    | with_reducible exact pure _ | with_reducible exact draw _
    | refine bind ?_ fun _ => ?_
    | split
    | (refine .update fun s => ?_; first | (constructor <;> first | rfl | exact id) | (split <;> constructor <;> first | rfl | exact id))
    | dsimp only

theorem l2Correct (set way : Nat) (x : L2Line) : M.Quiet (Machine.l2Correct set way x) := by
  unfold Machine.l2Correct
  repeat' first
    | with_reducible exact pure _
    | refine bind ?_ fun _ => ?_
    | split
    | (refine .update fun s => ?_; first | (constructor <;> first | rfl | exact id) | (split <;> constructor <;> first | rfl | exact id))
    | dsimp only

theorem l2Check (set way : Nat) (x : L2Line) (data : Bool) : M.Quiet (Machine.l2Check set way x data) := by
  unfold Machine.l2Check
  repeat' first
    | with_reducible exact pure _ | with_reducible exact logErrors _ _ | with_reducible exact l2Correct _ _ _
    | refine bind ?_ fun _ => ?_
    | split
    | (refine .update fun s => ?_; first | (constructor <;> first | rfl | exact id) | (split <;> constructor <;> first | rfl | exact id))
    | dsimp only

theorem l2CheckTags (set : Nat) : M.Quiet (Machine.l2CheckTags set) := by
  unfold Machine.l2CheckTags
  exact bind state fun _ => bind (logErrors _ _) fun _ => pure _

theorem l2ReadOut (set way : Nat) (x : L2Line) : M.Quiet (Machine.l2ReadOut set way x) := by
  unfold Machine.l2ReadOut
  repeat' first
    | with_reducible exact pure _ | with_reducible exact draw _ | with_reducible exact settle _ _ | with_reducible exact l2Check _ _ _ _
    | refine bind ?_ fun _ => ?_
    | split
    | (refine .update fun s => ?_; first | (constructor <;> first | rfl | exact id) | (split <;> constructor <;> first | rfl | exact id))
    | dsimp only

theorem l2WriteBack (set way : Nat) (x : L2Line) : M.Quiet (Machine.l2WriteBack set way x) := by
  unfold Machine.l2WriteBack
  repeat' first
    | with_reducible exact pure _ | with_reducible exact busWrite _ _ _ _ _ | with_reducible exact l2ReadOut _ _ _
    | refine bind ?_ fun _ => ?_
    | split
    | (refine .update fun s => ?_; first | (constructor <;> first | rfl | exact id) | (split <;> constructor <;> first | rfl | exact id))
    | dsimp only

theorem l2Seen (set : Nat) (line : Option (Nat × L2Line)) : M.Quiet (Machine.l2Seen set line) := by
  unfold Machine.l2Seen
  repeat' first
    | with_reducible exact pure _ | with_reducible exact l2Check _ _ _ _ | with_reducible exact l2CheckTags _
    | refine bind ?_ fun _ => ?_
    | split
    | (refine .update fun s => ?_; first | (constructor <;> first | rfl | exact id) | (split <;> constructor <;> first | rfl | exact id))
    | dsimp only

theorem l2Allocate (x : L2Line) : M.Quiet (Machine.l2Allocate x) := by
  unfold Machine.l2Allocate
  repeat' first
    | with_reducible exact pure _ | with_reducible exact state | with_reducible exact l2WriteBack _ _ _
    | refine bind ?_ fun _ => ?_
    | split
    | (refine .update fun s => ?_; first | (constructor <;> first | rfl | exact id) | (split <;> constructor <;> first | rfl | exact id))
    | dsimp only

theorem l2Claim (x : L2Line) : M.Quiet (Machine.l2Claim x) := by
  unfold Machine.l2Claim
  repeat' first
    | with_reducible exact pure _ | with_reducible exact busAnswer _ _
    | refine bind ?_ fun _ => ?_
    | split
    | (refine .update fun s => ?_; first | (constructor <;> first | rfl | exact id) | (split <;> constructor <;> first | rfl | exact id))
    | dsimp only

theorem fillState (shared : Bool) : M.Quiet (Machine.fillState shared) := by
  unfold Machine.fillState
  repeat' first
    | with_reducible exact pure _ | with_reducible exact draw _
    | refine bind ?_ fun _ => ?_
    | split
    | (refine .update fun s => ?_; first | (constructor <;> first | rfl | exact id) | (split <;> constructor <;> first | rfl | exact id))
    | dsimp only

theorem l2Read (pline : BitVec 31) (shared swap : Bool) (mvas : List (BitVec 27)) :
    M.Quiet (Machine.l2Read pline shared swap mvas) := by
  unfold Machine.l2Read
  repeat' first
    | with_reducible exact pure _ | with_reducible exact state | with_reducible exact draw _ | with_reducible exact busRead _ _
    | with_reducible exact l2Allocate _ | with_reducible exact l2Check _ _ _ _ | with_reducible exact l2CheckTags _
    | with_reducible exact l2Claim _ | with_reducible exact fillState _
    | refine bind ?_ fun _ => ?_
    | split
    | (refine .update fun s => ?_; first | (constructor <;> first | rfl | exact id) | (split <;> constructor <;> first | rfl | exact id))
    | dsimp only

theorem l2Write (pline : BitVec 31) (data : BitVec 256) (mask : BitVec 32) (mvas : List (BitVec 27)) :
    M.Quiet (Machine.l2Write pline data mask mvas) := by
  unfold Machine.l2Write
  repeat' first
    | with_reducible exact pure _ | with_reducible exact state | with_reducible exact busRead _ _ | with_reducible exact l2Allocate _
    | with_reducible exact l2Check _ _ _ _ | with_reducible exact l2CheckTags _ | with_reducible exact l2Claim _
    | refine bind ?_ fun _ => ?_
    | split
    | (refine .update fun s => ?_; first | (constructor <;> first | rfl | exact id) | (split <;> constructor <;> first | rfl | exact id))
    | dsimp only

/-! ## Memory buffer -/

theorem l2Bypass (pline : BitVec 31) (mvas : List (BitVec 27)) : M.Quiet (Machine.l2Bypass pline mvas) :=
  bind state fun _ => require _ _

theorem mayPass (e : BufEntry) : M.Quiet e.mayPass := by
  unfold BufEntry.mayPass
  split
  · exact pure _
  · exact l2Bypass _ _

theorem writeNext (e : BufEntry) : M.Quiet (Machine.writeNext e) := by
  unfold Machine.writeNext
  repeat' first
    | with_reducible exact state | with_reducible exact busWrite _ _ _ _ _ | with_reducible exact l2Write _ _ _ _
    | refine bind ?_ fun _ => ?_
    | split
    | (refine .update fun s => ?_; first | (constructor <;> first | rfl | exact id) | (split <;> constructor <;> first | rfl | exact id))
    | dsimp only

theorem drainAll  : M.Quiet Machine.drainAll := by
  unfold Machine.drainAll
  repeat' first
    | with_reducible exact pure _ | with_reducible exact state | with_reducible exact writeNext _
    | with_reducible exact each (fun _ => writeNext _) _
    | refine bind ?_ fun _ => ?_
    | split
    | (refine .update fun s => ?_; first | (constructor <;> first | rfl | exact id) | (split <;> constructor <;> first | rfl | exact id))
    | dsimp only

theorem barrier : M.Quiet Machine.barrier := bind settleLeaving fun _ => drainAll

theorem drainOldest  : M.Quiet Machine.drainOldest := by
  unfold Machine.drainOldest
  repeat' first
    | with_reducible exact pure _ | with_reducible exact state | with_reducible exact writeNext _
    | refine bind ?_ fun _ => ?_
    | split
    | (refine .update fun s => ?_; first | (constructor <;> first | rfl | exact id) | (split <;> constructor <;> first | rfl | exact id))
    | dsimp only

theorem drainFor (pline : BitVec 31) : M.Quiet (Machine.drainFor pline) := by
  unfold Machine.drainFor
  repeat' first
    | with_reducible exact pure _ | with_reducible exact state | with_reducible exact drainAll
    | refine bind ?_ fun _ => ?_
    | split
    | (refine .update fun s => ?_; first | (constructor <;> first | rfl | exact id) | (split <;> constructor <;> first | rfl | exact id))
    | dsimp only

theorem storeNext (coalesce : Bool) (e : BufEntry) : M.Quiet (Machine.storeNext coalesce e) := by
  unfold Machine.storeNext
  repeat' first
    | with_reducible exact mayPass _ | with_reducible exact pure _ | with_reducible exact state | with_reducible exact writeNext _
    | with_reducible exact drainOldest | with_reducible exact drainFor _
    | refine bind ?_ fun _ => ?_
    | split
    | (refine .update fun s => ?_; first | (constructor <;> first | rfl | exact id) | (split <;> constructor <;> first | rfl | exact id))
    | dsimp only

theorem readNext (line : BitVec 27) (pline : BitVec 31) (outer shared swap : Bool) :
    M.Quiet (Machine.readNext line pline outer shared swap) := by
  unfold Machine.readNext
  repeat' first
    | with_reducible exact l2Bypass _ _ | with_reducible exact pure _ | with_reducible exact state | with_reducible exact busRead _ _
    | with_reducible exact l2Read _ _ _ _
    | refine bind ?_ fun _ => ?_
    | split
    | (refine .update fun s => ?_; first | (constructor <;> first | rfl | exact id) | (split <;> constructor <;> first | rfl | exact id))
    | dsimp only

/-! ## MMU -/

theorem newestWord (pa : PAddr) : M.Quiet (Machine.newestWord pa) := by
  unfold Machine.newestWord
  repeat' first
    | with_reducible exact pure _ | with_reducible exact state | with_reducible exact settle _ _
    | refine bind ?_ fun _ => ?_
    | split
    | (refine .update fun s => ?_; first | (constructor <;> first | rfl | exact id) | (split <;> constructor <;> first | rfl | exact id))
    | dsimp only

theorem oldOrNewWord (pa : PAddr) (w : Word) : M.Quiet (Machine.oldOrNewWord pa w) := by
  unfold Machine.oldOrNewWord
  repeat' first
    | with_reducible exact pure _ | with_reducible exact state | with_reducible exact draw _ | with_reducible exact newestWord _
    | refine bind ?_ fun _ => ?_
    | split
    | (refine .update fun s => ?_; first | (constructor <;> first | rfl | exact id) | (split <;> constructor <;> first | rfl | exact id))
    | dsimp only

theorem walkAccess (pa : PAddr) : M.Quiet (Machine.walkAccess pa) := by
  unfold Machine.walkAccess
  repeat' first
    | with_reducible exact pure _ | with_reducible exact state | with_reducible exact busRead _ _ | with_reducible exact settle _ _ | with_reducible exact l2Read _ _ _ _
    | refine bind ?_ fun _ => ?_
    | split
    | (refine .update fun s => ?_; first | (constructor <;> first | rfl | exact id) | (split <;> constructor <;> first | rfl | exact id))
    | dsimp only

theorem walkRead (pa : PAddr) : M.Quiet (Machine.walkRead pa) := by
  unfold Machine.walkRead
  repeat' first
    | with_reducible exact pure _ | with_reducible exact state | with_reducible exact require _ _ | with_reducible exact walkAccess _ | with_reducible exact oldOrNewWord _ _
    | refine bind ?_ fun _ => ?_
    | split
    | (refine .update fun s => ?_; first | (constructor <;> first | rfl | exact id) | (split <;> constructor <;> first | rfl | exact id))
    | dsimp only

theorem tableWalkWith {read : PAddr → M (Option Word)} (h : ∀ pa, M.Quiet (read pa)) (mva : Word) :
    M.Quiet (Machine.tableWalkWith read mva) := by
  unfold Machine.tableWalkWith
  repeat' first
    | with_reducible exact pure _ | with_reducible exact state | with_reducible exact require _ _
    | with_reducible exact h _
    | refine bind ?_ fun _ => ?_
    | split
    | dsimp only

theorem tableWalk (mva : Word) : M.Quiet (Machine.tableWalk mva) := tableWalkWith walkRead mva

theorem heldEntry (e : TlbEntry) (mva : Word) : M.Quiet (Machine.heldEntry e mva) := by
  unfold Machine.heldEntry
  repeat' first
    | with_reducible exact pure _ | with_reducible exact state | with_reducible exact draw _ | with_reducible exact tableWalkWith newestWord _
    | refine bind ?_ fun _ => ?_
    | split
    | (refine .update fun s => ?_; first | (constructor <;> first | rfl | exact id) | (split <;> constructor <;> first | rfl | exact id))
    | dsimp only

theorem tlbInsert (kind : AccessKind) (e : TlbEntry) : M.Quiet (M.update (·.tlbInsert kind e)) := by
  refine .update fun s => ?_
  unfold State.tlbInsert
  split <;> constructor <;> first | rfl | exact id

theorem findEntry (mva : Word) (kind : AccessKind) : M.Quiet (Machine.findEntry mva kind) := by
  unfold Machine.findEntry
  repeat' first
    | with_reducible exact pure _ | with_reducible exact state | with_reducible exact tableWalk _ | with_reducible exact heldEntry _ _
    | with_reducible exact tlbInsert _ _
    | refine bind ?_ fun _ => ?_
    | split
    | (refine .update fun s => ?_; first | (constructor <;> first | rfl | exact id) | (split <;> constructor <;> first | rfl | exact id))
    | dsimp only

theorem checkEntry (e : TlbEntry) (mva : Word) (kind : AccessKind) (user : Bool) : M.Quiet (Machine.checkEntry e mva kind user) := by
  unfold Machine.checkEntry
  repeat' first
    | with_reducible exact pure _ | with_reducible exact state | with_reducible exact refuse _
    | refine bind ?_ fun _ => ?_
    | split
    | (refine .update fun s => ?_; first | (constructor <;> first | rfl | exact id) | (split <;> constructor <;> first | rfl | exact id))
    | dsimp only

theorem translate (mva : Word) (kind : AccessKind) (user : Bool) : M.Quiet (Machine.translate mva kind user) := by
  unfold Machine.translate
  repeat' first
    | with_reducible exact pure _ | with_reducible exact findEntry _ _ | with_reducible exact checkEntry _ _ _ _
    | refine bind ?_ fun _ => ?_
    | split
    | (refine .update fun s => ?_; first | (constructor <;> first | rfl | exact id) | (split <;> constructor <;> first | rfl | exact id))
    | dsimp only

theorem sharable (e : TlbEntry) : M.Quiet (Machine.sharable e) := bind state fun _ => require _ _

theorem attributes (e : TlbEntry) : M.Quiet (Machine.attributes e) := by
  unfold Machine.attributes
  repeat' first
    | with_reducible exact pure _ | with_reducible exact state | with_reducible exact require _ _
    | with_reducible exact sharable _ | with_reducible exact refuse _
    | refine bind ?_ fun _ => ?_
    | split
    | (refine .update fun s => ?_; first | (constructor <;> first | rfl | exact id) | (split <;> constructor <;> first | rfl | exact id))
    | dsimp only

/-! ## Level 1 caches -/

theorem uncounted {α : Type} {m : M α} (h : M.Quiet m) : M.Quiet (Machine.uncounted m) := by
  intro s
  have k := h s
  unfold Machine.uncounted
  cases e : m s <;> simp only [e] at k ⊢ <;>
    exact sameCore_follows.trans k (by constructor <;> first | rfl | exact id)

theorem dWriteBack (x : DLine) (counted : Bool) : M.Quiet (Machine.dWriteBack x counted) := by
  unfold Machine.dWriteBack
  repeat' first
    | with_reducible exact pure _ | with_reducible exact settle _ _ | with_reducible exact storeNext _ _ | with_reducible exact mayPass _ | with_reducible exact drainFor _ | with_reducible exact uncounted (writeNext _)
    | refine bind ?_ fun _ => ?_
    | split
    | (refine .update fun s => ?_; first | (constructor <;> first | rfl | exact id) | (split <;> constructor <;> first | rfl | exact id))
    | dsimp only

theorem dAllocate (line : BitVec 27) (pline : BitVec 31) (a : Attr) (data : BitVec 256) (known : BitVec 32) : M.Quiet (Machine.dAllocate line pline a data known) := by
  unfold Machine.dAllocate
  repeat' first
    | with_reducible exact pure _ | with_reducible exact state | with_reducible exact draw _
    | with_reducible exact dWriteBack _ _
    | refine bind ?_ fun _ => ?_
    | split
    | (refine .update fun s => ?_; first | (constructor <;> first | rfl | exact id) | (split <;> constructor <;> first | rfl | exact id))
    | dsimp only

theorem dHit (set way : Nat) (x : DLine) (mask : BitVec 32) : M.Quiet (Machine.dHit set way x mask) := by
  unfold Machine.dHit
  repeat' first
    | with_reducible exact pure _ | with_reducible exact settle _ _
    | refine bind ?_ fun _ => ?_
    | split
    | (refine .update fun s => ?_; first | (constructor <;> first | rfl | exact id) | (split <;> constructor <;> first | rfl | exact id))
    | dsimp only

theorem dFill (line : BitVec 27) (pline : BitVec 31) (a : Attr) (swap report : Bool) (held : BitVec 32) :
    M.Quiet (Machine.dFill line pline a swap report held) := by
  unfold Machine.dFill
  repeat' first
    | with_reducible exact pure _ | with_reducible exact draw _ | with_reducible exact settle _ _
    | with_reducible exact drainFor _ | with_reducible exact readNext _ _ _ _ _
    | with_reducible exact dAllocate _ _ _ _ _
    | refine bind ?_ fun _ => ?_
    | split
    | (refine .update fun s => ?_; first | (constructor <;> first | rfl | exact id) | (split <;> constructor <;> first | rfl | exact id))
    | dsimp only

theorem readPast (line : BitVec 27) (pa : PAddr) (a : Attr) (n : Nat) (swap : Bool) :
    M.Quiet (Machine.readPast line pa a n swap) := by
  unfold Machine.readPast
  repeat' first
    | with_reducible exact l2Bypass _ _ | with_reducible exact pure _ | with_reducible exact state | with_reducible exact settle _ _ | with_reducible exact busRead _ _ | with_reducible exact readNext _ _ _ _ _
    | refine bind ?_ fun _ => ?_
    | split
    | (refine .update fun s => ?_; first | (constructor <;> first | rfl | exact id) | (split <;> constructor <;> first | rfl | exact id))
    | dsimp only

theorem strayAccess (set way : Nat) (x : DLine) : M.Quiet (Machine.strayAccess set way x) := by
  unfold Machine.strayAccess
  repeat' first
    | with_reducible exact state | with_reducible exact require _ _
    | refine bind ?_ fun _ => ?_
    | split
    | (refine .update fun s => ?_; first | (constructor <;> first | rfl | exact id) | (split <;> constructor <;> first | rfl | exact id))
    | dsimp only

theorem sameOuter (x : DLine) (a : Attr) : M.Quiet (x.sameOuter a) :=
  bind state fun _ => require _ _

theorem dRead (mva : Word) (pa : PAddr) (a : Attr) (n : Nat) (swap : Bool) : M.Quiet (Machine.dRead mva pa a n swap) := by
  unfold Machine.dRead
  repeat' first
    | with_reducible exact barrier | with_reducible exact pure _ | with_reducible exact state | with_reducible exact draw _ | with_reducible exact drainAll | with_reducible exact drainFor _
    | with_reducible exact dHit _ _ _ _ | with_reducible exact dFill _ _ _ _ _ _ | with_reducible exact readPast _ _ _ _ _ | with_reducible exact strayAccess _ _ _ | with_reducible exact sameOuter _ _
    | refine bind ?_ fun _ => ?_
    | split
    | (refine .update fun s => ?_; first | (constructor <;> first | rfl | exact id) | (split <;> constructor <;> first | rfl | exact id))
    | dsimp only

theorem dWrite (mva : Word) (pa : PAddr) (a : Attr) (n : Nat) (v : BitVec (8 * n)) : M.Quiet (Machine.dWrite mva pa a n v) := by
  unfold Machine.dWrite
  repeat' first
    | with_reducible exact barrier | with_reducible exact pure _ | with_reducible exact state | with_reducible exact drainAll | with_reducible exact storeNext _ _ | with_reducible exact strayAccess _ _ _ | with_reducible exact sameOuter _ _
    | refine bind ?_ fun _ => ?_
    | split
    | (refine .update fun s => ?_; first | (constructor <;> first | rfl | exact id) | (split <;> constructor <;> first | rfl | exact id))
    | dsimp only

theorem iLine (mva : Word) (pa : PAddr) (cacheable outer shared : Bool) : M.Quiet (Machine.iLine mva pa cacheable outer shared) := by
  unfold Machine.iLine
  repeat' first
    | with_reducible exact pure _ | with_reducible exact state | with_reducible exact settle _ _ | with_reducible exact readNext _ _ _ _ _
    | refine bind ?_ fun _ => ?_
    | split
    | (refine .update fun s => ?_; first | (constructor <;> first | rfl | exact id) | (split <;> constructor <;> first | rfl | exact id))
    | dsimp only

theorem iRead (mva : Word) (pa : PAddr) (cacheable outer shared : Bool) : M.Quiet (Machine.iRead mva pa cacheable outer shared) := by
  unfold Machine.iRead
  repeat' first
    | with_reducible exact pure _ | with_reducible exact state | with_reducible exact draw _ | with_reducible exact settle _ _ | with_reducible exact iLine _ _ _ _ _
    | refine bind ?_ fun _ => ?_
    | split
    | (refine .update fun s => ?_; first | (constructor <;> first | rfl | exact id) | (split <;> constructor <;> first | rfl | exact id))
    | dsimp only

/-! ## Accesses -/

theorem noteBreak (mva : Word) (n : Nat) (store : Bool) : M.Quiet (M.update (·.noteBreak mva n store)) := by
  refine .update fun s => ?_
  unfold State.noteBreak
  split <;> constructor <;> first | rfl | exact id

theorem checkAlign (mva : Word) (n : Nat) : M.Quiet (Machine.checkAlign mva n) := by
  unfold Machine.checkAlign Machine.alignmentAbort
  repeat' first
    | with_reducible exact pure _ | with_reducible exact state | with_reducible exact require _ _
    | with_reducible exact draw _ | with_reducible exact stop _
    | refine bind ?_ fun _ => ?_
    | split
    | (refine .update fun s => ?_; first | (constructor <;> first | rfl | exact id) | (split <;> constructor <;> first | rfl | exact id))
    | dsimp only

theorem locateMva (mva : Word) (kind : AccessKind) (user : Bool) : M.Quiet (Machine.locateMva mva kind user) := by
  unfold Machine.locateMva
  repeat' first
    | with_reducible exact pure _ | with_reducible exact state | with_reducible exact stop _
    | with_reducible exact translate _ _ _ | with_reducible exact attributes _
    | refine bind ?_ fun _ => ?_
    | split
    | (refine .update fun s => ?_; first | (constructor <;> first | rfl | exact id) | (split <;> constructor <;> first | rfl | exact id))
    | dsimp only

theorem locate (va : Word) (n : Nat) (kind : AccessKind) (user : Bool) : M.Quiet (Machine.locate va n kind user) := by
  unfold Machine.locate
  repeat' first
    | with_reducible exact pure _ | with_reducible exact state | with_reducible exact noteBreak _ _ _
    | with_reducible exact checkAlign _ _ | with_reducible exact locateMva _ _ _
    | refine bind ?_ fun _ => ?_
    | split
    | (refine .update fun s => ?_; first | (constructor <;> first | rfl | exact id) | (split <;> constructor <;> first | rfl | exact id))
    | dsimp only

theorem memRead (va : Word) (n : Nat) (user : Bool) : M.Quiet (Machine.memRead va n user) := by
  unfold Machine.memRead
  repeat' first
    | with_reducible exact state | with_reducible exact dRead _ _ _ _ _ | with_reducible exact locate _ _ _ _
    | refine bind ?_ fun _ => ?_
    | split
    | (refine .update fun s => ?_; first | (constructor <;> first | rfl | exact id) | (split <;> constructor <;> first | rfl | exact id))
    | dsimp only

theorem memWrite (va : Word) (n : Nat) (v : BitVec (8 * n)) (user : Bool) : M.Quiet (Machine.memWrite va n v user) := by
  unfold Machine.memWrite
  repeat' first
    | with_reducible exact state | with_reducible exact dWrite _ _ _ _ _ | with_reducible exact locate _ _ _ _
    | refine bind ?_ fun _ => ?_
    | split
    | (refine .update fun s => ?_; first | (constructor <;> first | rfl | exact id) | (split <;> constructor <;> first | rfl | exact id))
    | dsimp only

theorem loadWord (va : Word) (user : Bool) : M.Quiet (Machine.loadWord va user) := by
  unfold Machine.loadWord
  repeat' first
    | with_reducible exact pure _ | with_reducible exact memRead _ _ _
    | refine bind ?_ fun _ => ?_
    | split
    | (refine .update fun s => ?_; first | (constructor <;> first | rfl | exact id) | (split <;> constructor <;> first | rfl | exact id))
    | dsimp only

theorem memSwap (va : Word) (n : Nat) (v : BitVec (8 * n)) : M.Quiet (Machine.memSwap va n v) := by
  unfold Machine.memSwap
  repeat' first
    | with_reducible exact barrier | with_reducible exact pure _ | with_reducible exact state | with_reducible exact asUser
    | with_reducible exact drainAll | with_reducible exact dRead _ _ _ _ _ | with_reducible exact dWrite _ _ _ _ _
    | with_reducible exact locate _ _ _ _
    | refine bind ?_ fun _ => ?_
    | split
    | (refine .update fun s => ?_; first | (constructor <;> first | rfl | exact id) | (split <;> constructor <;> first | rfl | exact id))
    | dsimp only

theorem preload (va : Word) : M.Quiet (Machine.preload va) := by
  unfold Machine.preload
  repeat' first
    | with_reducible exact pure _ | with_reducible exact state | with_reducible exact translate _ _ _
    | with_reducible exact attributes _ | with_reducible exact dFill _ _ _ _ _ _
    | refine bind ?_ fun _ => ?_
    | split
    | (refine .update fun s => ?_; first | (constructor <;> first | rfl | exact id) | (split <;> constructor <;> first | rfl | exact id))
    | dsimp only

theorem noWrap (va : Word) (bytes : Nat) : M.Quiet (Machine.noWrap va bytes) := by
  unfold Machine.noWrap
  repeat' first
    | with_reducible exact require _ _
    | refine bind ?_ fun _ => ?_
    | split
    | (refine .update fun s => ?_; first | (constructor <;> first | rfl | exact id) | (split <;> constructor <;> first | rfl | exact id))
    | dsimp only

theorem fetchSram  : M.Quiet Machine.fetchSram := by
  unfold Machine.fetchSram
  repeat' first
    | with_reducible exact pure _ | with_reducible exact state | with_reducible exact require _ _
    | refine bind ?_ fun _ => ?_
    | split
    | (refine .update fun s => ?_; first | (constructor <;> first | rfl | exact id) | (split <;> constructor <;> first | rfl | exact id))
    | dsimp only

theorem fetchPage (mva : Word) : M.Quiet (Machine.fetchPage mva) := by
  unfold Machine.fetchPage
  repeat' first
    | with_reducible exact pure _ | with_reducible exact state | with_reducible exact require _ _
    | with_reducible exact translate _ _ _ | with_reducible exact attributes _
    | refine bind ?_ fun _ => ?_
    | split
    | (refine .update fun s => ?_; first | (constructor <;> first | rfl | exact id) | (split <;> constructor <;> first | rfl | exact id))
    | dsimp only

theorem fetch  : M.Quiet Machine.fetch := by
  unfold Machine.fetch
  repeat' first
    | with_reducible exact pure _ | with_reducible exact state | with_reducible exact iRead _ _ _ _ _
    | with_reducible exact fetchSram | with_reducible exact fetchPage _
    | refine bind ?_ fun _ => ?_
    | split
    | (refine .update fun s => ?_; first | (constructor <;> first | rfl | exact id) | (split <;> constructor <;> first | rfl | exact id))
    | dsimp only

end Quiet

end Sys2Proof.Machine
end

