-- ==== Sys2Proof/Laws/System.lean ====
section
/-! SUPPORT. The templates of the system instructions: what one that is allowed answers, from what its effect answers. -/

namespace Sys2Proof.Machine

variable {s s' : State} {c : Cond} {rd : Reg}

theorem notPc_one (h : rd ≠ 15) : notPc [rd] = true := by
  have h' : ¬ rd = 15#4 := h
  simp [notPc, h']

theorem zeroBits_apply (v mask : Word) :
    zeroBits v mask s = if v &&& mask = 0 then .ok () s else .error (.refuse .reservedBitWritten) s := by
  by_cases h : v &&& mask = 0#32 <;> simp [zeroBits, M.require, h]

theorem anyBits_apply (v mask : Word) :
    anyBits v mask s = .ok ((v &&& ~~~mask) ||| ((s.draw 32).1 &&& mask)) (s.draw 32).2 := rfl

/-- An allowed MCR: its effect on the value of Rd, then the pc. -/
theorem systemWrite_runs (h : s.RunsArm c) (hp : s.privileged = true) (h15 : rd ≠ 15) {effect : Word → M Unit} {u : Unit}
    (e : effect (s.readReg rd) s = .ok u s') : systemWrite c rd effect s = .next s'.advance := by
  simp [systemWrite, runIf_holds _ h.holds, finish, M.bind_apply, privilegedOnly, hp, allowed_true _ (notPc_one h15),
    reg_ready h.ready, e]

theorem systemWrite_refused (h : s.RunsArm c) (hp : s.privileged = true) (h15 : rd ≠ 15) {effect : Word → M Unit}
    {r : Refusal} (e : effect (s.readReg rd) s = .error (.refuse r) s') : systemWrite c rd effect s = .refused r := by
  simp [systemWrite, runIf_holds _ h.holds, finish, M.bind_apply, privilegedOnly, hp, allowed_true _ (notPc_one h15),
    reg_ready h.ready, e]

theorem userWrite_runs (h : s.RunsArm c) (h15 : rd ≠ 15) {effect : Word → M Unit} {u : Unit}
    (e : effect (s.readReg rd) s = .ok u s') : userWrite c rd effect s = .next s'.advance := by
  simp [userWrite, runIf_holds _ h.holds, finish, M.bind_apply, allowed_true _ (notPc_one h15), reg_ready h.ready, e]

/-- An allowed MRC of CP15: the value to Rd, then the pc. -/
theorem systemRead_runs (h : s.RunsArm c) (hp : s.privileged = true) (h15 : rd ≠ 15) {value : M Word} {v : Word}
    (e : value s = .ok v s') : systemRead c rd value s = .next (s'.writeReg rd v).advance := by
  simp [systemRead, runIf_holds _ h.holds, finish, M.bind_apply, privilegedOnly, hp, allowed_true _ (notPc_one h15), e]

/-- An allowed MRC of CP14 or CP7: the value to Rd, or its top bits to the flags. -/
theorem flagRead_runs (h : s.RunsArm c) (hp : s.privileged = true) {value : M Word} {v : Word}
    (e : value s = .ok v s') : flagRead c rd value s =
      .next ((if rd = 15 then s'.mapCpsr (·.withTop v) else s'.writeReg rd v).advance) := by
  by_cases h15 : rd = 15#4 <;>
    simp [flagRead, runIf_holds _ h.holds, finish, M.bind_apply, privilegedOnly, hp, e, h15]

theorem flagRead_refused (h : s.RunsArm c) (hp : s.privileged = true) {value : M Word} {r : Refusal}
    (e : value s = .error (.refuse r) s') : flagRead c rd value s = .refused r := by
  simp [flagRead, runIf_holds _ h.holds, finish, M.bind_apply, privilegedOnly, hp, e]

/-- In User mode a privileged system instruction is undefined. -/
theorem privilegedOnly_user (h : s.privileged = false) : privilegedOnly s = .error .undefined s := by
  simp [privilegedOnly, M.bind_apply, h]

end Sys2Proof.Machine
end

