-- ==== Sys2Proof/Tests/Slice0.lean ====
section
/-! SUPPORT. Tests: the checks of WellFormed refuse ill-formed terms, one decoded word for each row of the opcode table, the
worked values of spec 95 (T1 to T22) and of the instruction rules, and a witness for the hypotheses of every statement. -/

namespace Sys2Proof.Tests

open Sys2Proof.Machine

set_option Elab.async false

/-! ## Well-formed instructions: one ill-formed term, or more, for each check -/

/-- Every term is refused, and every one of the others is well formed. -/
def refuses (bad good : List Instr) : Bool := bad.all (fun i => !i.wellFormed) && good.all Instr.wellFormed

/-- R15 where a rule calls it UNPREDICTABLE (93 U61). -/
theorem test_wf_pc_operand : refuses
    [.and .al false 1 0 (.shiftReg 2 .lsl 15), .mov .al false 0 15 (.shiftReg 2 .lsl 1), .clz .al 15 15 15 1,
      .mul .al false 15 0 2 1, .umull .al false 15 1 2 3, .qadd .al 1 15 0 2, .ldrb .al true true false 1 15 (.imm 4),
      .swp .al 1 0 0 15, .blxReg .al 15 15 15 15, .mrs .al false 15 15 0 0, .mia .al 15 0 1,
      .mar .al 15 0 0, .mrcMainId .al 15, .tBlxReg true 7 0]
    [.and .al false 1 15 (.shiftImm 0 .lsl 15), .mov .al false 0 15 (.imm 0 8), .ldr .al true true false 1 15 (.imm 4),
      .mrc .al 0 1 15 7 0 0] = true := by decide +kernel

/-- Should-be-zero and should-be-one fields (30 R408). -/
theorem test_wf_should_be_fields : refuses
    [.tst .al 1 1 (.imm 0 1), .mov .al false 1 0 (.imm 0 1), .mul .al false 0 1 2 1, .qadd .al 1 0 1 2,
      .swp .al 1 0 1 2, .mrs .al false 14 0 0 0, .mrs .al false 15 0 1 0, .msrReg .al false 8 15 1 0,
      .msrImm .al false 8 14 0 0, .bx .al 15 14 15 0, .clz .al 14 0 15 1, .mia .al 1 1 2, .mar .al 1 0 1,
      .ldrh .al true true false 1 0 (.reg 1 2), .tBx false 1 1, .ldmUser .al false true true 0 2,
      .stmUser .al false true true 0 2]
    [.tst .al 1 0 (.imm 0 1), .mrs .al false 15 0 0 0, .bx .al 15 15 15 0, .tBx false 1 0] = true := by decide +kernel

/-- RdHi and RdLo the same register; SWP with Rn the same as Rm or Rd (41 R486, 42 R570). -/
theorem test_wf_same_register : refuses
    [.umull .al false 4 4 2 3, .smlal .al false 4 4 2 3, .smlalxy .al 4 4 2 false false 3, .mra .al 1 1 0,
      .swp .al 1 0 0 1, .swp .al 1 1 0 2]
    [.umull .al false 4 5 5 4, .swp .al 2 1 0 1] = true := by decide +kernel

/-- The base under write-back: not R15, not the transfer register (42 R531); a register offset is not R15, nor the base
under write-back; no P = 0, W = 1 in the halfword forms (42 R532). -/
theorem test_wf_base : refuses
    [.ldr .al true true true 15 0 (.imm 4), .ldr .al true true true 1 1 (.imm 4), .str .al false true false 1 1 (.imm 4),
      .ldr .al true true false 1 0 (.reg 0 .lsl 15), .ldr .al true true true 1 0 (.reg 0 .lsl 1),
      .ldrh .al false true true 1 0 (.imm 0 2), .strh .al true true true 1 1 (.imm 0 2), .pld true 1 (.reg 0 .lsl 15)]
    [.ldr .al true true false 15 0 (.imm 4), .ldr .al true true false 1 1 (.imm 4), .ldrh .al false true false 1 0 (.imm 0 2)]
    = true := by decide +kernel

/-- The doubleword pair: not R14, apart from the base under write-back and from the offset register (42 R552, R553). -/
theorem test_wf_pair : refuses
    [.ldrd .al true true false 1 14 (.imm 0 8), .ldrd .al true true true 3 2 (.imm 0 8), .strd .al true true true 2 2 (.imm 0 8),
      .ldrd .al true true false 1 2 (.reg 0 3), .ldrd .al true true false 1 2 (.reg 0 15)]
    [.ldrd .al true true false 2 2 (.imm 0 8), .ldrd .al true true false 1 3 (.imm 0 8)] = true := by decide +kernel

/-- Register lists: not empty; the base not R15, under write-back not in an LDM list, first in an STM list (42 R533). -/
theorem test_wf_lists : refuses
    [.ldm .al false true false 0 0, .ldm .al false true false 15 2, .ldm .al false true true 0 3, .stm .al false true true 1 3,
      .ldmReturn .al false true true 0 1, .ldmUser .al false true false 0 0, .tPush false 0, .tPop false 0, .tStmia 1 3,
      .tLdmia 0 0]
    [.ldm .al false true false 0 3, .stm .al false true true 0 3, .tPush true 0, .tLdmia 0 3, .tStmia 0 3] = true := by
  decide +kernel

/-- Thumb high-register forms with both H bits clear, and a compare of R15 (46 R750 to R752). -/
theorem test_wf_thumb_high : refuses
    [.tAddHi false false 1 0, .tMovHi false false 1 0, .tCmpHi false false 1 0, .tCmpHi true true 1 7]
    [.tAddHi true false 1 0, .tMovHi false true 1 0] = true := by decide +kernel

/-- Terms whose bits are another row's: P = 0, W = 1 of a word transfer is its T form; a coprocessor register the core has; MCRR
and MRRC of CP0; LDC and STC of CP14, and the patterns of MCRR and MRRC; a Thumb branch with condition AL. -/
theorem test_wf_other_row : refuses
    [.ldr .al false true true 1 0 (.imm 4), .strb .al false true true 1 0 (.imm 4), .mcr .al 0 1 0 15 0 0,
      .mrc .al 0 0 0 15 0 0, .mcr .al 1 0 0 0 0 1, .mcrr .al 0 1 0 0 0, .mrrc .al 0 1 0 0 0,
      .ldc .al true true false false 1 8 14 0, .stc .al false false false false 1 8 1 0, .ldc2 false false false false 1 8 1 0,
      .stc2 false false false false 1 8 1 0, .ldcP14 .al false false false false 1 8 0, .stcP14 .al false false false false 1 8 0,
      .tBCond .al 0]
    [.mcr .al 0 7 0 15 7 7, .mcrr .al 0 1 4 0 0, .ldc .al true true false false 1 8 1 0, .tBCond .ne 0] = true := by
  decide +kernel

/-! ## Decoding: a word of every row of the opcode table, each field at a value of its own -/

/-- Each word decodes to its instruction. -/
def decodes (nbits : Nat) (rows : List (Nat × Instr)) : Bool := rows.all fun x => decodeTableWord nbits x.1 == some x.2

/-- Rows of the opcode table, one word each: data processing and to rsc. -/
theorem test_decode_data_processing_and_to_rsc : decodes 32 [
    (0xA20C1230, .and .ge false 12 1 (.imm 2 48)),
    (0xA00612ED, .and .ge false 6 1 (.shiftImm 5 .ror 13)),
    (0x0002D117, .and .eq false 2 13 (.shiftReg 1 .lsl 7)),
    (0xE22C1717, .eor .al false 12 1 (.imm 7 23)),
    (0xE029D489, .eor .al false 9 13 (.shiftImm 9 .lsl 9)),
    (0xE0236B12, .eor .al false 3 6 (.shiftReg 11 .lsl 2)),
    (0xE246FDA0, .sub .al false 6 15 (.imm 13 160)),
    (0xD05B97A7, .sub .le true 11 9 (.shiftImm 15 .lsr 7)),
    (0x005FAE52, .sub .eq true 15 10 (.shiftReg 14 .asr 2)),
    (0x0275A4FA, .rsb .eq true 5 10 (.imm 4 250)),
    (0xD062AACF, .rsb .le false 2 10 (.shiftImm 21 .asr 15)),
    (0xE0722872, .rsb .al true 2 2 (.shiftReg 8 .ror 2)),
    (0x029E9CB1, .add .eq true 14 9 (.imm 12 177)),
    (0x009B53E1, .add .eq true 11 5 (.shiftImm 7 .ror 1)),
    (0x10947C7F, .add .ne true 4 7 (.shiftReg 12 .ror 15)),
    (0x02AEC846, .adc .eq false 14 12 (.imm 8 70)),
    (0xD0BDBC24, .adc .le true 13 11 (.shiftImm 24 .lsr 4)),
    (0x00A4771F, .adc .eq false 4 7 (.shiftReg 7 .lsl 15)),
    (0xE2C8904A, .sbc .al false 8 9 (.imm 0 74)),
    (0xD0DA41EC, .sbc .le true 10 4 (.shiftImm 3 .ror 12)),
    (0xD0DC3F71, .sbc .le true 12 3 (.shiftReg 15 .ror 1)),
    (0x12E6E538, .rsc .ne false 6 14 (.imm 5 56)),
    (0xA0E3048B, .rsc .ge false 3 0 (.shiftImm 9 .lsl 11)),
    (0xE0E26C38, .rsc .al false 2 6 (.shiftReg 12 .lsr 8)),
    (0xA31B0F3E, .tst .ge 11 0 (.imm 15 62))] = true := by decide +kernel

/-- Rows of the opcode table, one word each: data processing to clz. -/
theorem test_decode_data_processing_to_clz : decodes 32 [
    (0x011F0EEF, .tst .eq 15 0 (.shiftImm 29 .ror 15)),
    (0xA112041A, .tst .ge 2 0 (.shiftReg 4 .lsl 10)),
    (0xA33F050B, .teq .ge 15 0 (.imm 5 11)),
    (0x113B0489, .teq .ne 11 0 (.shiftImm 9 .lsl 9)),
    (0x01380B3B, .teq .eq 8 0 (.shiftReg 11 .lsr 11)),
    (0x135A0763, .cmp .ne 10 0 (.imm 7 99)),
    (0x115C072F, .cmp .ne 12 0 (.shiftImm 14 .lsr 15)),
    (0xA150005F, .cmp .ge 0 0 (.shiftReg 0 .asr 15)),
    (0xA3760BE4, .cmn .ge 6 0 (.imm 11 228)),
    (0xA17B02A3, .cmn .ge 11 0 (.shiftImm 5 .lsr 3)),
    (0x117F0656, .cmn .ne 15 0 (.shiftReg 6 .asr 6)),
    (0xD38FB23D, .orr .le false 15 11 (.imm 2 61)),
    (0xD18F5DC2, .orr .le false 15 5 (.shiftImm 27 .asr 2)),
    (0xD19C2534, .orr .le true 12 2 (.shiftReg 5 .lsr 4)),
    (0x03A0E4F2, .mov .eq false 0 14 (.imm 4 242)),
    (0xA1A04083, .mov .ge false 0 4 (.shiftImm 1 .lsl 3)),
    (0xE1A0D630, .mov .al false 0 13 (.shiftReg 6 .lsr 0)),
    (0xA3C97A84, .bic .ge false 9 7 (.imm 10 132)),
    (0xE1D41B6D, .bic .al true 4 1 (.shiftImm 22 .ror 13)),
    (0xE1C40E30, .bic .al false 4 0 (.shiftReg 14 .lsr 0)),
    (0x13E04F3D, .mvn .ne false 0 4 (.imm 15 61)),
    (0xE1E0AF01, .mvn .al false 0 10 (.shiftImm 30 .lsl 1)),
    (0x11E0811E, .mvn .ne false 0 8 (.shiftReg 1 .lsl 14)),
    (0xE16F0F12, .clz .al 15 0 15 2)] = true := by decide +kernel

/-- Rows of the opcode table, one word each: multiply. -/
theorem test_decode_multiply : decodes 32 [
    (0xD016089E, .mul .le true 6 0 8 14),
    (0xE037869E, .mla .al true 7 8 6 14),
    (0x1093CE9A, .umull .ne true 3 12 14 10),
    (0x00AD2699, .umlal .eq false 13 2 6 9),
    (0x00CB4894, .smull .eq false 11 4 8 4),
    (0xD0E3CF95, .smlal .le false 3 12 15 5),
    (0x11650DED, .smulxy .ne 5 0 13 true true 13),
    (0x112B0AAB, .smulwy .ne 11 0 10 false 11),
    (0x010AEEAA, .smlaxy .eq 10 14 14 false true 10),
    (0xE1292383, .smlawy .al 9 2 3 false 3),
    (0x014881A4, .smlalxy .eq 8 8 1 false true 4),
    (0xD108C054, .qadd .le 8 12 0 4),
    (0xE12FA052, .qsub .al 15 10 0 2),
    (0xA141505D, .qdadd .ge 1 5 0 13),
    (0x01680052, .qdsub .eq 8 0 0 2)] = true := by decide +kernel

/-- Rows of the opcode table, one word each: load store single. -/
theorem test_decode_load_store_single : decodes 32 [
    (0xA4183E85, .ldr .ge false false false 8 3 (.imm 3717)),
    (0x07B41785, .ldr .eq true true true 4 1 (.reg 15 .lsl 5)),
    (0xA4599696, .ldrb .ge false false false 9 9 (.imm 1686)),
    (0xA77B0800, .ldrb .ge true false true 11 0 (.reg 16 .lsl 0)),
    (0x048E3DD4, .str .eq false true false 14 3 (.imm 3540)),
    (0xD787A62C, .str .le true true false 7 10 (.reg 12 .lsr 12)),
    (0xA4428DC8, .strb .ge false false false 2 8 (.imm 3528)),
    (0x16CB504C, .strb .ne false true false 11 5 (.reg 0 .asr 12)),
    (0x04B867F1, .ldrt .eq true 8 6 (.imm 2033)),
    (0xE63282AC, .ldrt .al false 2 8 (.reg 5 .lsr 12)),
    (0xE47C0996, .ldrbt .al false 12 0 (.imm 2454)),
    (0xA6724C4F, .ldrbt .ge false 2 4 (.reg 24 .asr 15)),
    (0x14A41DBC, .strt .ne true 4 1 (.imm 3516)),
    (0xE6207281, .strt .al false 0 7 (.reg 5 .lsl 1)),
    (0x14E3CE71, .strbt .ne true 3 12 (.imm 3697)),
    (0xE6607FC0, .strbt .al false 0 7 (.reg 31 .asr 0)),
    (0xD05F82B8, .ldrh .le false false false 15 8 (.imm 2 8)),
    (0x103FC0B2, .ldrh .ne false false true 15 12 (.reg 0 2))] = true := by decide +kernel

/-- Rows of the opcode table, one word each: load store multiple. -/
theorem test_decode_load_store_multiple : decodes 32 [
    (0xD1524AF8, .ldrsh .le true false false 2 4 (.imm 10 8)),
    (0xA031F0F8, .ldrsh .ge false false true 1 15 (.reg 0 8)),
    (0x00F9EEDE, .ldrsb .eq false true true 9 14 (.imm 14 14)),
    (0x009F00D9, .ldrsb .eq false true false 15 0 (.reg 0 9)),
    (0xD0EC66B2, .strh .le false true true 12 6 (.imm 6 2)),
    (0xE02B40B8, .strh .al false false true 11 4 (.reg 0 8)),
    (0x016FC0D5, .ldrd .eq true false true 15 12 (.imm 0 5)),
    (0x01A940DD, .ldrd .eq true true true 9 4 (.reg 0 13)),
    (0xA1CA0AFA, .strd .ge true true false 10 0 (.imm 10 10)),
    (0xD00980FB, .strd .le false false false 9 8 (.reg 0 11)),
    (0xF55CFC7C, .pld false 12 (.imm 3196)),
    (0xF75BFDC1, .pld false 11 (.reg 27 .asr 1)),
    (0xA8347FA7, .ldm .ge false false true 4 32679),
    (0xA9D65F93, .ldmUser .ge true true false 6 24467),
    (0xD8D28CAA, .ldmReturn .le false true false 2 3242),
    (0xD92F1913, .stm .le true false true 15 6419),
    (0xE84FD469, .stmUser .al false false false 15 54377),
    (0xA1099098, .swp .ge 9 9 0 8),
    (0xA14C7099, .swpb .ge 12 7 0 9)] = true := by decide +kernel

/-- Rows of the opcode table, one word each: branch coprocessor. -/
theorem test_decode_branch_coprocessor : decodes 32 [
    (0xDAC9EA92, .b .le 13232786),
    (0x0B55AC99, .bl .eq 5614745),
    (0xFA267CC2, .blxImm false 2522306),
    (0x112FFF3F, .blxReg .ne 15 15 15 15),
    (0xE12FFF17, .bx .al 15 15 15 7),
    (0xD14FE000, .mrs .le true 15 14 0 0),
    (0xD326F72E, .msrImm .le false 6 15 7 46),
    (0x1162F00A, .msrReg .ne true 2 15 0 10),
    (0x1FBC9284, .swi .ne 12358276),
    (0xE1284476, .bkpt 2116 6),
    (0x0EDCD6C8, .cdp .eq 13 12 13 6 6 8),
    (0xAE0F8B56, .mcr .ge 0 15 8 11 2 6),
    (0x0E97CCFD, .mrc .eq 4 7 12 12 7 13),
    (0xAC3FF025, .ldc .ge false false false true 15 15 0 37),
    (0xDD874437, .stc .le true true false false 7 4 4 55),
    (0xDC421047, .mcrr .le 2 1 0 4 7),
    (0xEC51948D, .mrrc .al 1 9 4 8 13),
    (0xFE33296C, .cdp2 3 3 2 9 3 12),
    (0xFE87009E, .mcr2 4 7 0 0 4 14),
    (0xFE9A7F77, .mrc2 4 10 7 15 3 7),
    (0xFCD06FD7, .ldc2 false true true false 0 6 15 215),
    (0xFCAB7F11, .stc2 false true false true 11 7 15 17),
    (0xA7AEA67B, .undefinedSpace .ge 881971 11),
    (0xDE206019, .mia .le 6 0 9),
    (0xEE28207F, .miaph .al 2 3 15),
    (0x1E2C9077, .miabb .ne 9 3 7),
    (0xDE2D7099, .miabt .le 7 4 9),
    (0x0E2EF057, .miatb .eq 15 2 7),
    (0xDE2FD014, .miatt .le 13 0 4),
    (0xDC416000, .mar .le 1 6 0),
    (0xEC54D000, .mra .al 4 13 0)] = true := by decide +kernel

/-- Rows of the opcode table, one word each: cp15 registers. -/
theorem test_decode_cp15_registers : decodes 32 [
    (0x0E105F10, .mrcMainId .eq 5),
    (0xDE30EF10, .mrcL2Id .le 14),
    (0xAE103F30, .mrcCacheType .ge 3),
    (0x0E305F30, .mrcL2CacheType .eq 5),
    (0xAE016F10, .mcrControl .ge 6),
    (0x1E11EF10, .mrcControl .ne 14),
    (0x0E019F30, .mcrAuxControl .eq 9),
    (0xDE11BF30, .mrcAuxControl .le 11),
    (0xAE02EF10, .mcrTtBase .ge 14),
    (0x1E123F10, .mrcTtBase .ne 3),
    (0x0E032F10, .mcrDacr .eq 2),
    (0xAE132F10, .mrcDacr .ge 2),
    (0xAE05DF10, .mcrFsr .ge 13),
    (0x0E156F10, .mrcFsr .eq 6),
    (0xDE06BF10, .mcrFar .le 11),
    (0xAE16DF10, .mrcFar .ge 13),
    (0x0E091F16, .mcrDcLock .eq 1),
    (0xDE196F16, .mrcDcLock .le 6),
    (0xAE09EF12, .mcrDcLockLegacy .ge 14),
    (0x1E19AF12, .mrcDcLockLegacy .ne 10),
    (0xAE0DFF10, .mcrPid .ge 15),
    (0x0E1DDF10, .mrcPid .eq 13),
    (0x1E0ECF18, .mcrIbr0 .ne 12),
    (0x0E1ECF18, .mrcIbr0 .eq 12),
    (0x0E0EEF19, .mcrIbr1 .eq 14),
    (0x0E1E1F19, .mrcIbr1 .eq 1),
    (0xAE0E6F10, .mcrDbr0 .ge 6),
    (0x0E1EAF10, .mrcDbr0 .eq 10),
    (0xAE0E8F13, .mcrDbr1 .ge 8),
    (0xAE1E1F13, .mrcDbr1 .ge 1),
    (0xAE0EAF14, .mcrDbcon .ge 10),
    (0xAE1E9F14, .mrcDbcon .ge 9),
    (0x0E0F2F11, .mcrCpar .eq 2),
    (0x0E1F7F11, .mrcCpar .eq 7)] = true := by decide +kernel

/-- Rows of the opcode table, one word each: cp15 functions. -/
theorem test_decode_cp15_functions : decodes 32 [
    (0x0E07FF15, .invIcacheBtb .eq 15),
    (0xDE07CF35, .invIcacheLine .le 12),
    (0xAE07DFD5, .invBtb .ge 13),
    (0xDE074F16, .invDcache .le 4),
    (0xDE075F36, .invDcacheLine .le 5),
    (0x0E079F17, .invCachesBtb .eq 9),
    (0x1E077F3A, .cleanDcacheMva .ne 7),
    (0xAE07AF5A, .cleanDcacheSetWay .ge 10),
    (0xDE07BF3E, .cleanInvDcacheMva .le 11),
    (0xEE072F5E, .cleanInvDcacheSetWay .al 2),
    (0xEE076F95, .prefetchFlush .al 6),
    (0xDE075F9A, .dataWriteBarrier .le 5),
    (0x1E07DFBA, .dataMemoryBarrier .ne 13),
    (0x0E271F37, .invL2Mva .eq 1),
    (0xDE27AF3B, .cleanL2Mva .le 10),
    (0x1E27DF5B, .cleanL2SetWay .ne 13),
    (0x0E272F5F, .cleanInvL2SetWay .eq 2),
    (0xAE072FB2, .allocDcacheLine .ge 2),
    (0x1E083F17, .invTlbs .ne 3),
    (0xDE08FF15, .invItlb .le 15),
    (0xDE085F35, .invItlbEntry .le 5),
    (0x1E084F16, .invDtlb .ne 4),
    (0xDE08EF36, .invDtlbEntry .le 14),
    (0xEE097F15, .lockIcacheLine .al 7),
    (0xEE093F11, .lockIcacheLineLegacy .al 3),
    (0xAE099F35, .unlockIcache .ge 9),
    (0xAE098F31, .unlockIcacheLegacy .ge 8),
    (0xAE098F36, .unlockDcache .ge 8),
    (0xAE096F32, .unlockDcacheLegacy .ge 6)] = true := by decide +kernel

/-- Rows of the opcode table, one word each: lock and pmu. -/
theorem test_decode_lock_and_pmu : decodes 32 [
    (0xDE297F15, .lockL2Line .le 7),
    (0x1E297F55, .allocLockL2Line .ne 7),
    (0x1E294F35, .unlockL2 .ne 4),
    (0xAE0A6F14, .lockItlbEntry .ge 6),
    (0xAE0A2F34, .unlockItlb .ge 2),
    (0xDE0A8F18, .lockDtlbEntry .le 8),
    (0x1E0A7F38, .unlockDtlb .ne 7),
    (0x0E00EE11, .mcrPmnc .eq 14),
    (0x0E103E11, .mrcPmnc .eq 3),
    (0x0E01FE11, .mcrCcnt .eq 15),
    (0x1E11EE11, .mrcCcnt .ne 14),
    (0xAE041E11, .mcrInten .ge 1),
    (0xAE147E11, .mrcInten .ge 7),
    (0x0E051E11, .mcrFlag .eq 1),
    (0x1E156E11, .mrcFlag .ne 6),
    (0x0E08BE11, .mcrEvtsel .eq 11),
    (0xEE185E11, .mrcEvtsel .al 5),
    (0xDE008E12, .mcrPmn0 .le 8),
    (0x0E103E12, .mrcPmn0 .eq 3),
    (0xEE01BE12, .mcrPmn1 .al 11),
    (0x1E111E12, .mrcPmn1 .ne 1),
    (0xAE02AE12, .mcrPmn2 .ge 10),
    (0x1E121E12, .mrcPmn2 .ne 1),
    (0x1E038E12, .mcrPmn3 .ne 8),
    (0x0E136E12, .mrcPmn3 .eq 6)] = true := by decide +kernel

/-- Rows of the opcode table, one word each: cp14 cp7. -/
theorem test_decode_cp14_cp7 : decodes 32 [
    (0x0E06AE10, .mcrCclkcfg .eq 10),
    (0xDE16BE10, .mrcCclkcfg .le 11),
    (0x1E079E10, .mcrPwrmode .ne 9),
    (0x0E176E10, .mrcPwrmode .eq 6),
    (0x0E08FE10, .mcrTx .eq 15),
    (0xEE19FE10, .mrcRx .al 15),
    (0x0E0ADE10, .mcrDcsr .eq 13),
    (0x0E1ACE10, .mrcDcsr .eq 12),
    (0xEE1B4E10, .mrcTbreg .al 4),
    (0xEE0C2E10, .mcrChkpt0 .al 2),
    (0x1E1CCE10, .mrcChkpt0 .ne 12),
    (0xAE0DDE10, .mcrChkpt1 .ge 13),
    (0xAE1D9E10, .mrcChkpt1 .ge 9),
    (0xDE0E1E10, .mcrTxrxctrl .le 1),
    (0xAE1EBE10, .mrcTxrxctrl .ge 11),
    (0xDD5CCE68, .ldcP14 .le true false true false 12 12 104),
    (0x0D42CEBA, .stcP14 .eq true false true false 2 12 186),
    (0xDE005712, .mcrErrlog .le 5),
    (0x1E100712, .mrcErrlog .ne 0),
    (0x0E014712, .mcrErradrl .eq 4),
    (0xDE112712, .mrcErradrl .le 2),
    (0xEE02B712, .mcrErradru .al 11),
    (0xEE125712, .mrcErradru .al 5)] = true := by decide +kernel

/-- Rows of the opcode table, one word each: cp14 cp7. -/
theorem test_decode_cp14_cp7_halfwords : decodes 16 [
    (0x026C, .tLsl (.imm 9 5 4)),
    (0x0A91, .tLsr (.imm 10 2 1)),
    (0x11B7, .tAsr (.imm 6 6 7))] = true := by decide +kernel

/-- Rows of the opcode table, one word each: thumb data processing. -/
theorem test_decode_thumb_data_processing : decodes 16 [
    (0x18E2, .tAdd (.reg 3 4 2)),
    (0x1A3D, .tSub (.reg 0 7 5)),
    (0x1C31, .tAdd (.imm3 0 6 1)),
    (0x1E9E, .tSub (.imm3 2 3 6)),
    (0x23F2, .tMovImm8 3 242),
    (0x2A6F, .tCmp (.imm8 2 111)),
    (0x30CC, .tAdd (.imm8 0 204)),
    (0x3AC4, .tSub (.imm8 2 196)),
    (0x4029, .tAnd 5 1),
    (0x4053, .tEor 2 3),
    (0x4098, .tLsl (.reg 3 0)),
    (0x40C5, .tLsr (.reg 0 5)),
    (0x410E, .tAsr (.reg 1 6)),
    (0x417C, .tAdc 7 4),
    (0x41B4, .tSbc 6 4),
    (0x41DE, .tRorReg 3 6),
    (0x4235, .tTst 6 5),
    (0x427F, .tNeg 7 7),
    (0x4290, .tCmp (.reg 2 0)),
    (0x42C7, .tCmn 0 7),
    (0x433B, .tOrr 7 3),
    (0x437F, .tMul 7 7),
    (0x4397, .tBic 2 7),
    (0x43F1, .tMvn 6 1),
    (0x442E, .tAddHi false false 5 6),
    (0x45B8, .tCmpHi true false 7 0),
    (0x460D, .tMovHi false false 1 5),
    (0x4700, .tBx false 0 0),
    (0x47D0, .tBlxReg true 2 0),
    (0x4821, .tLdr 0 (.pc 33)),
    (0x505A, .tStr 2 (.reg 1 3)),
    (0x53E2, .tStrh 2 (.reg 7 4)),
    (0x54CD, .tStrb 5 (.reg 3 1)),
    (0x5715, .tLdrsbReg 4 2 5),
    (0x593A, .tLdr 2 (.reg 4 7)),
    (0x5B3B, .tLdrh 3 (.reg 4 7)),
    (0x5D1D, .tLdrb 5 (.reg 4 3))] = true := by decide +kernel

/-- Rows of the opcode table, one word each: thumb other. -/
theorem test_decode_thumb_other : decodes 16 [
    (0x5F43, .tLdrshReg 5 0 3),
    (0x62F2, .tStr 2 (.imm 11 6)),
    (0x6C6E, .tLdr 6 (.imm 17 5)),
    (0x72A1, .tStrb 1 (.imm 10 4)),
    (0x78EF, .tLdrb 7 (.imm 3 5)),
    (0x81A6, .tStrh 6 (.imm 6 4)),
    (0x8DE6, .tLdrh 6 (.imm 23 4)),
    (0x954A, .tStr 5 (.sp 74)),
    (0x9DA9, .tLdr 5 (.sp 169)),
    (0xA1E2, .tAddPc 1 226),
    (0xAB5A, .tAddSp 3 90),
    (0xB00C, .tIncSp 12),
    (0xB0CB, .tDecSp 75),
    (0xB59E, .tPush true 158),
    (0xBD00, .tPop true 0),
    (0xBE11, .tBkpt 17),
    (0xC34C, .tStmia 3 76),
    (0xCCDD, .tLdmia 4 221),
    (0xDDBA, .tBCond .le 186),
    (0xDE18, .tUndefined (.perm 24)),
    (0xDF43, .tSwi 67),
    (0xE7D0, .tB 2000),
    (0xEBA2, .tBlxSuffix 465),
    (0xE8BB, .tUndefined (.blxOdd 93)),
    (0xF05B, .tBlPrefix 91),
    (0xF8DE, .tBlSuffix 222),
    (0xB101, .tUndefined (.b0001 1)),
    (0xB36B, .tUndefined (.b001x 363)),
    (0xB737, .tUndefined (.b011x 311)),
    (0xB8D9, .tUndefined (.b10xx 217)),
    (0xBFB6, .tUndefined (.b1111 182))] = true := by decide +kernel

/-! ## One step on a small state: the worked values of spec 95 -/

/-- The status register with these bits. -/
def psrOf (v : Word) : Psr :=
  ⟨v.getLsbD 31, v.getLsbD 30, v.getLsbD 29, v.getLsbD 28, v.getLsbD 27, v.getLsbD 7, v.getLsbD 6, v.getLsbD 5,
    v.extractLsb' 0 5⟩

/-- The state after reset with this pc, CPSR, registers and words in memory. -/
def start (pc cpsr : Word) (regs : List (Reg × Word)) (words : List (PAddr × Word)) : State :=
  let s : State := { State.reset with
    pc := pc, cpsr := psrOf cpsr
    mem := words.foldl (fun m x => Memory.writeBytes m x.1 4 x.2 15) ([] : Memory) }
  regs.foldl (fun s x => s.setRegs (s.regs.set (s.bank x.1) x.2)) s

/-- The state with the right of CP0. -/
def withCp0 (s : State) : State := s.setCp15 { s.cp15 with cpar := 1 }

/-- The step from this state, with this word placed at its pc, answers a state with these values. -/
def runs (s : State) (nbits w : Nat) (p : State → Bool) : Bool :=
  match step (s.withFetchWord nbits w) with
  | .next t => p t
  | _ => false

/-- The pc, the CPSR, these registers and these words of memory. -/
def gives (pc cpsr : Word) (regs : List (Reg × Word)) (words : List (PAddr × Word)) (t : State) : Bool :=
  t.pc == pc && t.cpsr.toWord == cpsr && regs.all (fun x => t.readReg x.1 == x.2) &&
    words.all (fun x => t.mem.readBytes x.1 4 == x.2)

/-! T1 of spec 95: Data processing. -/

theorem test_mov_1 : runs (start 0x2000 0xd3 [(1, 1), (2, 0x20)] []) 32 0xE1B00211
    (gives 0x2004 0x600000d3 [(1, 1), (2, 0x20), (0, 0)] []) = true := by decide +kernel

theorem test_mov_2 : runs (start 0x2000 0x200000d3 [(1, 1), (2, 0x21)] []) 32 0xE1B00211
    (gives 0x2004 0x400000d3 [(1, 1), (2, 0x21), (0, 0)] []) = true := by decide +kernel

theorem test_tst_1 : runs (start 0x2000 0xd3 [(1, 0xffffffff), (2, 0x80000000)] []) 32 0xE1110082
    (gives 0x2004 0x600000d3 [(1, 0xffffffff), (2, 0x80000000)] []) = true := by decide +kernel

theorem test_and_1 : runs (start 0x2000 0xd3 [(1, 0xff), (2, 0xf8)] []) 32 0xE0110222
    (gives 0x2004 0x200000d3 [(1, 0xff), (2, 0xf8), (0, 0xf)] []) = true := by decide +kernel

theorem test_orr_1 : runs (start 0x2000 0xd3 [(1, 1)] []) 32 0xE3910102
    (gives 0x2004 0xa00000d3 [(1, 1), (0, 0x80000001)] []) = true := by decide +kernel

theorem test_add_1 : runs (start 0x2000 0xd3 [(1, 0x7fffffff), (2, 1)] []) 32 0xE0910002
    (gives 0x2004 0x900000d3 [(1, 0x7fffffff), (2, 1), (0, 0x80000000)] []) = true := by decide +kernel

theorem test_add_2 : runs (start 0x2000 0xd3 [(1, 0x80000000), (2, 0x80000000)] []) 32 0xE0910002
    (gives 0x2004 0x700000d3 [(1, 0x80000000), (2, 0x80000000), (0, 0)] []) = true := by decide +kernel

theorem test_adc_1 : runs (start 0x2000 0x200000d3 [(1, 0xffffffff), (2, 0)] []) 32 0xE0B10002
    (gives 0x2004 0x600000d3 [(1, 0xffffffff), (2, 0), (0, 0)] []) = true := by decide +kernel

theorem test_sub_1 : runs (start 0x2000 0xd3 [(1, 5), (2, 5)] []) 32 0xE0510002
    (gives 0x2004 0x600000d3 [(1, 5), (2, 5), (0, 0)] []) = true := by decide +kernel

theorem test_sub_2 : runs (start 0x2000 0xd3 [(1, 0x80000000), (2, 1)] []) 32 0xE0510002
    (gives 0x2004 0x300000d3 [(1, 0x80000000), (2, 1), (0, 0x7fffffff)] []) = true := by decide +kernel

theorem test_sbc_1 : runs (start 0x2000 0xd3 [(1, 0), (2, 0)] []) 32 0xE0D10002
    (gives 0x2004 0x800000d3 [(1, 0), (2, 0), (0, 0xffffffff)] []) = true := by decide +kernel

theorem test_sbc_2 : runs (start 0x2000 0x200000d3 [(1, 0), (2, 0)] []) 32 0xE0D10002
    (gives 0x2004 0x600000d3 [(1, 0), (2, 0), (0, 0)] []) = true := by decide +kernel

theorem test_rsb_1 : runs (start 0x2000 0xd3 [(1, 0x80000000)] []) 32 0xE2710000
    (gives 0x2004 0x900000d3 [(1, 0x80000000), (0, 0x80000000)] []) = true := by decide +kernel

theorem test_rsb_2 : runs (start 0x2000 0xd3 [(1, 0)] []) 32 0xE2710000
    (gives 0x2004 0x600000d3 [(1, 0), (0, 0)] []) = true := by decide +kernel

theorem test_rsc_1 : runs (start 0x2000 0xd3 [(1, 1), (2, 0)] []) 32 0xE0F10002
    (gives 0x2004 0x800000d3 [(1, 1), (2, 0), (0, 0xfffffffe)] []) = true := by decide +kernel

theorem test_cmn_1 : runs (start 0x2000 0xd3 [(1, 0x7fffffff), (2, 0x7fffffff)] []) 32 0xE1710002
    (gives 0x2004 0x900000d3 [(1, 0x7fffffff), (2, 0x7fffffff)] []) = true := by decide +kernel

theorem test_teq_1 : runs (start 0x2000 0x200000d3 [(1, 0x80000000), (2, 1)] []) 32 0xE1310002
    (gives 0x2004 0xa00000d3 [(1, 0x80000000), (2, 1)] []) = true := by decide +kernel

theorem test_bic_1 : runs (start 0x2000 0x200000d3 [(1, 0x1234)] []) 32 0xE1D10001
    (gives 0x2004 0x600000d3 [(1, 0x1234), (0, 0)] []) = true := by decide +kernel

theorem test_mvn_1 : runs (start 0x2000 0x200000d3 [(1, 0xffffffff)] []) 32 0xE1F00001
    (gives 0x2004 0x600000d3 [(1, 0xffffffff), (0, 0)] []) = true := by decide +kernel


/-! T2 of spec 95: Multiply. -/

theorem test_mul_1 : runs (start 0x2000 0x300000d3 [(1, 0xffffffff), (2, 2)] []) 32 0xE0100291
    (gives 0x2004 0xb00000d3 [(1, 0xffffffff), (2, 2), (0, 0xfffffffe)] []) = true := by decide +kernel

theorem test_mla_1 : runs (start 0x2000 0xd3 [(1, 0x10000), (2, 0x10000), (3, 7)] []) 32 0xE0203291
    (gives 0x2004 0xd3 [(1, 0x10000), (2, 0x10000), (3, 7), (0, 7)] []) = true := by decide +kernel

theorem test_umull_1 : runs (start 0x2000 0xd3 [(2, 0xffffffff), (3, 0xffffffff)] []) 32 0xE0910392
    (gives 0x2004 0x800000d3 [(2, 0xffffffff), (3, 0xffffffff), (0, 1), (1, 0xfffffffe)] []) = true := by decide +kernel

theorem test_smull_1 : runs (start 0x2000 0xd3 [(2, 0xffffffff), (3, 0xffffffff)] []) 32 0xE0D10392
    (gives 0x2004 0xd3 [(2, 0xffffffff), (3, 0xffffffff), (0, 1), (1, 0)] []) = true := by decide +kernel

theorem test_smull_2 : runs (start 0x2000 0xd3 [(2, 0x80000000), (3, 0x80000000)] []) 32 0xE0C10392
    (gives 0x2004 0xd3 [(2, 0x80000000), (3, 0x80000000), (0, 0), (1, 0x40000000)] []) = true := by decide +kernel

theorem test_umlal_1 : runs (start 0x2000 0xd3 [(0, 0xffffffff), (2, 1), (3, 1), (1, 0)] []) 32 0xE0A10392
    (gives 0x2004 0xd3 [(0, 0), (2, 1), (3, 1), (1, 1)] []) = true := by decide +kernel

theorem test_smlal_1 : runs (start 0x2000 0xd3 [(0, 1), (2, 0xffffffff), (3, 1), (1, 0)] []) 32 0xE0F10392
    (gives 0x2004 0x400000d3 [(0, 0), (2, 0xffffffff), (3, 1), (1, 0)] []) = true := by decide +kernel


/-! T3 of spec 95: DSP multiplies and saturating arithmetic. -/

theorem test_smulxy_1 : runs (start 0x2000 0xd3 [(1, 0x1234ffff), (2, 0x5678ffff)] []) 32 0xE1600281
    (gives 0x2004 0xd3 [(1, 0x1234ffff), (2, 0x5678ffff), (0, 1)] []) = true := by decide +kernel

theorem test_smulxy_2 : runs (start 0x2000 0xd3 [(1, 0x8000ffff), (2, 0x7fff)] []) 32 0xE16002A1
    (gives 0x2004 0xd3 [(1, 0x8000ffff), (2, 0x7fff), (0, 0xc0008000)] []) = true := by decide +kernel

theorem test_smlaxy_1 : runs (start 0x2000 0xd3 [(1, 0x7fff), (2, 0x7fff), (3, 0x7fffffff)] []) 32 0xE1003281
    (gives 0x2004 0x80000d3 [(1, 0x7fff), (2, 0x7fff), (3, 0x7fffffff), (0, 0xbfff0000)] []) = true := by decide +kernel

theorem test_smlaxy_2 : runs (start 0x2000 0xd3 [(1, 2), (2, 3), (3, 0xffffffff)] []) 32 0xE1003281
    (gives 0x2004 0xd3 [(1, 2), (2, 3), (3, 0xffffffff), (0, 5)] []) = true := by decide +kernel

theorem test_smulwy_1 : runs (start 0x2000 0xd3 [(1, 0x80000000), (2, 0x7fff)] []) 32 0xE12002A1
    (gives 0x2004 0xd3 [(1, 0x80000000), (2, 0x7fff), (0, 0xc0008000)] []) = true := by decide +kernel

theorem test_smulwy_2 : runs (start 0x2000 0xd3 [(1, 0x10000), (2, 0xffff0000)] []) 32 0xE12002E1
    (gives 0x2004 0xd3 [(1, 0x10000), (2, 0xffff0000), (0, 0xffffffff)] []) = true := by decide +kernel

theorem test_smlawy_1 : runs (start 0x2000 0xd3 [(1, 0x7fffffff), (2, 0x7fff), (3, 0x7fffffff)] []) 32 0xE1203281
    (gives 0x2004 0x80000d3 [(1, 0x7fffffff), (2, 0x7fff), (3, 0x7fffffff), (0, 0xbfff7ffe)] []) = true := by decide +kernel

theorem test_smlalxy_1 : runs (start 0x2000 0xd3 [(0, 0xffffffff), (2, 1), (3, 1), (1, 0)] []) 32 0xE1410382
    (gives 0x2004 0xd3 [(0, 0), (2, 1), (3, 1), (1, 1)] []) = true := by decide +kernel

theorem test_smlalxy_2 : runs (start 0x2000 0xd3 [(0, 0), (2, 0xffff0000), (3, 1), (1, 0)] []) 32 0xE14103A2
    (gives 0x2004 0xd3 [(0, 0xffffffff), (2, 0xffff0000), (3, 1), (1, 0xffffffff)] []) = true := by decide +kernel

theorem test_qadd_1 : runs (start 0x2000 0xd3 [(1, 0x7fffffff), (2, 1)] []) 32 0xE1020051
    (gives 0x2004 0x80000d3 [(1, 0x7fffffff), (2, 1), (0, 0x7fffffff)] []) = true := by decide +kernel

theorem test_qadd_2 : runs (start 0x2000 0xd3 [(1, 0x80000000), (2, 0xffffffff)] []) 32 0xE1020051
    (gives 0x2004 0x80000d3 [(1, 0x80000000), (2, 0xffffffff), (0, 0x80000000)] []) = true := by decide +kernel

theorem test_qsub_1 : runs (start 0x2000 0xd3 [(1, 0x80000000), (2, 1)] []) 32 0xE1220051
    (gives 0x2004 0x80000d3 [(1, 0x80000000), (2, 1), (0, 0x80000000)] []) = true := by decide +kernel

theorem test_qsub_2 : runs (start 0x2000 0xd3 [(1, 0x7fffffff), (2, 0xffffffff)] []) 32 0xE1220051
    (gives 0x2004 0x80000d3 [(1, 0x7fffffff), (2, 0xffffffff), (0, 0x7fffffff)] []) = true := by decide +kernel

theorem test_qdadd_1 : runs (start 0x2000 0xd3 [(1, 0), (2, 0x40000000)] []) 32 0xE1420051
    (gives 0x2004 0x80000d3 [(1, 0), (2, 0x40000000), (0, 0x7fffffff)] []) = true := by decide +kernel

theorem test_qdadd_2 : runs (start 0x2000 0xd3 [(1, 0x80000000), (2, 0x40000000)] []) 32 0xE1420051
    (gives 0x2004 0x80000d3 [(1, 0x80000000), (2, 0x40000000), (0, 0xffffffff)] []) = true := by decide +kernel

theorem test_qdsub_1 : runs (start 0x2000 0xd3 [(1, 0), (2, 0xc0000000)] []) 32 0xE1620051
    (gives 0x2004 0x80000d3 [(1, 0), (2, 0xc0000000), (0, 0x7fffffff)] []) = true := by decide +kernel

theorem test_qdsub_2 : runs (start 0x2000 0xd3 [(1, 0), (2, 0x80000000)] []) 32 0xE1620051
    (gives 0x2004 0x80000d3 [(1, 0), (2, 0x80000000), (0, 0x7fffffff)] []) = true := by decide +kernel


/-! T4 of spec 95: Single loads and stores. -/

theorem test_ldr_1 : runs (start 0x2000 0xd3 [(1, 0x9001)] [(0x9000, 0x44332211), (0x9004, 0x88776655), (0x9008, 0xccbbaa99), (0x900c, 0xffeedd)]) 32 0xE5910000
    (gives 0x2004 0xd3 [(1, 0x9001), (0, 0x11443322)] [(0x9000, 0x44332211)]) = true := by decide +kernel

theorem test_ldr_2 : runs (start 0x2000 0xd3 [(1, 0x9002)] [(0x9000, 0x44332211), (0x9004, 0x88776655), (0x9008, 0xccbbaa99), (0x900c, 0xffeedd)]) 32 0xE5910000
    (gives 0x2004 0xd3 [(1, 0x9002), (0, 0x22114433)] [(0x9000, 0x44332211)]) = true := by decide +kernel

theorem test_ldrb_1 : runs (start 0x2000 0xd3 [(1, 0x9008)] [(0x9000, 0x44332211), (0x9004, 0x88776655), (0x9008, 0xccbbaa99), (0x900c, 0xffeedd)]) 32 0xE5D10001
    (gives 0x2004 0xd3 [(1, 0x9008), (0, 0xaa)] [(0x9000, 0x44332211)]) = true := by decide +kernel

theorem test_ldrh_1 : runs (start 0x2000 0xd3 [(1, 0x9008)] [(0x9000, 0x44332211), (0x9004, 0x88776655), (0x9008, 0xccbbaa99), (0x900c, 0xffeedd)]) 32 0xE1D100B2
    (gives 0x2004 0xd3 [(1, 0x9008), (0, 0xccbb)] [(0x9000, 0x44332211)]) = true := by decide +kernel

theorem test_ldrsh_1 : runs (start 0x2000 0xd3 [(1, 0x9008)] [(0x9000, 0x44332211), (0x9004, 0x88776655), (0x9008, 0xccbbaa99), (0x900c, 0xffeedd)]) 32 0xE1D100F2
    (gives 0x2004 0xd3 [(1, 0x9008), (0, 0xffffccbb)] [(0x9000, 0x44332211)]) = true := by decide +kernel

theorem test_ldrsb_1 : runs (start 0x2000 0xd3 [(1, 0x9008)] [(0x9000, 0x44332211), (0x9004, 0x88776655), (0x9008, 0xccbbaa99), (0x900c, 0xffeedd)]) 32 0xE1D100D0
    (gives 0x2004 0xd3 [(1, 0x9008), (0, 0xffffff99)] [(0x9000, 0x44332211)]) = true := by decide +kernel

theorem test_ldrsb_2 : runs (start 0x2000 0xd3 [(1, 0x9008)] [(0x9000, 0x44332211), (0x9004, 0x88776655), (0x9008, 0xccbbaa99), (0x900c, 0xffeedd)]) 32 0xE15100D5
    (gives 0x2004 0xd3 [(1, 0x9008), (0, 0x44)] [(0x9000, 0x44332211)]) = true := by decide +kernel

theorem test_ldrh_2 : runs (start 0x2000 0xd3 [(1, 0x9004), (2, 6)] [(0x9000, 0x44332211), (0x9004, 0x88776655), (0x9008, 0xccbbaa99), (0x900c, 0xffeedd)]) 32 0xE09100B2
    (gives 0x2004 0xd3 [(1, 0x900a), (2, 6), (0, 0x6655)] [(0x9000, 0x44332211)]) = true := by decide +kernel

theorem test_ldrd_1 : runs (start 0x2000 0xd3 [(1, 0x9000)] [(0x9000, 0x44332211), (0x9004, 0x88776655), (0x9008, 0xccbbaa99), (0x900c, 0xffeedd)]) 32 0xE1C120D8
    (gives 0x2004 0xd3 [(1, 0x9000), (2, 0xccbbaa99), (3, 0xffeedd)] [(0x9000, 0x44332211)]) = true := by decide +kernel

theorem test_str_1 : runs (start 0x2000 0xd3 [(0, 0xdeadbeef), (1, 0x9006)] [(0x9000, 0x44332211), (0x9004, 0x88776655), (0x9008, 0xccbbaa99), (0x900c, 0xffeedd)]) 32 0xE5810000
    (gives 0x2004 0xd3 [(0, 0xdeadbeef), (1, 0x9006)] [(0x9004, 0xdeadbeef)]) = true := by decide +kernel

theorem test_strb_1 : runs (start 0x2000 0xd3 [(0, 0xdeadbeef), (1, 0x9006)] [(0x9000, 0x44332211), (0x9004, 0x88776655), (0x9008, 0xccbbaa99), (0x900c, 0xffeedd)]) 32 0xE5C10000
    (gives 0x2004 0xd3 [(0, 0xdeadbeef), (1, 0x9006)] [(0x9004, 0x88ef6655)]) = true := by decide +kernel

theorem test_strh_1 : runs (start 0x2000 0xd3 [(0, 0xdeadbeef), (1, 0x9006)] [(0x9000, 0x44332211), (0x9004, 0x88776655), (0x9008, 0xccbbaa99), (0x900c, 0xffeedd)]) 32 0xE16100B2
    (gives 0x2004 0xd3 [(0, 0xdeadbeef), (1, 0x9004)] [(0x9004, 0x8877beef)]) = true := by decide +kernel

theorem test_strd_1 : runs (start 0x2000 0xd3 [(2, 0x11111111), (3, 0x22222222), (1, 0x9000)] [(0x9000, 0x44332211), (0x9004, 0x88776655), (0x9008, 0xccbbaa99), (0x900c, 0xffeedd)]) 32 0xE0C120F8
    (gives 0x2004 0xd3 [(2, 0x11111111), (3, 0x22222222), (1, 0x9008)] [(0x9000, 0x11111111), (0x9004, 0x22222222)]) = true := by decide +kernel

theorem test_str_2 : runs (start 0x2000 0xd3 [(1, 0x9000)] [(0x9000, 0x44332211), (0x9004, 0x88776655), (0x9008, 0xccbbaa99), (0x900c, 0xffeedd)]) 32 0xE581F000
    (gives 0x2004 0xd3 [(1, 0x9000)] [(0x9000, 0x200c)]) = true := by decide +kernel

theorem test_pld_1 : runs (start 0x2000 0xd3 [(1, 0)] [(0x9000, 0x44332211), (0x9004, 0x88776655), (0x9008, 0xccbbaa99), (0x900c, 0xffeedd)]) 32 0xF5D1F000
    (gives 0x2004 0xd3 [(1, 0)] [(0x9000, 0x44332211)]) = true := by decide +kernel


/-! T5 of spec 95: Load and store multiple. -/

theorem test_ldm_1 : runs (start 0x2000 0xd3 [(0, 0x9000), (1, 0x11), (2, 0x22)] [(0x8ff0, 0xa0), (0x8ff4, 0xa1), (0x8ff8, 0xa2), (0x8ffc, 0xa3), (0x9000, 0xb0), (0x9004, 0xb1), (0x9008, 0xb2), (0x900c, 0xb3), (0x9010, 0xb4)]) 32 0xE8B0000E
    (gives 0x2004 0xd3 [(0, 0x900c), (1, 0xb0), (2, 0xb1), (3, 0xb2)] [(0x8ff0, 0xa0)]) = true := by decide +kernel

theorem test_ldm_2 : runs (start 0x2000 0xd3 [(0, 0x9000), (1, 0x11), (2, 0x22)] [(0x8ff0, 0xa0), (0x8ff4, 0xa1), (0x8ff8, 0xa2), (0x8ffc, 0xa3), (0x9000, 0xb0), (0x9004, 0xb1), (0x9008, 0xb2), (0x900c, 0xb3), (0x9010, 0xb4)]) 32 0xE9B0000E
    (gives 0x2004 0xd3 [(0, 0x900c), (1, 0xb1), (2, 0xb2), (3, 0xb3)] [(0x8ff0, 0xa0)]) = true := by decide +kernel

theorem test_stm_1 : runs (start 0x2000 0xd3 [(1, 0x11), (2, 0x22), (0, 0x9000)] [(0x8ff0, 0xa0), (0x8ff4, 0xa1), (0x8ff8, 0xa2), (0x8ffc, 0xa3), (0x9000, 0xb0), (0x9004, 0xb1), (0x9008, 0xb2), (0x900c, 0xb3), (0x9010, 0xb4)]) 32 0xE8A00006
    (gives 0x2004 0xd3 [(1, 0x11), (2, 0x22), (0, 0x9008)] [(0x9000, 0x11), (0x9004, 0x22)]) = true := by decide +kernel

theorem test_stm_2 : runs (start 0x2000 0xd3 [(0, 0x9000), (1, 0x11), (2, 0x22)] [(0x8ff0, 0xa0), (0x8ff4, 0xa1), (0x8ff8, 0xa2), (0x8ffc, 0xa3), (0x9000, 0xb0), (0x9004, 0xb1), (0x9008, 0xb2), (0x900c, 0xb3), (0x9010, 0xb4)]) 32 0xE9A00006
    (gives 0x2004 0xd3 [(0, 0x9008), (1, 0x11), (2, 0x22)] [(0x9004, 0x11), (0x9008, 0x22)]) = true := by decide +kernel


/-! T6 of spec 95: Swap. -/

theorem test_swp_1 : runs (start 0x2000 0xd3 [(1, 0xaaaaaaaa), (2, 0x9000)] [(0x9000, 0x44332211)]) 32 0xE1020091
    (gives 0x2004 0xd3 [(1, 0xaaaaaaaa), (2, 0x9000), (0, 0x44332211)] [(0x9000, 0xaaaaaaaa)]) = true := by decide +kernel

theorem test_swp_2 : runs (start 0x2000 0xd3 [(0, 0xaaaaaaaa), (2, 0x9000)] [(0x9000, 0x44332211)]) 32 0xE1020090
    (gives 0x2004 0xd3 [(0, 0x44332211), (2, 0x9000)] [(0x9000, 0xaaaaaaaa)]) = true := by decide +kernel

theorem test_swpb_1 : runs (start 0x2000 0xd3 [(1, 0xaaaaaabb), (2, 0x9001)] [(0x9000, 0x44332211)]) 32 0xE1420091
    (gives 0x2004 0xd3 [(1, 0xaaaaaabb), (2, 0x9001), (0, 0x22)] [(0x9000, 0x4433bb11)]) = true := by decide +kernel


/-! T7 of spec 95: Branches. -/

theorem test_b_1 : runs (start 0x1000 0xd3 [] []) 32 0xEA000000
    (gives 0x1008 0xd3 [] []) = true := by decide +kernel

theorem test_b_2 : runs (start 0x1000 0xd3 [] []) 32 0xEAFFFFFE
    (gives 0x1000 0xd3 [] []) = true := by decide +kernel

theorem test_bl_1 : runs (start 0x1000 0x400000d3 [(14, 0x77)] []) 32 0x1B000002
    (gives 0x1004 0x400000d3 [(14, 0x77)] []) = true := by decide +kernel

theorem test_bl_2 : runs (start 0x1000 0xd3 [] []) 32 0xEB000002
    (gives 0x1010 0xd3 [(14, 0x1004)] []) = true := by decide +kernel

theorem test_blxImm_1 : runs (start 0x1000 0xd3 [] []) 32 0xFB000002
    (gives 0x1012 0xf3 [(14, 0x1004)] []) = true := by decide +kernel

theorem test_bx_1 : runs (start 0x1000 0xd3 [(0, 0x9001)] []) 32 0xE12FFF10
    (gives 0x9000 0xf3 [(0, 0x9001)] []) = true := by decide +kernel

theorem test_bx_2 : runs (start 0x1000 0xd3 [(0, 0x9000)] []) 32 0xE12FFF10
    (gives 0x9000 0xd3 [(0, 0x9000)] []) = true := by decide +kernel

theorem test_blxReg_1 : runs (start 0x1000 0xd3 [(0, 0x9001)] []) 32 0xE12FFF30
    (gives 0x9000 0xf3 [(0, 0x9001), (14, 0x1004)] []) = true := by decide +kernel

theorem test_blxReg_2 : runs (start 0x1000 0xd3 [(14, 0x9001)] []) 32 0xE12FFF3E
    (gives 0x9000 0xf3 [(14, 0x1004)] []) = true := by decide +kernel


/-! T8 of spec 95: Status registers. -/

theorem test_msrReg_1 : runs (start 0x2000 0x10 [(0, 0xf80000df)] []) 32 0xE12FF000
    (gives 0x2004 0xf8000010 [(0, 0xf80000df)] []) = true := by decide +kernel

theorem test_msrReg_2 : runs (start 0x2000 0xd3 [(0, 0xf80000df)] []) 32 0xE12FF000
    (gives 0x2004 0xf80000df [(0, 0xf80000df)] []) = true := by decide +kernel

theorem test_msrImm_1 : runs (start 0x2000 0x80000d3 [] []) 32 0xE328F20F
    (gives 0x2004 0xf00000d3 [] []) = true := by decide +kernel

theorem test_msrImm_2 : runs (start 0x2000 0xf00000d3 [] []) 32 0xE328F302
    (gives 0x2004 0x80000d3 [] []) = true := by decide +kernel

theorem test_mrs_1 : runs (start 0x2000 0x600000d3 [] []) 32 0xE10F0000
    (gives 0x2004 0x600000d3 [(0, 0x600000d3)] []) = true := by decide +kernel

theorem test_mrs_2 : runs ((start 0x2000 0xd3 [] []).setSpsr (Vector.replicate 6 (psrOf 0xa00000ff))) 32 0xE14F0000
    (gives 0x2004 0xd3 [(0, 0xa00000ff)] []) = true := by decide +kernel


/-! T10 of spec 95: Thumb. -/

theorem test_tLsl_1 : runs (start 0x8000 0xf3 [(1, 0x10000001)] []) 16 0x0108
    (gives 0x8002 0x200000f3 [(1, 0x10000001), (0, 0x10)] []) = true := by decide +kernel

theorem test_tLsl_2 : runs (start 0x8000 0x200000f3 [(1, 0x80000000)] []) 16 0x0008
    (gives 0x8002 0xa00000f3 [(1, 0x80000000), (0, 0x80000000)] []) = true := by decide +kernel

theorem test_tAsr_1 : runs (start 0x8000 0xf3 [(1, 0x80000000)] []) 16 0x1008
    (gives 0x8002 0xa00000f3 [(1, 0x80000000), (0, 0xffffffff)] []) = true := by decide +kernel

theorem test_tLsr_1 : runs (start 0x8000 0xf3 [(1, 0x80000000)] []) 16 0x0808
    (gives 0x8002 0x600000f3 [(1, 0x80000000), (0, 0)] []) = true := by decide +kernel

theorem test_tLsr_2 : runs (start 0x8000 0xf3 [(0, 0x80000000), (2, 0x20)] []) 16 0x40D0
    (gives 0x8002 0x600000f3 [(0, 0), (2, 0x20)] []) = true := by decide +kernel

theorem test_tRorReg_1 : runs (start 0x8000 0x200000f3 [(0, 0x80000001), (2, 0)] []) 16 0x41D0
    (gives 0x8002 0xa00000f3 [(0, 0x80000001), (2, 0)] []) = true := by decide +kernel

theorem test_tNeg_1 : runs (start 0x8000 0xf3 [(1, 0x80000000)] []) 16 0x4248
    (gives 0x8002 0x900000f3 [(1, 0x80000000), (0, 0x80000000)] []) = true := by decide +kernel

theorem test_tMul_1 : runs (start 0x8000 0x300000f3 [(0, 0xffffffff), (1, 2)] []) 16 0x4348
    (gives 0x8002 0xb00000f3 [(0, 0xfffffffe), (1, 2)] []) = true := by decide +kernel

theorem test_tAdd_1 : runs (start 0x8000 0xf3 [(1, 0x7fffffff), (2, 1)] []) 16 0x1888
    (gives 0x8002 0x900000f3 [(1, 0x7fffffff), (2, 1), (0, 0x80000000)] []) = true := by decide +kernel

theorem test_tSub_1 : runs (start 0x8000 0xf3 [(1, 0), (2, 1)] []) 16 0x1A88
    (gives 0x8002 0x800000f3 [(1, 0), (2, 1), (0, 0xffffffff)] []) = true := by decide +kernel

theorem test_tCmp_1 : runs (start 0x8000 0xf3 [(0, 0)] []) 16 0x2800
    (gives 0x8002 0x600000f3 [(0, 0)] []) = true := by decide +kernel

theorem test_tMovImm8_1 : runs (start 0x8000 0x300000f3 [] []) 16 0x2000
    (gives 0x8002 0x700000f3 [(0, 0)] []) = true := by decide +kernel

theorem test_tAddPc_1 : runs (start 0x8002 0xf3 [] []) 16 0xA001
    (gives 0x8004 0xf3 [(0, 0x8008)] []) = true := by decide +kernel

theorem test_tLdr_1 : runs (start 0x8002 0xf3 [] [(0x8008, 0xcafe0001)]) 16 0x4801
    (gives 0x8004 0xf3 [(0, 0xcafe0001)] [(0x8008, 0xcafe0001)]) = true := by decide +kernel

theorem test_tMovHi_1 : runs (start 0x8000 0xf3 [] []) 16 0x4678
    (gives 0x8002 0xf3 [(0, 0x8004)] []) = true := by decide +kernel

theorem test_tAddHi_1 : runs (start 0x8000 0xf3 [(0, 0x101)] []) 16 0x4487
    (gives 0x8104 0xf3 [(0, 0x101)] []) = true := by decide +kernel

theorem test_tBx_1 : runs (start 0x8000 0xf3 [] []) 16 0x4778
    (gives 0x8004 0xd3 [] []) = true := by decide +kernel

theorem test_tBx_2 : runs (start 0x8000 0xf3 [(0, 0x9001)] []) 16 0x4700
    (gives 0x9000 0xf3 [(0, 0x9001)] []) = true := by decide +kernel

theorem test_tB_1 : runs (start 0x9000 0xf3 [] []) 16 0xE400
    (gives 0x8804 0xf3 [] []) = true := by decide +kernel

theorem test_tBCond_1 : runs (start 0x8000 0xf3 [] []) 16 0xD3FE
    (gives 0x8000 0xf3 [] []) = true := by decide +kernel

theorem test_tBCond_2 : runs (start 0x8000 0x200000f3 [] []) 16 0xD3FE
    (gives 0x8002 0x200000f3 [] []) = true := by decide +kernel

theorem test_tPush_1 : runs (start 0x8000 0xf3 [(13, 0x9008), (0, 0x55), (14, 0x8101)] []) 16 0xB501
    (gives 0x8002 0xf3 [(13, 0x9000), (0, 0x55), (14, 0x8101)] [(0x9000, 0x55), (0x9004, 0x8101)]) = true := by decide +kernel

theorem test_tStmia_1 : runs (start 0x8000 0xf3 [(0, 0x9000), (1, 1), (2, 2)] []) 16 0xC006
    (gives 0x8002 0xf3 [(0, 0x9008), (1, 1), (2, 2)] [(0x9000, 1), (0x9004, 2)]) = true := by decide +kernel

theorem test_tLdrh_1 : runs (start 0x8000 0xf3 [(1, 0x9000)] [(0x9000, 0xbeef1234)]) 16 0x8848
    (gives 0x8002 0xf3 [(1, 0x9000), (0, 0xbeef)] [(0x9000, 0xbeef1234)]) = true := by decide +kernel

theorem test_tStr_1 : runs (start 0x8000 0xf3 [(13, 0x9000), (0, 7)] []) 16 0x9001
    (gives 0x8002 0xf3 [(13, 0x9000), (0, 7)] [(0x9004, 7)]) = true := by decide +kernel

theorem test_tIncSp_1 : runs (start 0x8000 0xf3 [(13, 0x9000)] []) 16 0xB002
    (gives 0x8002 0xf3 [(13, 0x9008)] []) = true := by decide +kernel

theorem test_tDecSp_1 : runs (start 0x8000 0xf3 [(13, 0x9008)] []) 16 0xB082
    (gives 0x8002 0xf3 [(13, 0x9000)] []) = true := by decide +kernel


/-! T11 of spec 95: Coprocessor 0. -/

theorem test_mia_1 : runs ((withCp0 (start 0x2000 0xd3 [(1, 0xffffffff), (2, 2)] [])).setAcc0 1) 32 0xEE202011
    (fun t => gives 0x2004 0xd3 [(1, 0xffffffff), (2, 2)] [] t && t.acc0 == 0xffffffffff) = true := by decide +kernel

theorem test_mia_2 : runs (withCp0 (start 0x2000 0xd3 [(1, 0x80000000), (2, 0x80000000)] [])) 32 0xEE202011
    (gives 0x2004 0xd3 [(1, 0x80000000), (2, 0x80000000)] []) = true := by decide +kernel

theorem test_miaph_1 : runs (withCp0 (start 0x2000 0xd3 [(1, 0x20003), (2, 0x40005)] [])) 32 0xEE282011
    (fun t => gives 0x2004 0xd3 [(1, 0x20003), (2, 0x40005)] [] t && t.acc0 == 0x17) = true := by decide +kernel

theorem test_miaph_2 : runs ((withCp0 (start 0x2000 0xd3 [(1, 0x8000ffff), (2, 0x7fff0001)] [])).setAcc0 0x10) 32 0xEE282011
    (fun t => gives 0x2004 0xd3 [(1, 0x8000ffff), (2, 0x7fff0001)] [] t && t.acc0 == 0xffc000800f) = true := by decide +kernel

theorem test_miabb_1 : runs (withCp0 (start 0x2000 0xd3 [(1, 0x1111fffe), (2, 0x22220003)] [])) 32 0xEE2C2011
    (fun t => gives 0x2004 0xd3 [(1, 0x1111fffe), (2, 0x22220003)] [] t && t.acc0 == 0xfffffffffa) = true := by decide +kernel

theorem test_miabt_1 : runs (withCp0 (start 0x2000 0xd3 [(1, 0x1111fffe), (2, 0x32222)] [])) 32 0xEE2D2011
    (fun t => gives 0x2004 0xd3 [(1, 0x1111fffe), (2, 0x32222)] [] t && t.acc0 == 0xfffffffffa) = true := by decide +kernel

theorem test_miatb_1 : runs (withCp0 (start 0x2000 0xd3 [(1, 0xfffe1111), (2, 0x22220003)] [])) 32 0xEE2E2011
    (fun t => gives 0x2004 0xd3 [(1, 0xfffe1111), (2, 0x22220003)] [] t && t.acc0 == 0xfffffffffa) = true := by decide +kernel

theorem test_miatt_1 : runs ((withCp0 (start 0x2000 0xd3 [(1, 0x80001111), (2, 0x80002222)] [])).setAcc0 0xff00000000) 32 0xEE2F2011
    (fun t => gives 0x2004 0xd3 [(1, 0x80001111), (2, 0x80002222)] [] t && t.acc0 == 0xff40000000) = true := by decide +kernel

theorem test_mar_1 : runs (withCp0 (start 0x2000 0xd3 [(0, 0x89abcdef), (1, 0x12345680)] [])) 32 0xEC410000
    (fun t => gives 0x2004 0xd3 [(0, 0x89abcdef), (1, 0x12345680)] [] t && t.acc0 == 0x8089abcdef) = true := by decide +kernel

theorem test_mra_1 : runs ((withCp0 (start 0x2000 0xd3 [] [])).setAcc0 0x8089abcdef) 32 0xEC510000
    (fun t => gives 0x2004 0xd3 [(0, 0x89abcdef), (1, 0xffffff80)] [] t && t.acc0 == 0x8089abcdef) = true := by decide +kernel

theorem test_mra_2 : runs ((withCp0 (start 0x2000 0xd3 [] [])).setAcc0 0x7f00000001) 32 0xEC510000
    (fun t => gives 0x2004 0xd3 [(0, 1), (1, 0x7f)] [] t && t.acc0 == 0x7f00000001) = true := by decide +kernel

/-! Examples of the instruction rules (spec 40 to 46) and T9, T15, T17, T18, T20 and T21 of spec 95. -/

theorem test_eor_1 : runs (start 0x2000 0xD3 [(2, 3), (3, 0xFFFFFFFF)] []) 32 0xE0322203
    (gives 0x2004 0xA00000D3 [(2, 0xFFFFFFF3)] []) = true := by decide +kernel

theorem test_cmp_1 : runs (start 0x2000 0xD3 [(1, 5)] []) 32 0xE3510005 (gives 0x2004 0x600000D3 [(1, 5)] []) = true := by
  decide +kernel

theorem test_clz_1 : runs (start 0x2000 0xD3 [(1, 5)] []) 32 0xE16F0F11 (gives 0x2004 0xD3 [(0, 29)] []) = true := by
  decide +kernel

theorem test_clz_2 : runs (start 0x2000 0xD3 [(1, 0)] []) 32 0xE16F0F11 (gives 0x2004 0xD3 [(0, 32)] []) = true := by
  decide +kernel

/-- The words at 0x1000 and 0x1004 of the examples of 42 and 46. -/
def words : List (PAddr × Word) := [(0x1000, 0x44332211), (0x1004, 0x88776655)]

theorem test_ldrt_1 : runs (start 0x2000 0xD3 [(1, 0x1000)] words) 32 0xE4B10004
    (gives 0x2004 0xD3 [(0, 0x44332211), (1, 0x1004)] []) = true := by decide +kernel

theorem test_ldrbt_1 : runs (start 0x2000 0xD3 [(1, 0x1000)] words) 32 0xE4F10000 (gives 0x2004 0xD3 [(0, 0x11)] []) = true := by
  decide +kernel

theorem test_strt_1 : runs (start 0x2000 0xD3 [(0, 0xAABBCCDD), (1, 0x1000)] words) 32 0xE4A10000
    (gives 0x2004 0xD3 [] [(0x1000, 0xAABBCCDD), (0x1004, 0x88776655)]) = true := by decide +kernel

theorem test_strbt_1 : runs (start 0x2000 0xD3 [(0, 0xAABBCCDD), (1, 0x1000)] words) 32 0xE4E10000
    (gives 0x2004 0xD3 [] [(0x1000, 0x443322DD), (0x1004, 0x88776655)]) = true := by decide +kernel

theorem test_ldmUser_1 : runs (start 0x2000 0xD3 [(0, 0x1000), (13, 7)] words) 32 0xE8D06000
    (fun t => gives 0x2004 0xD3 [(0, 0x1000), (13, 7)] [] t && t.regs[13] == 0x44332211 && t.regs[14] == 0x88776655) = true := by
  decide +kernel

theorem test_stmUser_1 : runs (start 0x2000 0xD3 [(0, 0x1000), (13, 7)] words) 32 0xE8C06000
    (gives 0x2004 0xD3 [(0, 0x1000)] [(0x1000, 0), (0x1004, 0)]) = true := by decide +kernel

theorem test_ldmReturn_1 : runs ((start 0x2000 0xD3 [(13, 0x9000)] [(0x9000, 7), (0x9004, 0x8101)]).setSpsr
    (Vector.replicate 6 (psrOf 0x30))) 32 0xE8FD8001
    (fun t => gives 0x8100 0x30 [(0, 7)] [] t && t.regs[24] == 0x9008) = true := by decide +kernel

theorem test_swi_1 : runs (start 0x8004 0x60000010 [] []) 32 0xEF000011
    (fun t => gives 8 0x60000093 [(14, 0x8008)] [] t && t.spsr[2] == psrOf 0x60000010) = true := by decide +kernel

theorem test_undefinedSpace_1 : runs (start 0x8000 0xD3 [] []) 32 0xE7F000F0
    (fun t => gives 4 0xDB [(14, 0x8004)] [] t && t.spsr[4] == psrOf 0xD3) = true := by decide +kernel

theorem test_bkpt_1 : runs (start 0x8000 0xD3 [] []) 32 0xE12ABC7D (gives 0x8004 0xD3 [] []) = true := by decide +kernel

theorem test_cdp_1 : runs (start 0x8000 0xD3 [] []) 32 0xEE2431C5 (gives 4 0xDB [(14, 0x8004)] []) = true := by decide +kernel

theorem test_mrc2_1 : runs (start 0x8000 0xD3 [] []) 32 0xFE110F10 (gives 4 0xDB [(14, 0x8004)] []) = true := by decide +kernel

theorem test_mia_without_right : runs (start 0x8000 0xD3 [] []) 32 0xEE202011 (gives 4 0xDB [(14, 0x8004)] []) = true := by
  decide +kernel

/-- Thumb state with the registers of the examples of 46, at 0x8000. -/
def thumb (cpsr : Word) : State := start 0x8000 cpsr [(1, 5), (2, 3)] []

theorem test_tAnd_1 : runs (thumb 0xF3) 16 0x4011 (gives 0x8002 0xF3 [(1, 1)] []) = true := by decide +kernel
theorem test_tEor_1 : runs (thumb 0xF3) 16 0x4051 (gives 0x8002 0xF3 [(1, 6)] []) = true := by decide +kernel
theorem test_tAdc_1 : runs (thumb 0x200000F3) 16 0x4151 (gives 0x8002 0xF3 [(1, 9)] []) = true := by decide +kernel
theorem test_tSbc_1 : runs (thumb 0xF3) 16 0x4191 (gives 0x8002 0x200000F3 [(1, 1)] []) = true := by decide +kernel
theorem test_tTst_1 : runs (thumb 0x400000F3) 16 0x4211 (gives 0x8002 0xF3 [(1, 5)] []) = true := by decide +kernel
theorem test_tCmn_1 : runs (thumb 0xF00000F3) 16 0x42D1 (gives 0x8002 0xF3 [(1, 5)] []) = true := by decide +kernel
theorem test_tOrr_1 : runs (thumb 0xF3) 16 0x4311 (gives 0x8002 0xF3 [(1, 7)] []) = true := by decide +kernel
theorem test_tBic_1 : runs (thumb 0xF3) 16 0x4391 (gives 0x8002 0xF3 [(1, 4)] []) = true := by decide +kernel
theorem test_tMvn_1 : runs (thumb 0xF3) 16 0x43C8 (gives 0x8002 0x800000F3 [(0, 0xFFFFFFFA)] []) = true := by decide +kernel

theorem test_tCmpHi_1 : runs (start 0x8000 0xF3 [(1, 5), (8, 5)] []) 16 0x4541 (gives 0x8002 0x600000F3 [] []) = true := by
  decide +kernel

theorem test_tBlxReg_1 : runs (start 0x8000 0xF3 [(3, 0xA000)] []) 16 0x4798 (gives 0xA000 0xD3 [(14, 0x8003)] []) = true := by
  decide +kernel

/-- Thumb state with the memory of the examples of 46. -/
def thumbMem (r2 : Word) : State := start 0x8000 0xF3 [(0, 0xAABBCCDD), (1, 0x1000), (2, r2)] words

theorem test_tStrh_1 : runs (thumbMem 4) 16 0x5288 (gives 0x8002 0xF3 [] [(0x1000, 0x44332211), (0x1004, 0x8877CCDD)]) = true := by
  decide +kernel

theorem test_tStrb_1 : runs (thumbMem 4) 16 0x5488 (gives 0x8002 0xF3 [] [(0x1000, 0x44332211), (0x1004, 0x887766DD)]) = true := by
  decide +kernel

theorem test_tLdrsbReg_1 : runs (thumbMem 7) 16 0x5688 (gives 0x8002 0xF3 [(0, 0xFFFFFF88)] []) = true := by decide +kernel
theorem test_tLdrb_1 : runs (thumbMem 4) 16 0x5C88 (gives 0x8002 0xF3 [(0, 0x55)] []) = true := by decide +kernel
theorem test_tLdrshReg_1 : runs (thumbMem 6) 16 0x5E88 (gives 0x8002 0xF3 [(0, 0xFFFF8877)] []) = true := by decide +kernel

theorem test_tLdmia_1 : runs (start 0x8000 0xF3 [(0, 0x1000)] words) 16 0xC806
    (gives 0x8002 0xF3 [(0, 0x1008), (1, 0x44332211), (2, 0x88776655)] []) = true := by decide +kernel

theorem test_tPop_1 : runs (start 0x8000 0xF3 [(13, 0x1FF4)] [(0x1FF4, 0x44), (0x1FF8, 0x55), (0x1FFC, 0x8001)]) 16 0xBD30
    (gives 0x8000 0xF3 [(4, 0x44), (5, 0x55), (13, 0x2000)] []) = true := by decide +kernel

theorem test_tBlPrefix_1 : runs (start 0x8000 0xF3 [] []) 16 0xF7FE (gives 0x8002 0xF3 [(14, 0x6004)] []) = true := by
  decide +kernel

theorem test_tBlSuffix_1 : runs (start 0x8002 0xF3 [(14, 0x6004)] []) 16 0xFFFE (gives 0x7000 0xF3 [(14, 0x8005)] []) = true := by
  decide +kernel

theorem test_tBlxSuffix_1 : runs (start 0x8002 0xF3 [(14, 0x9004)] []) 16 0xE916 (gives 0x9230 0xD3 [(14, 0x8005)] []) = true := by
  decide +kernel

theorem test_tSwi_1 : runs (start 0x8002 0x30 [] []) 16 0xDF12
    (fun t => gives 8 0x93 [(14, 0x8004)] [] t && t.spsr[2] == psrOf 0x30) = true := by decide +kernel

theorem test_tUndefined_1 : runs (start 0x8000 0xF3 [] []) 16 0xDE00 (gives 4 0xDB [(14, 0x8002)] []) = true := by decide +kernel

/-- A breakpoint in Monitor Mode (T10). -/
theorem test_tBkpt_1 : runs (let s := start 0x8000 0xF3 [] []
    s.setDebug { s.dbg with dcsr := { s.dbg.dcsr with ge := true } }) 16 0xBEAB
    (fun t => gives 0xC 0xD7 [(14, 0x8004)] [] t && t.spsr[3] == psrOf 0xF3 && t.cp15.fsr.d && t.dbg.dcsr.moe == 3) = true := by
  decide +kernel

/-- MRC of the Control Register just after reset (43 R626): the defined bits. -/
theorem test_mrcControl_1 : runs (start 0x8000 0xD3 [] []) 32 0xEE110F10 (fun t => t.pc == 0x8004 && t.cpsr == psrOf 0xD3) = true := by
  decide +kernel

/-- MCR of the Control Register: alignment checking on. -/
theorem test_mcrControl_1 : runs (start 0x8000 0xD3 [(0, 0x7A)] []) 32 0xEE010F10
    (fun t => t.cp15.ctrl == { State.reset.cp15.ctrl with align := true }) = true := by decide +kernel

theorem test_mcrCpar_1 : runs (start 0x8000 0xD3 [(0, 1)] []) 32 0xEE0F0F11 (fun t => t.cp15.cpar == 1 && t.pc == 0x8004) = true := by
  decide +kernel

theorem test_mcrDacr_1 : runs (start 0x8000 0xD3 [(0, 0x400)] []) 32 0xEE030F10 (fun t => t.cp15.dacr == 0x400) = true := by
  decide +kernel

/-- A privileged register in User mode (45 R661). -/
theorem test_mcrDacr_2 : runs (start 0x8000 0x10 [(0, 0x400)] []) 32 0xEE030F10
    (fun t => gives 4 0x9B [(14, 0x8004)] [] t && t.cp15.dacr == 0) = true := by decide +kernel

theorem test_mrcCacheType_1 : runs (start 0x8000 0xD3 [] []) 32 0xEE100F30 (gives 0x8004 0xD3 [(0, 0x0B192192)] []) = true := by
  decide +kernel

/-- T20 rows 1 to 3. -/
theorem test_mcrEvtsel_1 : runs (start 0x8000 0xD3 [(0, 7)] []) 32 0xEE080E11 (fun t => t.pmu.evtsel == 7) = true := by decide +kernel
theorem test_mcrInten_1 : runs (start 0x8000 0xD3 [(0, 7)] []) 32 0xEE040E11 (fun t => t.pmu.inten == 7) = true := by decide +kernel
theorem test_mcrPmnc_1 : runs (start 0x8000 0xD3 [(0, 7)] []) 32 0xEE000E11
    (fun t => t.pmu.enable && t.pmu.pmn == Vector.replicate 4 0) = true := by decide +kernel

/-- T20 row 6: ones clear, zeros leave. -/
theorem test_mcrFlag_1 : runs (let s := start 0x8000 0xD3 [(0, 5)] []
    s.setPmu { s.pmu with flag := 7 }) 32 0xEE050E11 (fun t => t.pmu.flag == 2) = true := by decide +kernel

/-- 43 R626: an event counter into the flags. -/
theorem test_mrcCcnt_1 : runs (let s := start 0x8000 0xD3 [] []
    s.setPmu { s.pmu with ccnt := 0x50000000 }) 32 0xEE11FE11 (gives 0x8004 0x500000D3 [] []) = true := by decide +kernel

/-- T21: MRCMI of RX. -/
theorem test_mrcRx_1 : runs (let s := start 0x8000 0x800000D3 [] []
    s.setDebug { s.dbg with rr := true, rx := 0x1234 }) 32 0x4E190E10
    (fun t => gives 0x8004 0x800000D3 [(0, 0x1234)] [] t && !t.dbg.rr) = true := by decide +kernel

/-- DWB, DMB and Prefetch Flush are allowed in User mode and change no register. -/
theorem test_dataWriteBarrier_1 : runs (start 0x8000 0x10 [] []) 32 0xEE070F9A (gives 0x8004 0x10 [(0, 0)] []) = true := by
  decide +kernel

theorem test_dataMemoryBarrier_1 : runs (start 0x8000 0x10 [] []) 32 0xEE070FBA (gives 0x8004 0x10 [(0, 0)] []) = true := by
  decide +kernel

theorem test_prefetchFlush_1 : runs (start 0x8000 0x10 [] []) 32 0xEE070F95 (gives 0x8004 0x10 [(0, 0)] []) = true := by
  decide +kernel

/-- Invalidate I and D TLB drops the entries that are not locked. -/
theorem test_invTlbs_1 : runs (let s := start 0x8000 0xD3 [] []
    s.setTlbs { s.tlbs with d := s.tlbs.d.insert ⟨false, .sect, 0x300000, 0x300000, 0, 0xFF, 0, false, false, false, false, 0, 0⟩ })
    32 0xEE080F17 (fun t => t.tlbs.d.lookup 0x300000 == none && t.tlbs.d.rr == 0) = true := by decide +kernel

/-- T9: an IRQ and an FIQ at 0x8010. -/
theorem test_irq_entry : (match step ((start 0x8010 0x20000010 [] []).setExt { State.reset.ext with irq := true }) with
    | .next t => gives 0x18 0x20000092 [(14, 0x8014)] [] t && t.spsr[1] == psrOf 0x20000010
    | _ => false) = true := by decide +kernel

theorem test_fiq_entry : (match step ((start 0x8010 0x10 [] []).setExt { State.reset.ext with irq := true, fiq := true }) with
    | .next t => gives 0x1C 0xD1 [(14, 0x8014)] [] t && t.spsr[0] == psrOf 0x10
    | _ => false) = true := by decide +kernel

/-- T9: a prefetch abort with high vectors; the translation of the code faults. -/
theorem test_prefetch_abort : (match step (let s := start 0x8000 0x10 [] []
      s.setCp15 { s.cp15 with ctrl := { s.cp15.ctrl with mmu := true, highVectors := true }, far := 0x1234 }) with
    | .next t => gives 0xFFFF000C 0x97 [(14, 0x8004)] [] t && t.cp15.fsr.x && t.cp15.fsr.status == 0 && t.cp15.far == 0x1234
    | _ => false) = true := by decide +kernel

/-- T18: a misaligned LDR with alignment checking. -/
theorem test_alignment_abort : runs (let s := start 0x8000 0xD3 [(1, 0x9001)] []
    s.setCp15 { s.cp15 with ctrl := { s.cp15.ctrl with align := true } }) 32 0xE5910000
    (fun t => gives 0x10 0xD7 [(14, 0x8008), (1, 0x9001)] [] t && t.cp15.far == 0x9001) = true := by decide +kernel

/-- T15: the Process ID relocates the low 32 MB. -/
theorem test_pid_remap : ([(0x1FFFFFC, 0x0BFFFFFC), (0x2000000, 0x2000000)] : List (Word × Word)).all (fun x =>
    (State.reset.setCp15 { State.reset.cp15 with pid := 5 }).remap x.1 == x.2) = true := by decide +kernel

/-- T17: a big-endian byte load. -/
theorem test_big_endian_byte : runs (let s := start 0x8000 0xD3 [(1, 0x9001)] [(0x9000, 0x44332211)]
    s.setCp15 { s.cp15 with ctrl := { s.cp15.ctrl with bigEndian := true } }) 32 0xE5D10000
    (fun t => t.readReg 0 == 0x33) = true := by decide +kernel

/-- T13: a section. -/
theorem test_section_walk : (match tableWalk 0x12345678 (let s := start 0 0xD3 [] [(0x10048C, 0xABC00C6E)]
      s.setCp15 { s.cp15 with ttBase := 0x40 }) with
    | .ok (.ok e) _ => e.pa 0x12345678 == 0x0ABC45678 && e.domain == 3 && e.apAt 0x12345678 == 3 && e.c && e.b
    | _ => false) = true := by decide +kernel

/-- T16: an insertion at 31, then at 0, then a lock at 0. -/
theorem test_tlb_pointers : (let e : TlbEntry := ⟨false, .sect, 0, 0, 0, 0, 0, false, false, false, false, 0, 0⟩
    let t := ((Tlb.empty.insert e).insert e).lock e
    (Tlb.empty.insert e).rr == 0 && ((Tlb.empty.insert e).insert e).rr == 1 && t.rr == 31 && t.lockptr == 1) = true := by
  decide +kernel

/-- T19 (a): a taken B after three instructions writes one checkpointed message. -/
theorem test_trace_branch : runs (let s := start 0x800C 0x10 [] []
    (s.setDebug { s.dbg with dcsr := { s.dbg.dcsr with ge := true, e := true } }).setTrace
      { s.trace with count := 3, ckptDue := true }) 32 0xEA0003FB
    (fun t => t.trace.buffer[0] == 0xC3 && t.trace.tp == 1 && t.dbg.chkpt0 == 0x9000) = true := by decide +kernel

/-! ## Witnesses: a concrete state and operands that meet the hypotheses of each statement, for each of its clauses -/

/-- The state after reset, in Thumb state. -/
def thumbState : State := State.reset.setCpsr { State.reset.cpsr with t := true }

/-- The state after reset with other values of Control Register bits M, A, C and L2. -/
def control (mmu align dcache l2 : Bool) : State :=
  State.reset.setCp15 { State.reset.cp15 with
    ctrl := { State.reset.cp15.ctrl with mmu := mmu, align := align, dcache := dcache, l2 := l2 } }

/-- The state with this value in R1 (of its mode). -/
def withR1 (s : State) (v : Word) : State := s.setRegs (s.regs.set (s.bank 1) v)

theorem arm_reset : State.reset.RunsArm .al := ⟨by unfold State.Ready; decide, by decide, by decide⟩

theorem direct_reset : State.reset.Direct := by constructor <;> decide +kernel

theorem arm_control (mmu align dcache l2 : Bool) : (control mmu align dcache l2).RunsArm .al :=
  ⟨by unfold State.Ready; simp [control, State.setCp15, State.reset], rfl, rfl⟩

theorem thumb_reset : thumbState.RunsThumb := ⟨by unfold State.Ready; decide, by decide⟩

theorem direct_thumb : thumbState.Direct := by constructor <;> decide +kernel

/-- Both at an address 0 and at the highest aligned word. -/
theorem aligned_reset : State.reset.Aligned 0 8 ∧ State.reset.Aligned 0xFFFFFFFC 4 ∧ ¬ State.reset.Aligned 0xFFFFFFFE 4 ∧
    ¬ State.reset.Aligned 1 2 := by
  refine ⟨?_, ?_, ?_, ?_⟩ <;> unfold State.Aligned <;> decide +kernel

theorem witness_ShiftTables : State.reset.Ready := by unfold State.Ready; decide

theorem witness_DataProcessingResult : State.reset.RunsArm .al ∧ (14 : Reg) ≠ 15 ∧
    shifterAllowed [0, 14] (.shiftReg 14 .ror 0) = true ∧ shifterAllowed [15, 0] (.shiftImm 0 .lsl 15) = true ∧
    shifterAllowed [15] (.imm 15 255) = true := ⟨arm_reset, by decide, by decide, by decide, by decide⟩

/-- Without S; with S in a mode that has an SPSR, with a legal and with an illegal mode in it; with S in System mode. -/
theorem witness_DataProcessingToPc : State.reset.RunsArm .al ∧ shifterAllowed [15, 15] (.shiftImm 31 .ror 15) = true ∧
    spsrOf State.reset.cpsr.m = some 2 ∧ legalMode (State.reset.spsr[2]).m = false ∧
    legalMode ((start 0 0xD3 [] []).setSpsr (Vector.replicate 6 (psrOf 0x10))).spsr[2].m = true ∧
    (State.reset.setCpsr { State.reset.cpsr with m := modeSys }).RunsArm .al ∧ spsrOf modeSys = none :=
  ⟨arm_reset, by decide, by decide, by decide, by decide +kernel, ⟨by unfold State.Ready; decide, by decide, by decide⟩, by decide⟩

theorem witness_CountLeadingZerosResult : State.reset.RunsArm .al ∧ (14 : Reg) ≠ 15 := ⟨arm_reset, by decide⟩

theorem witness_FailedConditionOnlyAdvances : (Instr.add .eq true 0 1 (.imm 0 1)).cond = some .eq ∧
    (Instr.tBCond .vs 0).cond = some .vs ∧ State.reset.cpsr.holds .eq = false ∧ State.reset.cpsr.holds .vs = false :=
  ⟨rfl, rfl, by decide, by decide⟩

theorem witness_MultiplyResult : State.reset.RunsArm .al ∧ (0 : Reg) ≠ 15 ∧ (14 : Reg) ≠ 15 ∧ (0 : Reg) ≠ 14 :=
  ⟨arm_reset, by decide, by decide, by decide⟩

theorem witness_EnhancedDspResult : State.reset.RunsArm .al ∧ (14 : Reg) ≠ 15 ∧ (0 : Reg) ≠ 14 :=
  ⟨arm_reset, by decide, by decide⟩

/-- A word load from the highest word and, with CTRL.A clear, from an address that is not aligned; a halfword load. -/
theorem witness_SingleLoadResult : State.reset.RunsArm .al ∧ State.reset.Direct ∧ (0 : Reg) ≠ 15 ∧
    (Instr.ldr .al true false false 1 0 (.imm 4)).operandsAllowed = true ∧
    (Instr.ldrt .al false 1 0 (.reg 31 .ror 2)).operandsAllowed = true ∧
    (Instr.ldrb .al false true false 1 0 (.imm 4095)).operandsAllowed = true ∧
    (Instr.ldrbt .al true 1 0 (.imm 0)).operandsAllowed = true ∧
    (Instr.ldrsb .al true true false 1 0 (.imm 15 15)).operandsAllowed = true ∧
    (Instr.ldrh .al true true true 1 0 (.reg 0 2)).operandsAllowed = true ∧
    (Instr.ldrsh .al false true false 1 0 (.imm 0 2)).operandsAllowed = true ∧
    State.reset.Aligned (State.reset.addressOf true false 1 (State.reset.offsetWord (.imm 4))) 4 ∧
    State.reset.cp15.ctrl.align = false ∧
    State.reset.Aligned (State.reset.addressOf true true 1 (State.reset.offsetSmall (.reg 0 2))) 2 := by
  refine ⟨arm_reset, direct_reset, by decide, by decide, by decide, by decide, by decide, by decide, by decide, by decide, ?_, by decide, ?_⟩ <;>
    unfold State.Aligned <;> decide +kernel

theorem witness_StoreResult : State.reset.RunsArm .al ∧ State.reset.Direct ∧
    (Instr.str .al true false false 1 15 (.imm 4)).operandsAllowed = true ∧
    (Instr.strt .al false 1 0 (.reg 31 .ror 2)).operandsAllowed = true ∧
    (Instr.strb .al false true false 1 0 (.imm 4095)).operandsAllowed = true ∧
    (Instr.strbt .al true 1 0 (.imm 0)).operandsAllowed = true ∧
    (Instr.strh .al true true true 1 0 (.reg 0 2)).operandsAllowed = true ∧
    State.reset.Aligned (State.reset.addressOf true false 1 (State.reset.offsetWord (.imm 4))) 4 ∧
    State.reset.Aligned (State.reset.readReg 1) 4 ∧
    State.reset.Aligned (State.reset.addressOf true true 1 (State.reset.offsetSmall (.reg 0 2))) 2 := by
  refine ⟨arm_reset, direct_reset, by decide, by decide, by decide, by decide, by decide, ?_, ?_, ?_⟩ <;>
    unfold State.Aligned <;> decide +kernel

/-- Words 0x8001, 0x8000 and 0x8002 at address 0, and an address that is not aligned. -/
theorem witness_LoadToPcInterworks : (∀ v ∈ ([0x8001, 0x8000, 0x8002] : List Word), (start 0 0xD3 [] [(0, v)]).RunsArm .al ∧
      (start 0 0xD3 [] [(0, v)]).Direct ∧ (start 0 0xD3 [] [(0, v)]).mem.readBytes 0 4 = v) ∧
    (Instr.ldr .al true true false 1 15 (.imm 0)).operandsAllowed = true ∧
    State.reset.Aligned (State.reset.addressOf true true 1 (State.reset.offsetWord (.imm 0))) 4 ∧
    ¬ State.reset.Aligned (State.reset.addressOf true true 1 (State.reset.offsetWord (.imm 2))) 4 ∧
    State.reset.dbg.dcsr.ge = false ∧ State.reset.dbg.sds = false := by
  refine ⟨?_, by decide, ?_, ?_, by decide, by decide⟩
  · intro v hv
    simp only [List.mem_cons, List.not_mem_nil, or_false] at hv
    rcases hv with rfl | rfl | rfl <;>
      exact ⟨⟨by unfold State.Ready; decide, by decide, by decide⟩, by constructor <;> decide +kernel, by decide +kernel⟩
  all_goals unfold State.Aligned; decide +kernel

theorem witness_DoublewordResult : State.reset.RunsArm .al ∧ State.reset.Direct ∧ State.reset.run.env = [] ∧
    State.reset.dbg.sds = false ∧
    (3 : Reg).getLsbD 0 = true ∧ (12 : Reg).getLsbD 0 = false ∧
    State.reset.Aligned (State.reset.addressOf true false 1 (State.reset.offsetSmall (.imm 0 8))) 8 ∧
    (Instr.ldrd .al true false true 1 12 (.imm 0 8)).operandsAllowed = true ∧
    (Instr.strd .al false false false 1 12 (.reg 0 2)).operandsAllowed = true := by
  refine ⟨arm_reset, direct_reset, by decide, by decide, by decide, by decide, ?_, by decide, by decide⟩
  unfold State.Aligned; decide +kernel

/-- Every register but R15; a list with R15; the User form in Supervisor and in User mode; the return form. -/
theorem witness_LoadMultipleResult : State.reset.RunsArm .al ∧ State.reset.Direct ∧ State.reset.run.env = [] ∧
    (Instr.ldm .al false true false 1 0x7FFF).operandsAllowed = true ∧
    (Instr.ldm .al true false true 1 0x8001).operandsAllowed = true ∧
    (Instr.ldmUser .al false true false 1 0x6000).operandsAllowed = true ∧
    (Instr.ldmReturn .al false true true 13 1).operandsAllowed = true ∧
    State.reset.Aligned (multipleStart false true 0 15) 4 ∧ (multipleStart false true 0 15 &&& 0xFFFFFFFC).toNat + 4 * 15 ≤ 2 ^ 32 ∧
    State.reset.Aligned (multipleStart true false 0 2) 4 ∧ (multipleStart true false 0 2 &&& 0xFFFFFFFC).toNat + 4 * 2 ≤ 2 ^ 32 ∧
    ¬ (State.reset.cpsr.m = modeUsr ∨ State.reset.cpsr.m = modeSys) ∧ spsrOf State.reset.cpsr.m = some 2 ∧
    legalMode ((start 0 0xD3 [] []).setSpsr (Vector.replicate 6 (psrOf 0x10))).spsr[2].m = true := by
  refine ⟨arm_reset, direct_reset, by decide, by decide, by decide, by decide, by decide, ?_, by decide, ?_, by decide, by decide,
    by decide, by decide +kernel⟩ <;> unfold State.Aligned <;> decide +kernel

theorem witness_StoreMultipleResult : State.reset.RunsArm .al ∧ State.reset.Direct ∧ State.reset.run.env = [] ∧
    (Instr.stm .al false true true 0 0xFFFF).operandsAllowed = true ∧
    (Instr.stmUser .al false true false 1 0x6000).operandsAllowed = true ∧
    State.reset.Aligned (multipleStart false true 0 16) 4 ∧ (multipleStart false true 0 16 &&& 0xFFFFFFFC).toNat + 4 * 16 ≤ 2 ^ 32 ∧
    (State.reset.setCpsr { State.reset.cpsr with m := modeUsr }).RunsArm .al := by
  refine ⟨arm_reset, direct_reset, by decide, by decide, by decide, ?_, by decide, ⟨by unfold State.Ready; decide, by decide, by decide⟩⟩
  unfold State.Aligned; decide +kernel

theorem witness_SwapAndPreloadResult : State.reset.RunsArm .al ∧ State.reset.Direct ∧ State.reset.Ready ∧
    (0 : Reg) ≠ 15 ∧ (1 : Reg) ≠ 15 ∧ (14 : Reg) ≠ 15 ∧ (0 : Reg) ≠ 1 ∧ (0 : Reg) ≠ 14 ∧
    State.reset.Aligned (State.reset.readReg 0) 4 ∧ (Instr.pld true 15 (.imm 0)).operandsAllowed = true ∧
    State.reset.cp15.ctrl.mmu = false := by
  refine ⟨arm_reset, direct_reset, arm_reset.1, by decide, by decide, by decide, by decide, by decide, ?_, by decide, by decide⟩
  unfold State.Aligned; decide +kernel

/-- Misaligned accesses of each size; an aligned address whose first-level descriptor is a fault, and one whose section
has no access. -/
theorem witness_DataAborts :
    (control false true false false).RunsArm .al ∧ (control false true false false).cp15.ctrl.align = true ∧
    (control false true false false).dbg.dcsr.ge = false ∧ (control false true false false).dbg.sds = false ∧
    ¬ (control false true false false).Aligned ((control false true false false).addressOf true true 1
      ((control false true false false).offsetWord (.imm 2))) 4 ∧
    ¬ (control false true false false).Aligned ((control false true false false).addressOf true true 1
      ((control false true false false).offsetSmall (.imm 0 1))) 2 ∧
    ¬ (control false true false false).Aligned ((control false true false false).addressOf true true 1
      ((control false true false false).offsetSmall (.imm 0 4))) 8 ∧
    (control true false false false).RunsArm .al ∧ (control true false false false).l2On = false ∧
    (control true false false false).ext.busErrors = [] ∧ (control true false false false).cp15.ttOC ≠ 1 ∧
    (control true false false false).Aligned 4 4 ∧ (control true false false false).tlbs.d.lookup 4 = none ∧
    ((control true false false false).mem.readBytes 0 4 : Word).extractLsb' 0 2 = 0 ∧
    (((control true false false false).setMem [⟨0, 2⟩]).mem.readBytes 0 4 : Word) = 2 ∧
    dacrField (control true false false false).cp15.dacr 0 = 0 ∧ (control true false false false).cfg.pBitUsed = false ∧
    (control true false false false).Coherent (lineOf 0) ∧
    ((control true false false false).setMem [⟨0, 2⟩]).Coherent (lineOf 0) := by
  refine ⟨arm_control _ _ _ _, rfl, by decide, by decide, ?_, ?_, ?_, arm_control _ _ _ _, by decide, by decide, by decide, ?_,
    by decide +kernel, by decide +kernel, by decide +kernel, by decide, by decide, ?_, ?_⟩ <;>
    (try unfold State.Coherent) <;> (try unfold State.Aligned) <;> decide +kernel

theorem witness_BranchResult : State.reset.RunsArm .al ∧ thumbState.RunsThumb := ⟨arm_reset, thumb_reset⟩

/-- An operand that is legal in Supervisor mode, one that would set T, and User mode. -/
theorem witness_StatusRegisterResult : State.reset.RunsArm .al ∧ (14 : Reg) ≠ 15 ∧ State.reset.privileged = true ∧
    (let v := rotatedImm 0 0xDF
    v.getLsbD 5 = false ∧ legalMode (v.extractLsb' 0 5) = true ∧ v.extractLsb' 0 5 ≠ modeDbg ∧ v.extractLsb' 0 5 ≠ modeUsr) ∧
    (rotatedImm 0 0xFF).getLsbD 5 = true ∧ (1 : BitVec 4).getLsbD 0 = true ∧
    (State.reset.setCpsr { State.reset.cpsr with m := modeUsr }).privileged = false :=
  ⟨arm_reset, by decide, by decide, by decide, by decide, by decide, by decide⟩

theorem witness_ExceptionInstructionEntry : State.reset.dbg.dcsr.ge = false ∧ State.reset.dbg.sds = false ∧
    State.reset.RunsArm .al ∧ thumbState.RunsThumb ∧ thumbState.dbg.dcsr.ge = false ∧
    (State.reset.setDebug { State.reset.dbg with sds := true }).RunsArm .al ∧ (7 : BitVec 4) = 7 ∧
    State.reset.cfg.coprocessors.getLsbD (1 : BitVec 4).toNat = false ∧
    State.reset.cp15.cpar.getLsbD (13 : BitVec 4).toNat = false :=
  ⟨by decide, by decide, arm_reset, thumb_reset, by decide, ⟨by unfold State.Ready; decide, by decide, by decide⟩, by decide, by decide, by decide⟩

theorem witness_BreakpointResult : Instr.bkpt 0 15 = .bkpt 0 15 ∨ Instr.bkpt 0 15 = .tBkpt 0 := .inl rfl

theorem witness_VectorTrapEntersDebug :
    let s := State.reset.setDebug { State.reset.dbg with
      dcsr := { State.reset.dbg.dcsr with ge := true, h := true, ts := true, tu := true } }
    s.RunsArm .al ∧ s.dbg.dcsr.ge = true ∧ s.dbg.dcsr.h = true ∧ s.dbg.sds = false ∧ s.dbg.dcsr.ts = true ∧
      s.dbg.dcsr.tu = true := ⟨⟨by unfold State.Ready; decide, by decide, by decide⟩, by decide, by decide, by decide, by decide, by decide⟩

/-- A product with coprocessors 1 and 13, which CPAR permits. -/
def withCoprocessors : State :=
  { State.reset.setCp15 { State.reset.cp15 with cpar := 0x2002 } with cfg := { State.reset.cfg with coprocessors := 0x2002 } }

/-- Coprocessors that are absent; then ones that are there, with a transfer from address 0 and one to the top of memory. -/
theorem witness_ForeignCoprocessorInstructions : State.reset.RunsArm .al ∧ State.reset.Direct ∧ State.reset.dbg.sds = false ∧
    State.reset.run.dataBreak = false ∧
    (∀ cp ∈ ([1, 13] : List (BitVec 4)),
      (State.reset.cfg.coprocessors.getLsbD cp.toNat && State.reset.cp15.cpar.getLsbD cp.toNat) = false) ∧
    withCoprocessors.RunsArm .al ∧ withCoprocessors.Direct ∧ withCoprocessors.dbg.sds = false ∧ withCoprocessors.run.env = [] ∧
    (∀ cp ∈ ([1, 13] : List (BitVec 4)), cp ≠ 0 ∧ cp ≠ 7 ∧ cp ≠ 14 ∧ cp ≠ 15 ∧
      withCoprocessors.cfg.coprocessors.getLsbD cp.toNat = true ∧ withCoprocessors.cp15.cpar.getLsbD cp.toNat = true) ∧
    (14 : Reg) ≠ 15 ∧ (0 : Reg) ≠ 14 ∧ withCoprocessors.cp15.ctrl.align = false ∧
    (withCoprocessors.addressOf true true 1 0 &&& 0xFFFFFFFC).toNat + 64 ≤ 2 ^ 32 ∧
    (withCoprocessors.addressOf true false 1 64 &&& 0xFFFFFFFC).toNat + 64 ≤ 2 ^ 32 ∧ (1 : BitVec 4) ≠ 0 ∧ (13 : BitVec 4) ≠ 14 ∧ (13 : BitVec 4) ≠ 15 ∧
    ((7 : BitVec 4) ≠ 7 ∨ (3 : BitVec 4) ≠ 2) ∧ State.reset.cp15.cpar.getLsbD (13 : BitVec 4).toNat = false ∧
    State.reset.dbg.dcsr.ge = false ∧ State.reset.privileged = true ∧
    (State.reset.setCpsr { State.reset.cpsr with m := modeUsr }).RunsArm .al ∧
    (State.reset.setCpsr { State.reset.cpsr with m := modeUsr }).privileged = false :=
  ⟨arm_reset, direct_reset, by decide, by decide, by decide, ⟨by unfold State.Ready; decide, by decide, by decide⟩,
    by constructor <;> decide +kernel, by decide, by decide, by decide, by decide, by decide, by decide, by decide +kernel,
    by decide +kernel, by decide, by decide, by decide, by decide, by decide, by decide, by decide,
    ⟨by unfold State.Ready; decide, by decide, by decide⟩, by decide⟩

/-- With and without the right of CP0. -/
theorem witness_AccumulatorResult : State.reset.RunsArm .al ∧ State.reset.dbg.dcsr.ge = false ∧ State.reset.dbg.sds = false ∧
    (0 : Reg) ≠ 15 ∧ (14 : Reg) ≠ 15 ∧ State.reset.cp15.cpar.getLsbD 0 = false ∧ (withCp0 State.reset).RunsArm .al ∧
    (withCp0 State.reset).cp15.cpar.getLsbD 0 = true ∧ (0 : Reg) ≠ 14 :=
  ⟨arm_reset, by decide, by decide, by decide, by decide, by decide, ⟨by unfold State.Ready; decide, by decide, by decide⟩, by decide, by decide⟩

theorem witness_PrivilegedInUserModeIsUndefined :
    let s := State.reset.setCpsr { State.reset.cpsr with m := modeUsr }
    (Instr.mcrControl .al 0).privilegedOnly = some .al ∧ (Instr.stcP14 .al true true false false 1 8 0).privilegedOnly = some .al ∧
      s.RunsArm .al ∧ s.cpsr.m = modeUsr ∧ s.dbg.dcsr.ge = false ∧ s.dbg.sds = false :=
  ⟨rfl, rfl, ⟨by unfold State.Ready; decide, by decide, by decide⟩, by decide, by decide, by decide⟩

theorem witness_RestrictedOperandsRefuse : (Instr.mul .al false 15 0 2 1).operandsAllowed = false ∧
    (Instr.mar .al 1 0 1).operandsAllowed = false ∧ (∀ c, (Instr.mul .al false 15 0 2 1).cond = some c →
      (withCp0 State.reset).cpsr.holds c = true) ∧ (withCp0 State.reset).Ready ∧ (withCp0 State.reset).privileged = true ∧
    (withCp0 State.reset).cp15.cpar.getLsbD 0 = true ∧ (withCp0 State.reset).cfg.cp0Extended = false := by
  refine ⟨by decide, by decide, ?_, by unfold State.Ready; decide, by decide, by decide, by decide⟩
  intro c h
  cases h
  decide

theorem witness_SystemRegisterRead : State.reset.RunsArm .al ∧ State.reset.privileged = true ∧ (14 : Reg) ≠ 15 ∧
    State.reset.cfg.l2 = .absent ∧
    (let s := { State.reset with cfg := { State.reset.cfg with l2 := .kb256 } };
      s.RunsArm .al ∧ s.privileged = true ∧ s.cfg.l2 ≠ .absent) :=
  ⟨arm_reset, by decide, by decide, by decide, ⟨by unfold State.Ready; decide, by decide, by decide⟩, by decide, by decide⟩

/-- A value with no reserved bit, and one with a reserved bit. -/
theorem witness_SystemRegisterWrite : State.reset.RunsArm .al ∧ State.reset.privileged = true ∧ (14 : Reg) ≠ 15 ∧
    (1 : BitVec 3).toNat ≤ 1 ∧ State.reset.readReg 0 &&& 0x00003FE3 = 0 ∧
    (withR1 State.reset 1).readReg 1 &&& 0x00003FE3 ≠ 0 := ⟨arm_reset, by decide, by decide, by decide, by decide, by decide⟩

/-- The MMU and the D-cache switched on, and L2 enabled before that; then each refusal: a reserved bit, L2 switched off and
switched on too late, a byte order that the product has not, the D-cache alone, the LLR attributes with a line held. -/
theorem witness_ControlRegisterWrite :
    (∀ v ∈ ([5, 0x04000000] : List Word), let s := withR1 State.reset v
      s.RunsArm .al ∧ s.privileged = true ∧ s.readReg 1 &&& 0xFBFF0000 = 0 ∧
      (s.cp15.ctrl.l2 = (s.readReg 1).getLsbD 26 ∨
        ((s.readReg 1).getLsbD 26 = true ∧ s.cp15.ctrl.mmu = false ∧ s.cp15.mmuUsed = false)) ∧
      ((s.readReg 1).getLsbD 2 = true → (s.readReg 1).getLsbD 0 = true) ∧ s.cfg.endian = .both) ∧
    (withR1 State.reset 0x10000).readReg 1 &&& 0xFBFF0000 ≠ 0 ∧
    (control false false false true).RunsArm .al ∧ (control false false false true).cp15.ctrl.l2 = true ∧
    ((control false false false true).readReg 1).getLsbD 26 = false ∧
    (let s := withR1 (State.reset.setCp15 { State.reset.cp15 with mmuUsed := true }) 0x04000000;
      s.RunsArm .al ∧ ¬ (s.cp15.ctrl.l2 = (s.readReg 1).getLsbD 26 ∨
        ((s.readReg 1).getLsbD 26 = true ∧ s.cp15.ctrl.mmu = false ∧ s.cp15.mmuUsed = false))) ∧
    (let s := { withR1 State.reset 0x80 with cfg := { State.reset.cfg with endian := .little } };
      s.RunsArm .al ∧ s.cp15.ctrl.l2 = (s.readReg 1).getLsbD 26 ∧ ¬ ((s.readReg 1).getLsbD 7 = false)) ∧
    ((withR1 State.reset 4).readReg 1).getLsbD 2 = true ∧ ((withR1 State.reset 4).readReg 1).getLsbD 0 = false ∧
    (withR1 State.reset 0xC32).readReg 1 &&& 0xFFFFF3CD = 0 ∧ (withR1 State.reset 4).readReg 1 &&& 0xFFFFF3CD ≠ 0 := by
  refine ⟨?_, by decide, arm_control _ _ _ _, rfl, by decide, ⟨⟨by unfold State.Ready; decide, by decide, by decide⟩, by decide⟩,
    ⟨⟨by unfold State.Ready; decide, by decide, by decide⟩, by decide, by decide⟩, by decide, by decide, by decide, by decide⟩
  intro v hv
  simp only [List.mem_cons, List.not_mem_nil, or_false] at hv
  rcases hv with rfl | rfl <;>
    exact ⟨⟨by unfold State.Ready; decide, by decide, by decide⟩, by decide, by decide, by decide, by decide, by decide⟩

theorem witness_BreakpointRegisterWrite : State.reset.RunsArm .al ∧ State.reset.privileged = true ∧ (14 : Reg) ≠ 15 :=
  ⟨arm_reset, by decide, by decide⟩

/-- A state whose I-cache and D-cache hold the line of the address 0 in way 3, valid and dirty; `on` is Control Register M, C and I. -/
def cached (on : Bool) : State :=
  let s := control on false on false
  let iLines := { s.caches.i with lines := [(3, ⟨0, false, 7, 0⟩)] }
  let dLines := { s.caches.d with lines := [(3, ⟨0, 0, true, false, false, false, 7, fullMask, 0⟩)] }
  let s' := s.setCaches { s.caches with i := iLines, d := dLines }
  s'.setCp15 { s'.cp15 with ctrl := { s'.cp15.ctrl with icache := on } }

/-- A line that is there and one that is not; the I-cache on and off; for the lock functions an empty cache and one
that holds the line. -/
theorem witness_InstructionCacheFunctions : (cached true).RunsArm .al ∧ (0 : Reg) ≠ 15 ∧ (cached true).privileged = true ∧
    (cached true).iFind 0 = some (3, ⟨0, false, 7, 0⟩) ∧ (cached true).iFind 1 = none ∧ (cached true).cp15.ctrl.icache = true ∧
    (cached false).cp15.ctrl.icache = false ∧ (cached false).RunsArm .al ∧ (cached false).cp15.ctrl.mmu = false ∧
    (let s := State.reset.setCp15 { State.reset.cp15 with ctrl := { State.reset.cp15.ctrl with icache := true } };
      s.RunsArm .al ∧ s.cp15.ctrl.mmu = false ∧ s.caches.i.lines = [] ∧ s.ext.busErrors = [] ∧
      (s.setCaches (cached true).caches).iFind 0 ≠ none) :=
  ⟨⟨by unfold State.Ready; decide, by decide, by decide⟩, by decide, by decide, by decide +kernel, by decide +kernel, by decide, by decide,
    ⟨by unfold State.Ready; decide, by decide, by decide⟩, by decide, ⟨by unfold State.Ready; decide, by decide, by decide⟩, by decide, by decide, by decide,
    by decide +kernel⟩

/-- A page of the DTLB at address 0, cacheable in L1 and L2, that nobody checks. -/
def entry : TlbEntry := ⟨false, .sect, 0, 0, 0, 0, 1, true, true, false, false, 0, 0⟩

/-- The MMU and the D-cache on, the DTLB holding that page as the translation table at address 0 gives it, domain 0 a manager;
`l2` is the L2 and its enable. -/
def mapped (l2 : Bool) : State :=
  let s := control true false true l2
  { s with
    tlbs := { s.tlbs with d := { s.tlbs.d with entries := s.tlbs.d.entries.set 0 (some entry) } }
    cp15 := { s.cp15 with dacr := 3 }
    mem := Memory.writeBytes [] 0 4 (0x100E : Word) 15
    cfg := { s.cfg with l2 := if l2 then .kb256 else .absent } }

theorem witness_DataCacheInvalidateFunctions : (cached true).RunsArm .al ∧ (0 : Reg) ≠ 15 ∧ (cached true).privileged = true ∧
    (cached true).cp15.ctrl.mmu = true ∧ (cached true).cp15.ctrl.dcache = true ∧
    (cached true).dFind 0 = some (3, ⟨0, 0, true, false, false, false, 7, fullMask, 0⟩) ∧ (cached true).dFind 1 = none ∧
    (cached false).cp15.ctrl.mmu = false ∧ State.reset.cp15.ctrl.mmu = false ∧ State.reset.dbg.dcsr.ge = false ∧
    (mapped false).RunsArm .al ∧ (mapped false).dbg.dcsr.ge = false ∧ (mapped false).cp15.ctrl.mmu = true ∧
    (mapped false).tlbs.d.lookup 0 = some entry ∧ dacrField (mapped false).cp15.dacr entry.domain = 3 ∧ entry.s = false ∧
    (∃ a, (mapped false).attr entry = some a ∧ a.dcache = true) ∧ (mapped false).cp15.ctrl.dcache = true ∧
    (mapped false).caches.d.lines = [] ∧ (mapped false).cp15.dcLock = false ∧ (mapped false).entryCurrent entry 0 = true ∧
    (mapped false).cfg.pBitUsed = false :=
  ⟨⟨by unfold State.Ready; decide, by decide, by decide⟩, by decide, by decide, by decide, by decide, by decide +kernel, by decide +kernel, by decide,
    by decide, by decide, ⟨by unfold State.Ready; decide, by decide, by decide⟩, by decide, by decide, by decide +kernel, by decide, rfl,
    ⟨_, rfl, by decide⟩, by decide, by decide, by decide, by decide +kernel, by decide⟩

/-- The line at its address, at its set and way (3 << 30), and an address, a set and a way that hold none. -/
theorem witness_DataCacheCleanFunctions : (cached true).RunsArm .al ∧ (0 : Reg) ≠ 15 ∧ (cached true).privileged = true ∧
    (cached true).cp15.ctrl.mmu = true ∧ (cached true).l2On = false ∧ (cached true).caches.buf.entries = [] ∧
    (cached true).caches.l2.leaving = [] ∧ (cached true).ext.busErrors = [] ∧ (cached true).mem.wf = true ∧
    (cached true).dFind 0 = some (3, ⟨0, 0, true, false, false, false, 7, fullMask, 0⟩) ∧ (cached true).dFind 1 = none ∧
    lookupKey 3 (cached true).caches.d.lines = some ⟨0, 0, true, false, false, false, 7, fullMask, 0⟩ ∧
    lookupKey 4 (cached true).caches.d.lines = none :=
  ⟨⟨by unfold State.Ready; decide, by decide, by decide⟩, by decide, by decide, by decide, by decide, by decide, by decide, by decide, by decide +kernel,
    by decide +kernel, by decide +kernel, by decide +kernel, by decide +kernel⟩

theorem witness_BarriersDrainTheMemoryBuffer :
    let s := State.reset.setCaches { State.reset.caches with
      buf := ⟨[⟨0, 7, 1, false, false, [], some 0⟩], 0⟩, l2 := ⟨[], [], [(1, 7)]⟩ }
    (Instr.dataWriteBarrier .al 0 = .dataWriteBarrier .al 0 ∨ Instr.dataWriteBarrier .al 0 = .dataMemoryBarrier .al 0) ∧
      s.RunsArm .al ∧ (0 : Reg) ≠ 15 ∧ s.l2On = false ∧ s.ext.busErrors = [] :=
  ⟨.inl rfl, ⟨by unfold State.Ready; decide, by decide, by decide⟩, by decide, by decide, by decide⟩

/-- An L2 that holds the line of physical address 0 in way 7, modified. -/
def cachedL2 (mmu : Bool) : State :=
  let s := (mapped true).setCp15 { (mapped true).cp15 with ctrl := { (mapped true).cp15.ctrl with mmu := mmu } }
  s.setCaches { s.caches with l2 := { s.caches.l2 with lines := [(7, ⟨0, .modified, false, 0x100E, fullMask, [], []⟩)] } }

/-- That L2 line as accesses by these MVA lines cached it; by none, as a table walk brought it in. -/
def cachedBy (mmu : Bool) (mvas : List (BitVec 27)) : State :=
  let s := cachedL2 mmu
  s.setCaches { s.caches with l2 := { s.caches.l2 with lines := [(7, ⟨0, .modified, false, 0x100E, fullMask, [], mvas⟩)] } }

/-- An access past the L2 refuses where its own MVA has cached the line there (U24); a line of a table walk (21 R261) or of
another MVA, and any line with the MMU off, it passes. -/
theorem test_l2Bypass : (match l2Bypass 0 [5] (cachedBy true [4, 5]), l2Bypass 0 [5] (cachedBy true []),
      l2Bypass 0 [5] (cachedBy true [4]), l2Bypass 0 [5] (cachedBy false [5]) with
    | .error (.refuse .cacheabilityChanged) _, .ok _ _, .ok _ _, .ok _ _ => true
    | _, _, _, _ => false) = true := by decide +kernel

/-- A store past the L2 finds there the line that a store of the same MVA, which waited before it, has allocated (U24). -/
theorem test_storeNext_behind_cached_store :
    (let s := cachedBy true []
     let s := s.setCaches { s.caches with l2 := ⟨[], [], []⟩, buf := ⟨[⟨0, 7, 1, true, false, [5], some 0⟩], 0⟩ }
     match storeNext true ⟨0, 9, 1, false, false, [5], some 0⟩ s with
      | .error (.refuse .cacheabilityChanged) t => t.caches.l2.lines.any (·.2.mvas == [5])
      | _ => false) = true := by decide +kernel

/-- With the L2 in use the D-cache's line answers only a page with the L2 cacheability of its fill (U24); with no L2 in use, any. -/
theorem test_sameOuter :
    (let x : DLine := ⟨0, 0, true, false, true, false, 7, fullMask, 0⟩
     match x.sameOuter (.uncached .normal true false false) (cachedL2 true), x.sameOuter (.uncached .normal true true false) (cachedL2 true),
        x.sameOuter (.uncached .normal true false false) (cachedL2 false) with
      | .error (.refuse .cacheabilityChanged) _, .ok _ _, .ok _ _ => true
      | _, _, _ => false) = true := by decide +kernel

/-- The L2 line of physical address 0 in way 7, with these errors. -/
def erring (mmu : Bool) (errors : List L2Error) : State :=
  let s := cachedL2 mmu
  s.setCaches { s.caches with l2 := { s.caches.l2 with lines := [(7, ⟨0, .modified, false, 0x100E, fullMask, errors, []⟩)] } }

/-- A snoop that finds an error in the L2 line refuses (22 R362); on a sound line it goes on. -/
theorem test_snoop_error :
    (let coherent (errors : List L2Error) : State := { erring true errors with cfg := { State.reset.cfg with coherency := true, l2 := .kb256 } }
     match snoopWrite 0 (coherent [.tag]), snoopRead 0 (coherent [.singleBit]), snoopWrite 0 (coherent []) with
      | .error (.refuse .snoopError) _, .error (.refuse .snoopError) _, .ok _ t => t.caches.l2.lines.isEmpty
      | _, _, _ => false) = true := by decide +kernel

/-- A push to a locked line takes the data and unlocks it (22 R362, R363). -/
theorem test_push_unlocks :
    (let s : State := { cachedL2 true with cfg := { State.reset.cfg with coherency := true, l2 := .kb256 } }
     let s := s.setCaches { s.caches with l2 := { s.caches.l2 with
       lines := [(7, ⟨0, .exclusive, true, 0x100E, fullMask, [], []⟩)] } }
     match pushLine 0 5 true s with
      | .ok _ t => t.caches.l2.lines == [(7, ⟨0, .modified, false, 5, fullMask, [], []⟩)]
      | _ => false) = true := by decide +kernel

/-- An address error logs the address of its access, not of its line or byte lane (12 R173): LDRB at 0x9005, big endian. -/
theorem test_address_error : (let s := start 0x8000 0xD3 [(1, 0x9005)] []
    let s := s.setCp15 { s.cp15 with ctrl := { s.cp15.ctrl with bigEndian := true } }
    match execLdrb .al true true false 1 0 (.imm 0) (s.setExt { s.ext with busErrors := [[.explicitAddress]] }) with
    | .next t => t.errlog == ⟨0x10, 0x9005, 0⟩
    | _ => false) = true := by decide +kernel

/-- SELDCSR is updated only after the instruction register has been loaded since the reset pin was released (61 R929 step 6). -/
theorem test_seldcsr_reload :
    (let released : M Unit := do
       jtagAction (.loadIr opSeldcsr)
       envAction (.resetPin true)
       envAction (.resetPin false)
     match (do released; jtagAction .updateDr) State.reset,
       (do released; jtagAction (.loadIr opSeldcsr); jtagAction .updateDr) State.reset with
      | .error (.refuse .seldcsrNotReloaded) _, .ok _ _ => true
      | _, _ => false) = true := by decide +kernel

/-- An LDC to CP7 in User mode is undefined and makes no access (43 R620). -/
theorem test_cp7_user : runs (let s := start 0x8000 0x10 [(1, 0x9000)] []
    { s.setCp15 { s.cp15 with cpar := 0x80 } with cfg := { State.reset.cfg with coprocessors := 0x80 } }) 32 0xED910700
    (gives 4 0x9B [(14, 0x8004)] []) = true := by decide +kernel

/-- The errors that the L2 functions report: of the line they hit; on a miss, of the tags of the set. -/
theorem witness_LevelTwoFunctions_errors : let s := erring false [.tag]
    s.RunsArm .al ∧ s.privileged = true ∧ s.cfg.l2 ≠ .absent ∧ s.cp15.ctrl.l2 = true ∧ s.cp15.ctrl.mmu = false ∧
      s.caches.buf.entries = [] ∧ s.ext.busErrors = [] ∧ s.mem.wf = true ∧
      s.l2Find 0 = some (7, ⟨0, .modified, false, 0x100E, fullMask, [.tag], []⟩) ∧ s.l2Find 1024 = none ∧
      lookupKey (8 * s.l2Set 1024 + 7) s.caches.l2.lines = some ⟨0, .modified, false, 0x100E, fullMask, [.tag], []⟩ :=
  ⟨⟨by unfold State.Ready; decide, by decide, by decide⟩, by decide, by decide, by decide, by decide, by decide, by decide,
    by decide +kernel, by decide +kernel, by decide +kernel, by decide +kernel⟩

/-- No L2; an L2 that is off; one that is on and holds the line of the address, and one that does not. -/
theorem witness_LevelTwoFunctions : State.reset.RunsArm .al ∧ (0 : Reg) ≠ 15 ∧ State.reset.privileged = true ∧
    State.reset.cfg.l2 = .absent ∧ (let s := { State.reset with cfg := { State.reset.cfg with l2 := .kb512 } }
      s.RunsArm .al ∧ s.cfg.l2 ≠ .absent ∧ s.cp15.ctrl.l2 = false) ∧
    (cachedL2 false).RunsArm .al ∧ (cachedL2 false).privileged = true ∧ (cachedL2 false).cfg.l2 ≠ .absent ∧
    (cachedL2 false).cp15.ctrl.l2 = true ∧ (cachedL2 false).cp15.ctrl.mmu = false ∧ (cachedL2 false).caches.buf.entries = [] ∧
    (cachedL2 false).ext.busErrors = [] ∧ (cachedL2 false).mem.wf = true ∧
    (cachedL2 false).l2Find 0 = some (7, ⟨0, .modified, false, 0x100E, fullMask, [], []⟩) ∧ (cachedL2 false).l2Find 1 = none ∧
    lookupKey 7 (cachedL2 false).caches.l2.lines = some ⟨0, .modified, false, 0x100E, fullMask, [], []⟩ ∧
    lookupKey 0 (cachedL2 false).caches.l2.lines = none ∧ (cachedL2 false).caches.l2.leaving = [] :=
  ⟨arm_reset, by decide, by decide, by decide, ⟨⟨by unfold State.Ready; decide, by decide, by decide⟩, by decide, by decide⟩,
    ⟨by unfold State.Ready; decide, by decide, by decide⟩, by decide, by decide, by decide, by decide, by decide, by decide, by decide +kernel,
    by decide +kernel, by decide +kernel, by decide +kernel, by decide +kernel, by decide⟩

/-- A line that is there, and an empty L2. -/
theorem witness_LevelTwoLockFunctions : (∀ s ∈ [mapped true, cachedL2 true, erring true [.state]], s.RunsArm .al ∧ s.privileged = true ∧
      s.cfg.l2 ≠ .absent ∧ s.cp15.ctrl.l2 = true ∧ s.cp15.ctrl.mmu = true ∧ s.caches.buf.entries = [] ∧ s.ext.busErrors = [] ∧
      s.tlbs.d.lookup (s.readReg 0) = some entry ∧ s.entryCurrent entry (s.readReg 0) = true ∧ s.cfg.pBitUsed = false) ∧ entry.s = false ∧
    (∃ a, (mapped true).attr entry = some a ∧ a.outer = true ∧ a.shared = false) ∧
    (∃ a, (cachedL2 true).attr entry = some a ∧ a.outer = true ∧ a.shared = false) ∧
    (∃ a, (erring true [.state]).attr entry = some a ∧ a.outer = true ∧ a.shared = false) ∧
    (erring true [.state]).l2Find (lineOf (entry.pa ((erring true [.state]).readReg 0))) =
      some (7, ⟨0, .modified, false, 0x100E, fullMask, [.state], []⟩) ∧ (erring true [.state]).l2LockedWays 0 < 7 ∧
    (cachedL2 true).l2Find (lineOf (entry.pa ((cachedL2 true).readReg 0))) = some (7, ⟨0, .modified, false, 0x100E, fullMask, [], []⟩) ∧
    (cachedL2 true).l2LockedWays 0 < 7 ∧ (mapped true).caches.l2.lines = [] := by
  refine ⟨?_, rfl, ⟨_, rfl, by decide, by decide⟩, ⟨_, rfl, by decide, by decide⟩, ⟨_, rfl, by decide, by decide⟩, by decide +kernel, by decide +kernel,
    by decide +kernel, by decide +kernel, by decide⟩
  intro s hs
  simp only [List.mem_cons, List.not_mem_nil, or_false] at hs
  rcases hs with rfl | rfl | rfl <;>
    exact ⟨⟨by unfold State.Ready; decide, by decide, by decide⟩, by decide, by decide, by decide, by decide, by decide, by decide, by decide +kernel, by decide +kernel, by decide⟩

/-- A TLB that holds a locked entry of the address and one that holds none; the MMU off and on; a fault descriptor
and section descriptors with S clear and set at the table base. -/
theorem witness_TlbFunctions : State.reset.RunsArm .al ∧ (0 : Reg) ≠ 15 ∧ State.reset.privileged = true ∧
    (∃ e, some e ∈ (Tlb.empty.lock { entry with locked := true }).entries.toList ∧ e.locked = true ∧ e.covers 0 = true) ∧
    (¬ ∃ e, some e ∈ State.reset.tlbs.i.entries.toList ∧ e.locked = true ∧ e.covers 0 = true) ∧
    State.reset.cp15.ctrl.mmu = false ∧ (control true false false false).RunsArm .al ∧
    (control true false false false).cp15.ctrl.mmu = true ∧ (control true false false false).l2On = false ∧
    (control true false false false).cp15.ttOC ≠ 1 ∧ (control true false false false).tlbs.i.lookup 0 = none ∧
    (control true false false false).tlbs.i.lockptr < 31 ∧ (control true false false false).dbg.dcsr.ge = false ∧
    ((control true false false false).mem.readBytes 0 4 : Word).extractLsb' 0 2 = 0 ∧
    (((control true false false false).setMem [⟨0, 2⟩]).mem.readBytes 0 4 : Word) = 2 ∧
    (((control true false false false).setMem [⟨0, 2⟩, ⟨2, 1⟩]).mem.readBytes 0 4 : Word) = 0x10002 ∧
    (control true false false false).cfg.coherency = false ∧
    ((control true false false false).setMem [⟨0, 2⟩, ⟨2, 1⟩]).Coherent (lineOf 0) ∧
    (control true false false false).cfg.pBitUsed = false ∧ (control true false false false).Coherent (lineOf 0) ∧
    ((control true false false false).setMem [⟨0, 2⟩]).Coherent (lineOf 0) := by
  refine ⟨arm_reset, by decide, by decide, ⟨{ entry with locked := true }, by decide +kernel, by decide, by decide +kernel⟩, ?_,
    by decide, arm_control _ _ _ _, rfl, by decide, by decide, by decide +kernel, by decide, by decide, by decide +kernel,
    by decide +kernel, by decide +kernel, by decide, by unfold State.Coherent; decide +kernel, by decide,
    by unfold State.Coherent; decide +kernel, by unfold State.Coherent; decide +kernel⟩
  rintro ⟨e, h, -⟩
  simp [State.reset, Tlb.empty, Vector.toList_replicate] at h

theorem witness_DebugRegisterRead : State.reset.RunsArm .al ∧ State.reset.privileged = true ∧ (14 : Reg) ≠ 15 ∧
    State.reset.tracing = false := ⟨arm_reset, by decide, by decide, by decide⟩

/-- PMNC with P, C and E set; a reserved bit; TXRXCTRL with OV set. -/
theorem witness_DebugRegisterWrite : State.reset.RunsArm .al ∧ State.reset.privileged = true ∧ (14 : Reg) ≠ 15 ∧
    (let v := (withR1 State.reset 7).readReg 1;
      v &&& 0x00FFFFE0 = 0 ∧ (v.getLsbD 1 = true → v.getLsbD 0 = true ∧ v.getLsbD 4 = false ∧
        (State.reset.pmu.enable = false ∨ State.reset.pmu.disable = true))) ∧
    (withR1 State.reset 0x20).readReg 1 &&& 0x00FFFFE0 ≠ 0 ∧ State.reset.pmu.enable = false ∧
    ((withR1 State.reset 0x40000000).readReg 1).extractLsb' 0 28 = 0 ∧ State.reset.tracing = false :=
  ⟨arm_reset, by decide, by decide, by decide, by decide, by decide, by decide, by decide⟩

/-- In Halt Mode outside Special Debug State, and outside Halt Mode. -/
theorem witness_DebugControlWrite : State.reset.RunsArm .al ∧ State.reset.privileged = true ∧ (14 : Reg) ≠ 15 ∧
    State.reset.dbg.dcsr.h = false ∧ (withR1 State.reset 0x80).readReg 1 &&& 0x1F20FF80 ≠ 0 ∧ (withR1 State.reset 0x80000001).readReg 1 &&& 0x1F20FF80 = 0 ∧ State.reset.tracing = false ∧
    (let s := State.reset.setDebug { State.reset.dbg with dcsr := { State.reset.dbg.dcsr with h := true } };
      s.RunsArm .al ∧ s.dbg.dcsr.h = true ∧ s.dbg.sds = false) :=
  ⟨arm_reset, by decide, by decide, by decide, by decide, by decide, by decide, ⟨by unfold State.Ready; decide, by decide, by decide⟩, by decide, by decide⟩

/-- Words that every register takes; Halt Mode outside Special Debug State; registers that LDC and STC may not name. -/
theorem witness_DebugRegisterTransfer : State.reset.RunsArm .al ∧ State.reset.Direct ∧ State.reset.privileged = true ∧
    (true = true → (1 : Reg) ≠ 15) ∧ State.reset.cp15.ctrl.align = false ∧ (State.reset.mem.readBytes 0 4 : Word).toNat < 16 ∧
    State.reset.dbg.dcsr.h = false ∧ (State.reset.mem.readBytes 0 4 : Word) &&& 0x1F20FF80 = 0 ∧
    (State.reset.mem.readBytes 0 4 : Word).extractLsb' 0 28 = 0 ∧ (9 : BitVec 4).toNat ∉ [6, 7, 8, 10, 12, 13, 14] ∧
    (0 : BitVec 4).toNat ∉ [6, 7, 8, 9, 10, 11, 12, 13, 14] ∧
    (let s := State.reset.setDebug { State.reset.dbg with dcsr := { State.reset.dbg.dcsr with h := true } };
      s.RunsArm .al ∧ s.Direct ∧ s.privileged = true ∧ s.dbg.dcsr.h = true ∧ s.dbg.sds = false) :=
  ⟨arm_reset, direct_reset, by decide, by decide, by decide, by decide +kernel, by decide, by decide +kernel, by decide +kernel,
    by decide, by decide, ⟨by unfold State.Ready; decide, by decide, by decide⟩, by constructor <;> decide +kernel, by decide, by decide, by decide⟩

theorem witness_ThumbDataProcessingResult : thumbState.RunsThumb := thumb_reset

theorem witness_ThumbHighAndAddressResult : thumbState.RunsThumb := thumb_reset

theorem witness_ThumbLoadResult : thumbState.RunsThumb ∧ thumbState.Direct ∧ thumbState.cp15.ctrl.align = false ∧
    thumbState.Aligned (thumbState.readReg (0#1 ++ 1#3) + thumbState.readReg (0#1 ++ 2#3)) 2 := by
  refine ⟨thumb_reset, direct_thumb, by decide, ?_⟩
  unfold State.Aligned; decide +kernel

theorem witness_ThumbStoreResult : thumbState.RunsThumb ∧ thumbState.Direct ∧ thumbState.cp15.ctrl.align = false ∧
    thumbState.Aligned (thumbState.readReg (0#1 ++ 1#3) + thumbState.readReg (0#1 ++ 2#3)) 2 := by
  refine ⟨thumb_reset, direct_thumb, by decide, ?_⟩
  unfold State.Aligned; decide +kernel

/-- PUSH of all nine registers with SP at the top of memory, and STMIA of eight. -/
theorem witness_ThumbStoreMultipleResult : thumbState.RunsThumb ∧ thumbState.Direct ∧ thumbState.run.env = [] ∧
    thumbState.cp15.ctrl.align = false ∧
    ((thumbState.readReg 13 - 36) &&& 0xFFFFFFFC).toNat + 4 * 9 ≤ 2 ^ 32 ∧ (Instr.tStmia 0 0xFF).operandsAllowed = true ∧
    (thumbState.readReg 0 &&& 0xFFFFFFFC).toNat + 4 * 8 ≤ 2 ^ 32 :=
  ⟨thumb_reset, direct_thumb, by decide, by decide, by decide, by decide, by decide⟩

theorem witness_ThumbLoadMultipleResult : thumbState.RunsThumb ∧ thumbState.Direct ∧ thumbState.run.env = [] ∧
    thumbState.cp15.ctrl.align = false ∧
    (0xFF : BitVec 8) ≠ 0 ∧ (thumbState.readReg 13 &&& 0xFFFFFFFC).toNat + 4 * 9 ≤ 2 ^ 32 :=
  ⟨thumb_reset, direct_thumb, by decide, by decide, by decide, by decide⟩

theorem witness_ThumbBranchResult : thumbState.RunsThumb := thumb_reset

theorem witness_ArmRoundTrip : (Instr.smlaxy .ne 14 1 2 true false 3).WellFormed ∧
    (Instr.smlaxy .ne 14 1 2 true false 3).isMultiply = true ∧ (Instr.blxImm true 0x800000).WellFormed ∧
    (Instr.blxImm true 0x800000).isBranchOrStatus = true := by decide +kernel

theorem witness_DataAndTransferRoundTrip : (Instr.ldrd .ne true false true 1 14 (.reg 0 2)).operandsAllowed = false ∧
    (Instr.ldrd .ne true false true 1 12 (.reg 0 2)).WellFormed ∧
    (Instr.ldrd .ne true false true 1 12 (.reg 0 2)).isDataOrTransfer = true ∧
    (Instr.and .cs true 14 15 (.shiftImm 31 .ror 15)).WellFormed ∧
    (Instr.and .cs true 14 15 (.shiftImm 31 .ror 15)).isDataOrTransfer = true := by decide +kernel

theorem witness_CoprocessorAndSystemRoundTrip : (Instr.mcrr .ne 15 14 7 15 15).WellFormed ∧ encode (Instr.mcrr .ne 15 14 7 15 15) = .arm 0x1C4FE7FF ∧
    (Instr.mcrr .ne 15 14 7 15 15).isMultiply = false ∧ (Instr.mcrr .ne 15 14 7 15 15).isBranchOrStatus = false ∧ (Instr.mcrr .ne 15 14 7 15 15).isDataOrTransfer = false := by
  decide +kernel

theorem witness_ThumbRoundTrip : (Instr.tPush true 0xFF).WellFormed ∧ encode (.tPush true 0xFF) = .thumb 0xB5FF := by
  decide +kernel

/-- Reset ends with and without the reset trap of Halt Mode. -/
theorem witness_ResetEntry : ∀ k ∈ [false, true], let s := { State.reset with
      ext := { State.reset.ext with inReset := true }
      dbg := { State.reset.dbg with dcsr := { State.reset.dbg.dcsr with h := k, tr := k } } }
    s.run.env = [] ∧ s.ext.resetPin = false ∧ s.dbg.holdReset = false ∧ s.ext.inReset = true ∧
      (s.dbg.dcsr.h && s.dbg.dcsr.tr) = k := by decide

theorem quiescent_reset : State.reset.Quiescent := by constructor <;> decide

/-- `MOV R0, #5` at address 0; and the state in which the end of the step changes the model's own notes alone. -/
theorem witness_StepRunsTheDecodedInstruction : (State.reset.withFetchWord 32 0xE3A00005).Fetches ∧
    (State.reset.withFetchWord 32 0xE3A00005).instructionAtPc = .instr (.mov .al false 0 0 (.imm 0 5)) ∧
    (State.reset.withFetchWord 32 0xE3A00005).pmu.enable = false ∧
    (State.reset.withFetchWord 32 0xE3A00005).cp15.ctrl.btb = false ∧ (State.reset.withFetchWord 32 0xE3A00005).tracing = false := by
  refine ⟨⟨by constructor <;> decide +kernel, by decide +kernel, by decide +kernel, by decide +kernel, by decide +kernel,
    by decide +kernel, by decide +kernel, by decide +kernel, by decide +kernel,
    by unfold State.Coherent; decide +kernel, ?_⟩, by decide +kernel, by decide +kernel,
    by decide +kernel, by decide +kernel⟩
  unfold State.pcAligned
  decide +kernel

/-- An FIQ, and an IRQ while F masks an FIQ. -/
theorem witness_InterruptEntry :
    let s := (State.reset.setExt { State.reset.ext with irq := true, fiq := true }).setCpsr { State.reset.cpsr with f := false }
    let s' := (State.reset.setExt { State.reset.ext with irq := true, fiq := true }).setCpsr { State.reset.cpsr with i := false }
    s.Quiescent ∧ s.dbg.sds = false ∧ s.dbg.dcsr.ge = false ∧ s.pmu.enable = false ∧ s.fiqInput = true ∧ s.cpsr.f = false ∧
      s'.Quiescent ∧ s'.irqInput = true ∧ s'.cpsr.i = false ∧ s'.cpsr.f = true := by
  refine ⟨by constructor <;> decide, by decide, by decide, by decide, by decide, by decide, by constructor <;> decide, by decide,
    by decide, by decide⟩

theorem inv_reset : State.reset.Inv := by
  refine ⟨by decide +kernel, by decide, ?_⟩
  unfold State.pcAligned
  decide

theorem witness_EveryStepKeepsTheInvariant : (State.reset.withFetchWord 32 0xE3A00005).Inv ∧
    (match step (State.reset.withFetchWord 32 0xE3A00005) with | .next t => t.pc == 4 | _ => false) = true := by
  refine ⟨⟨by decide +kernel, by decide +kernel, ?_⟩, by decide +kernel⟩
  unfold State.pcAligned
  decide +kernel

/-- An instruction of User mode that stays there, and one that leaves it. -/
theorem witness_UserModeIsConfined :
    let s := State.reset.setCpsr { State.reset.cpsr with m := modeUsr }
    s.cpsr.m = modeUsr ∧ s.dbg.sds = false ∧ s.dbg.dcsr.ge = false ∧ s.run.env = [] ∧ s.ext.busErrors = [] ∧
      (∀ e ∈ s.caches.l2.lines, e.2.errors = []) ∧
      (match exec (.mov .al false 0 0 (.imm 0 5)) s with | .next t => t.cpsr.m == modeUsr | _ => false) = true ∧
      (match exec (.swi .al 0) s with | .next t => t.cpsr.m == modeSvc | _ => false) = true :=
  ⟨by decide, by decide, by decide, by decide, by decide, by decide, by decide +kernel, by decide +kernel⟩

end Sys2Proof.Tests
end

section
/-! # An instruction whose condition fails (00 R12) -/

namespace Sys2Proof.Machine

/-- The outcome of an instruction whose condition fails (00 R12): the pc goes to the next instruction, and of the rest only
the model's note of how the pc was left may differ. -/
def State.PassedOver (s : State) (o : Outcome) : Prop :=
  ∃ f : Flow, o = .next { s with pc := s.pc + s.size, run := { s.run with flow := f } } ∧
    (f = s.run.flow ∨ f = .direct false ∨ f = .indirect false)

section FailedCondition
variable {s : State} {c : Cond}

theorem runIf_passedOver (h : s.cpsr.holds c = false) (m : M Unit) : s.PassedOver (runIf c m s) :=
  ⟨s.run.flow, runIf_fails m h, .inl rfl⟩

theorem runBranch_direct_passedOver (h : s.cpsr.holds c = false) (m : M Unit) :
    s.PassedOver (runBranch c (.direct false) m s) :=
  ⟨_, runBranch_fails _ m h, .inr (.inl rfl)⟩

theorem runBranch_indirect_passedOver (h : s.cpsr.holds c = false) (m : M Unit) :
    s.PassedOver (runBranch c (.indirect false) m s) :=
  ⟨_, runBranch_fails _ m h, .inr (.inr rfl)⟩

theorem runToPc_passedOver (h : s.cpsr.holds c = false) (toPc : Bool) (m : M Unit) :
    s.PassedOver (runToPc toPc c m s) := by
  cases toPc with
  | false => exact runIf_passedOver h m
  | true => exact runBranch_indirect_passedOver h m

/-- The conditional branch of Thumb state asks its condition inside its body (46 R780). -/
theorem execTBCond_passedOver (h : s.cpsr.holds c = false) (imm8 : BitVec 8) : s.PassedOver (execTBCond c imm8 s) := by
  refine ⟨.direct false, finish_ok (u := ()) ?_, .inr (.inl rfl)⟩
  simp only [M.bind_apply, M.state_apply, M.ite_apply, h, Bool.false_eq_true, if_false, M.update_apply]
  rfl

/-- Every instruction that has a condition is passed over where the condition fails: all but the named ones, the accesses to
the system registers among them, are a body under `runIf`. -/
theorem exec_passedOver {i : Instr} (hc : i.cond = some c) (h : s.cpsr.holds c = false) : s.PassedOver (exec i s) := by
  cases i <;> cases hc
  case tBCond => exact execTBCond_passedOver h _
  case b | bl => exact runBranch_direct_passedOver h _
  case blxReg | bx => exact runBranch_indirect_passedOver h _
  case and | eor | sub | rsb | add | adc | sbc | rsc | orr | mov | bic | mvn | ldr | ldm =>
    exact runToPc_passedOver h _ _
  case ldmReturn => exact runToPc_passedOver h true _
  all_goals exact runIf_passedOver h _

end FailedCondition

end Sys2Proof.Machine

open Sys2Proof Sys2Proof.Machine

/-- Settles O7: each conditional instruction is one of the four conditional frames, or the conditional branch of Thumb state. -/
theorem failedConditionOnlyAdvances : Obligations.FailedConditionOnlyAdvances :=
  fun _ _ _ hc h => exec_passedOver hc h
end

section
/-! # A step that runs the instruction at the pc (20 R208): its fetch from memory, the instruction, the end of the step -/

namespace Sys2Proof.Machine

/-! ## The instruction in a line of memory -/

/-- Bytes of a line of memory are the bytes of memory at the address. -/
theorem lineBytes_memoryLine (s : State) {pa : PAddr} {n : Nat} (h : lineOffset pa + n ≤ 32) :
    lineBytes (s.memoryLine (lineOf pa)) (lineOffset pa) n = s.mem.readBytes pa n := by
  have hsplit : lineAddr (lineOf pa) + BitVec.ofNat 36 (lineOffset pa) = pa := by
    have hl : (lineAddr (lineOf pa)).toNat = pa.toNat / 32 % 2 ^ 31 * 32 := by
      rw [lineAddr, BitVec.toNat_append, lineOf, BitVec.extractLsb'_toNat, Nat.shiftRight_eq_div_pow]
      simp [Nat.shiftLeft_eq]
    have ho : lineOffset pa = pa.toNat % 32 := by simp [lineOffset, BitVec.extractLsb'_toNat]
    apply BitVec.eq_of_toNat_eq
    have := pa.isLt
    rw [BitVec.toNat_add, BitVec.toNat_ofNat, hl, ho]
    omega
  apply BitVec.eq_of_getLsbD_eq
  intro i hi
  have hbyte : (8 * lineOffset pa + i) / 8 = lineOffset pa + i / 8 := by omega
  have hbit : (8 * lineOffset pa + i) % 8 = i % 8 := by omega
  rw [lineBytes, State.memoryLine, BitVec.getLsbD_extractLsb', readBytes_bit _ 32 _ _ (by omega), readBytes_bit _ n _ _ hi,
    hbyte, hbit, BitVec.ofNat_add, ← BitVec.add_assoc, hsplit]
  simp [hi]

/-- The remapping keeps the place of an address in its word (20 R191). -/
theorem remap_mod_four (s : State) (va : Word) : (s.remap va).toNat % 4 = va.toNat % 4 := by
  unfold State.remap
  split
  · have := va.isLt
    rw [BitVec.toNat_append, ← Nat.shiftLeft_add_eq_or_of_lt (BitVec.isLt _), BitVec.extractLsb'_toNat, Nat.shiftLeft_eq]
    omega
  · rfl

/-- The byte lane of a halfword is in the same line (20 R195). -/
theorem lineOf_lane_half (s : State) (pa : PAddr) : lineOf (s.lane pa 2) = lineOf pa := by
  have hxor : lineOf (pa ^^^ 2) = lineOf pa := by
    rw [lineOf, BitVec.extractLsb'_xor]
    exact BitVec.xor_zero
  simp only [State.lane, show (2 : Nat) ≠ 1 by decide, if_true, if_false]
  split
  · exact hxor
  · rfl

/-- The place of a halfword in its line: the upper one of its word where bit 1 of the address and CTRL.B differ (20 R195). -/
theorem lineOffset_lane_half (s : State) {a : Word} (h : a.toNat % 2 = 0) :
    lineOffset (s.lane (a.setWidth 36) 2) =
      4 * (a.extractLsb' 2 3).toNat + if a.getLsbD 1 != s.cp15.ctrl.bigEndian then 2 else 0 := by
  have places : ∀ x : BitVec 5, x.getLsbD 0 = false →
      x.toNat = 4 * (x.extractLsb' 2 3).toNat + (if x.getLsbD 1 then 2 else 0) ∧
      (x ^^^ 2).toNat = 4 * (x.extractLsb' 2 3).toNat + (if !x.getLsbD 1 then 2 else 0) := by decide
  have heven : (a.extractLsb' 0 5).getLsbD 0 = false := by simp [BitVec.getLsbD, h]
  have hword : (a.extractLsb' 0 5).extractLsb' 2 3 = a.extractLsb' 2 3 := by
    ext i hi
    simp
  have hbit : (a.extractLsb' 0 5).getLsbD 1 = a.getLsbD 1 := by simp
  have hlow : (a.setWidth 36 : PAddr).extractLsb' 0 5 = a.extractLsb' 0 5 := BitVec.extractLsb'_setWidth_of_le (by decide)
  obtain ⟨hlittle, hbig⟩ := places _ heven
  rw [hword, hbit] at hlittle hbig
  cases hb : s.cp15.ctrl.bigEndian with
  | false => simpa [State.lane, hb, lineOffset, hlow] using hlittle
  | true =>
    rw [← hlow] at hbig
    simpa [State.lane, hb, lineOffset, BitVec.extractLsb'_xor] using hbig

/-- A halfword of a word of a line, as bytes of the line. -/
theorem halfOfWord_lineBytes (line : BitVec 256) (k : Nat) (upper : Bool) :
    (if upper then (lineWord line k).extractLsb' 16 16 else (lineWord line k).extractLsb' 0 16) =
      lineBytes line (4 * k + if upper then 2 else 0) 2 := by
  cases upper with
  | false =>
    ext i hi
    have hlow : i < 32 := by omega
    simp [lineWord, lineBytes, hlow, ← Nat.mul_assoc]
  | true =>
    ext i hi
    have hhigh : 16 + i < 32 := by omega
    have hplace : 32 * k + (16 + i) = 8 * (4 * k + 2) + i := by omega
    simp [lineWord, lineBytes, hhigh, hplace]

/-- The bits of the instruction in memory at the pc (20 R208). -/
def State.fetchedAtPc (s : State) : Fetched :=
  if s.cpsr.t then .half (s.mem.readBytes (s.physical s.pc 2) 2) else .word (s.mem.readBytes (s.physical s.pc 4) 4)

/-- The instruction taken from the line of memory is the one in memory at the pc (20 R195, R208). -/
theorem fetchedFrom_memoryLine {s : State} (h : s.pcAligned) :
    s.fetchedFrom (s.memoryLine (lineOf ((s.remap s.pc).setWidth 36))) (s.remap s.pc) = s.fetchedAtPc := by
  have hmod := remap_mod_four s s.pc
  unfold State.pcAligned at h
  unfold State.fetchedFrom State.fetchedAtPc State.physical
  by_cases ht : s.cpsr.t
  · rw [if_pos ht] at h
    have heven : (s.remap s.pc).toNat % 2 = 0 := by omega
    have hoff := lineOffset_lane_half s heven
    have hin := lane_inLine (s := s) (mva := s.remap s.pc) (n := 2) (by omega) heven
    rw [if_pos ht, if_pos ht, ← lineBytes_memoryLine s hin, lineOf_lane_half, hoff, ← halfOfWord_lineBytes]
  · rw [if_neg ht] at h
    have haligned : ((s.remap s.pc).setWidth 36 : PAddr).toNat % 4 = 0 := by
      rw [BitVec.toNat_setWidth_of_le (by decide)]
      omega
    have hlane : s.lane ((s.remap s.pc).setWidth 36) 4 = (s.remap s.pc).setWidth 36 := by simp [State.lane]
    have hword : wordIndex ((s.remap s.pc).setWidth 36) = ((s.remap s.pc).extractLsb' 2 3).toNat :=
      congrArg BitVec.toNat (BitVec.extractLsb'_setWidth_of_le (by decide))
    rw [if_neg ht, if_neg ht, hlane, ← lineWord_memoryLine s haligned, hword]

/-! ## Before the fetch -/

/-- A step begins with the fetch of its instruction unless an event is taken. -/
theorem boundary_quiescent {s : State} (h : s.Quiescent) : boundary s = eventsThenFetch false s := by
  have henv : s.setRun { s.run with env := [] } = s := by
    rw [← h.env]
    rfl
  obtain ⟨hpin, hhold, hreset⟩ := h.released
  have hready : becomeReady s = .ok () s := by simp [becomeReady, M.bind_apply, h.noDownload]
  have hdeliver : deliverNow s = .ok false s := by simp [deliverNow, M.bind_apply, h.noAbort]
  have hactions : envActions [] s = .ok () s := rfl
  simp [boundary, h.env, splitTick, henv, hactions, afterActions, State.heldInReset, hpin, hhold, hreset, h.running,
    M.bind_apply, hready, hdeliver]

/-- A fetch that answers the bits at the pc goes on with the instruction they decode to. -/
theorem fetchInstruction_fetched {s t : State} {i : Instr} (hi : s.instructionAtPc = .instr i)
    (hf : fetch s = .ok s.fetchedAtPc t) : fetchInstruction s = .run (.instr i) s.codeAtPc t := by
  rw [← hi]
  by_cases ht : s.cpsr.t
  · simp [fetchInstruction, hf, State.fetchedAtPc, State.instructionAtPc, State.codeAtPc, ht]
  · simp [fetchInstruction, hf, State.fetchedAtPc, State.instructionAtPc, State.codeAtPc, Fetched.bits, ht]

/-! ## The fetch -/

/-- The state after a fetch: another instruction side and other notes for the performance monitor. -/
def State.afterFetch (s : State) (i : ICache) (events : List (BitVec 8)) : State :=
  { s with caches := { s.caches with i := i }, run := { s.run with events := events } }

theorem afterFetch_newestLine (s : State) (i : ICache) (events : List (BitVec 8)) (p : BitVec 31) :
    (s.afterFetch i events).newestLine p = s.newestLine p := rfl

theorem settle_full (s : State) (data : BitVec 256) : settle data fullMask s = .ok data s := rfl

theorem iFind_empty {s : State} (h : s.caches.i.lines = []) (line : BitVec 27) : s.iFind line = none := by
  simp [State.iFind, h, l1Ways, findWay, lookupKey]

theorem bufferFind_empty {s : State} (h : s.caches.i.buffers = Vector.replicate 2 none) (line : BitVec 27) :
    s.bufferFind line = none := by
  simp [State.bufferFind, State.bufferFind.bufferSecond, h]

/-- With the MMU off and no bus error a line read from the next level is the line of memory. -/
theorem readNext_memory {s : State} (hm : s.cp15.ctrl.mmu = false) (hb : s.ext.busErrors = []) (line : BitVec 27)
    (p : BitVec 31) (outer shared swap : Bool) :
    readNext line p outer shared swap s = .ok (s.memoryLine p, fullMask, false) s := by
  simp [readNext, M.bind_apply, M.map_apply, State.l2On, hm, l2Bypass_direct hm, busRead_direct hb, State.memoryLine]

section Fetches
variable {s : State} (h : s.Fetches)
include h

/-- A fetch that finds the instruction side empty reads the line from memory. -/
theorem iLine_fetches (mva : Word) (pa : PAddr) (cacheable outer shared : Bool) :
    ∃ i ev, iLine mva pa cacheable outer shared s = .ok (.ok (s.memoryLine (lineOf pa))) (s.afterFetch i ev) := by
  have hr := readNext_memory (s := s.note 0x00) h.mmu h.noErrors (mvaLine mva) (lineOf pa) outer shared false
  have hl : (s.note 0x00).memoryLine (lineOf pa) = s.memoryLine (lineOf pa) := rfl
  simp only [iLine, M.bind_apply, M.state_apply, iFind_empty h.lines, bufferFind_empty h.buffers, M.update_apply, hr, hl,
    Bool.false_eq_true, if_false, settle_full, M.pure_apply]
  split
  · exact ⟨_, _, rfl⟩
  · exact ⟨_, _, rfl⟩

/-- No newer contents of the line wait anywhere, so the fetch reads memory's (93 U43). -/
theorem iRead_fetches (mva : Word) :
    ∃ i ev, iRead mva ((s.remap s.pc).setWidth 36) true false false s =
      .ok (.ok (s.memoryLine (lineOf ((s.remap s.pc).setWidth 36)))) (s.afterFetch i ev) := by
  obtain ⟨i, ev, e⟩ := iLine_fetches h mva ((s.remap s.pc).setWidth 36) true false false
  have hc : s.newestLine (lineOf ((s.remap s.pc).setWidth 36)) = _ := h.coherent
  exact ⟨i, ev, by simp [iRead, M.bind_apply, e, afterFetch_newestLine, hc]⟩

/-- The fetch answers the instruction in memory at the pc and changes the instruction side and the notes alone (20 R208). -/
theorem fetch_fetches : ∃ i ev, fetch s = .ok s.fetchedAtPc (s.afterFetch i ev) := by
  obtain ⟨i, ev, hread⟩ := iRead_fetches h (s.remap s.pc)
  have hpage : fetchPage (s.remap s.pc) s = .ok (.ok ((s.remap s.pc).setWidth 36, true, false, false)) s := by
    simp [fetchPage, M.bind_apply, h.mmu]
  exact ⟨i, ev, by simp [fetch, M.bind_apply, h.memory, hpage, hread, fetchedFrom_memoryLine h.aligned]⟩

/-! ## The step -/

/-- The hazard of a user-bank transfer is no part of what a fetch asks for. -/
theorem begin_fetches : s.begin.Fetches :=
  ⟨⟨h.quiescent.env, h.quiescent.released, h.quiescent.running, h.quiescent.noAbort, h.quiescent.noBreak,
    h.quiescent.noDownload⟩, h.noFiq, h.noIrq, h.noBreakpoint, h.memory, h.mmu, h.lines, h.buffers, h.noErrors, h.coherent,
    h.aligned⟩

/-- With every interrupt absent or masked no event is taken. -/
theorem event_fetches : s.event false = none := by
  obtain ⟨hdata, hjtag, hfull, hsoc⟩ := h.quiescent.noBreak
  have hfiq : (s.fiqInput && !s.cpsr.f) = false := by rcases h.noFiq with k | k <;> simp [k]
  have hirq : (s.irqInput && !s.cpsr.i) = false := by rcases h.noIrq with k | k <;> simp [k]
  have hbreak : s.debugBreak = none := by simp [State.debugBreak, hjtag, hfull, hsoc]
  simp [State.event, hdata, hbreak, hfiq, hirq]

theorem boundary_fetches : boundary s = fetchInstruction s.begin := by
  rw [boundary_quiescent h.quiescent]
  simp [eventsThenFetch, event_fetches h, h.memory, h.noBreakpoint]

/-- The step is the decoded instruction, run where the fetch has left the machine. -/
theorem step_fetches {i : Instr} (hi : s.instructionAtPc = .instr i) :
    ∃ side ev, step s = retire (s.begin.afterFetch side ev) s.codeAtPc (exec i (s.begin.afterFetch side ev)) := by
  obtain ⟨side, ev, hfetch⟩ := fetch_fetches (begin_fetches h)
  refine ⟨side, ev, ?_⟩
  have hrun : boundary s = .run (.instr i) s.codeAtPc (s.begin.afterFetch side ev) := by
    rw [boundary_fetches h]
    exact fetchInstruction_fetched hi hfetch
  rw [step, hrun]

end Fetches

/-! ## The end of the step -/

/-- With the performance monitor, the BTB, the trace and the memory buffer idle the end of an instruction changes the model's
own notes alone. -/
theorem afterInstruction_idle {s t : State} (hpmu : s.pmu.enable = false) (hbtb : s.cp15.ctrl.btb = false)
    (htrace : s.tracing = false) (hbuf : t.caches.buf.entries = []) (code : Word) :
    ∃ n, t.afterInstruction s code =
      { t with run := { t.run with flow := .sequential, events := [], pcLoad := false, free := n } } := by
  have hupdate : t.btbUpdate s code = t := by simp [State.btbUpdate, State.btbOn, hbtb]
  have htimer : runQuiet bufferTimer t = t := by simp [runQuiet, bufferTimer, M.bind_apply, hbuf]
  have hcount : ∀ (events : List (BitVec 8)) (u : State), runQuiet (pmuRetire s.pmu events) u = u := by
    intro events u
    simp [runQuiet, pmuRetire, M.bind_apply, hpmu]
  simp only [State.afterInstruction, hupdate, htrace, Bool.false_and, Bool.false_eq_true, if_false, htimer, hcount]
  split
  · exact ⟨_, rfl⟩
  · exact ⟨_, rfl⟩

/-- Where the BTB is off no entry of it is stale. -/
theorem retire_next_btbOff {s : State} (hbtb : s.cp15.ctrl.btb = false) (code : Word) (t : State) :
    retire s code (.next t) = .next (t.afterInstruction s code) := by
  simp [retire, State.staleBtb, State.btbOn, hbtb]

end Sys2Proof.Machine

open Sys2Proof Sys2Proof.Machine

/-- Settles O57: the step up to the instruction is `step_fetches`, its end `afterInstruction_idle`. -/
theorem stepRunsTheDecodedInstruction : Obligations.StepRunsTheDecodedInstruction := by
  intro s i h hi
  obtain ⟨side, ev, hstep⟩ := step_fetches h hi
  refine ⟨s.begin.afterFetch side ev, hstep, rfl, fun f e => ?_, fun r e => ?_, fun t e hpmu hbtb htrace hbuf => ?_⟩
  · rw [hstep, e, retire]
  · rw [hstep, e, retire]
  · obtain ⟨n, hend⟩ := afterInstruction_idle (s := s.begin.afterFetch side ev) hpmu hbtb htrace hbuf s.codeAtPc
    exact ⟨n, by rw [hstep, e, retire_next_btbOff (s := s.begin.afterFetch side ev) hbtb, hend]⟩
end

section
/-! # A reset pin that falls between the words of a User-mode LDM (70 R961, 92 D25): User mode is not confined -/

namespace Sys2Proof.Machine

/-- An outcome is a next state of which a test is true. -/
def nextSatisfies (p : State → Bool) : Outcome → Bool
  | .next t => p t
  | _ => false

theorem exists_next_of_nextSatisfies {p : State → Bool} {o : Outcome} (h : nextSatisfies p o = true) :
    ∃ t, o = .next t ∧ p t = true := by
  cases o with
  | next t => exact ⟨t, rfl, h⟩
  | fault f => cases h
  | refused r => cases h

/-- User mode after reset, with the reset pin about to rise and to fall in the next gap between two words. -/
def resetPulseInGap : State :=
  { State.reset with
    cpsr := { State.reset.cpsr with m := modeUsr }
    run := { State.reset.run with env := [.resetPin true, .resetPin false] } }

/-- LDMIA R0, {R1, R2} has one gap. There the pin falls, by which SELDCSR needs its reload (61 R929 step 6): the JTAG side of
the debugger changes inside the instruction. -/
theorem ldm_resetPulseInGap_stale :
    nextSatisfies (·.jtag.stale) (exec (.ldm .al false true false 0 0x0006) resetPulseInGap) = true := by decide +kernel

end Sys2Proof.Machine

open Sys2Proof Sys2Proof.Machine

/-- Refutes O60: the statement keeps the JTAG registers with no premise on the environment, and the release of the reset pin in
a gap between two words (`EnvAction.between`) sets `Jtag.stale`. -/
theorem not_userModeIsConfined : ¬ Obligations.UserModeIsConfined := by
  intro h
  obtain ⟨t, hexec, hstale⟩ := exists_next_of_nextSatisfies ldm_resetPulseInGap_stale
  obtain ⟨-, -, -, -, -, hjtag, -⟩ := h _ _ t rfl rfl rfl hexec
  have hbefore : resetPulseInGap.jtag.stale = false := rfl
  rw [hjtag, hbefore] at hstale
  cases hstale
end

section
/-! # Every step keeps memory canonical, the mode legal and the pc aligned (10 R24, R31; 20 R210) -/

namespace Sys2Proof.Machine

/-- A read of the SPSR answers it, or refuses. -/
theorem readSpsr_cases (s : State) : (∃ p, readSpsr s = .ok p s) ∨ ∃ r, readSpsr s = .error (.refuse r) s := by
  unfold readSpsr
  cases spsrOf s.cpsr.m with
  | none => exact .inr ⟨_, rfl⟩
  | some k =>
    dsimp only
    split
    · exact .inr ⟨_, rfl⟩
    · exact .inl ⟨_, rfl⟩

/-! ## Steady bodies: what an instruction does before it leaves the pc -/

/-- The pc, the mode and the T bit are as before, and memory stays canonical. -/
structure Steady (s t : State) : Prop where
  pc : t.pc = s.pc
  mode : t.cpsr.m = s.cpsr.m
  thumb : t.cpsr.t = s.cpsr.t
  memory : s.mem.wf = true → t.mem.wf = true

theorem steady_follows : Follows Steady where
  refl _ := ⟨rfl, rfl, rfl, id⟩
  trans h k := ⟨k.pc.trans h.pc, k.mode.trans h.mode, k.thumb.trans h.thumb, k.memory ∘ h.memory⟩

theorem Steady.inv {s t : State} (h : Steady s t) (hs : s.Inv) : t.Inv := by
  refine ⟨h.memory hs.memory, h.mode ▸ hs.mode, ?_⟩
  rw [State.pcAligned, h.thumb, h.pc]
  exact hs.pc

/-- A body that leaves the pc, the mode, the T bit and the canonical form of memory alone, however it ends. -/
abbrev M.Steady {α : Type} (m : M α) : Prop := M.Keeps Machine.Steady m

theorem SameCore.steady {s t : State} (h : SameCore s t) : Steady s t :=
  ⟨h.pc, by rw [h.cpsr], by rw [h.cpsr], h.mem⟩

theorem M.Quiet.steady {α : Type} {m : M α} (h : M.Quiet m) : M.Steady m := M.Keeps.mono h fun _ _ => SameCore.steady

namespace Steady

theorem same (s : State) : Machine.Steady s s := steady_follows.refl s

section Combinators
variable {α β : Type}

theorem bind {m : M α} {f : α → M β} (h : M.Steady m) (k : ∀ a, M.Steady (f a)) : M.Steady (m >>= f) :=
  .bind steady_follows h k
theorem pure (a : α) : M.Steady (Pure.pure a : M α) := .pure steady_follows a
theorem state : M.Steady M.state := .state steady_follows
theorem stop (e : Stop) : M.Steady (M.stop e : M α) := .stop steady_follows e
theorem refuse (r : Refusal) : M.Steady (M.refuse r : M α) := .refuse steady_follows r
theorem require (c : Bool) (r : Refusal) : M.Steady (M.require c r) := .require steady_follows c r
theorem defined (c : Bool) : M.Steady (M.defined c) := .defined steady_follows c
theorem allowed (c : Bool) : M.Steady (Machine.allowed c) := require c _
theorem reg (r : Reg) : M.Steady (Machine.reg r) := .reg steady_follows r
theorem asUser : M.Steady Machine.asUser := .asUser steady_follows
theorem draw (w : Nat) : M.Steady (M.draw w) := (Quiet.draw w).steady
theorem each {f : α → M β} (h : ∀ a, M.Steady (f a)) (l : List α) : M.Steady (M.each f l) := .each steady_follows h l
theorem tryAbort {m : M α} (h : M.Steady m) : M.Steady (M.tryAbort m) := M.Keeps.tryAbort h

theorem ite {c : Prop} [Decidable c] {m n : M α} (h : M.Steady m) (k : M.Steady n) :
    M.Steady (if c then m else n) := by
  split
  · exact h
  · exact k

/-- An action that is made on a condition, and what follows it either way. -/
theorem optional {c : Prop} [Decidable c] {m : M Unit} {f : Unit → M β} (h : M.Steady m) (k : ∀ u, M.Steady (f u)) :
    M.Steady (if c then m >>= f else f ()) := ite (bind h k) (k ())

/-- A body that only reads. -/
theorem reads {m : M α} (h : ∀ s, (∃ a, m s = .ok a s) ∨ ∃ e, m s = .error e s) : M.Steady m := by
  intro s
  obtain ⟨a, e⟩ | ⟨x, e⟩ := h s
  · rw [e]
    exact same s
  · rw [e]
    exact same s

theorem update {f : State → State} (h : ∀ s, Machine.Steady s (f s)) : M.Steady (M.update f) := h

end Combinators

/-! ### A write of one field -/

section Fields
theorem setRegs (f : State → Vector Word 32) : M.Steady (M.update fun s => s.setRegs (f s)) :=
  update fun _ => ⟨rfl, rfl, rfl, id⟩
theorem setSpsr (f : State → Vector Psr 6) : M.Steady (M.update fun s => s.setSpsr (f s)) :=
  update fun _ => ⟨rfl, rfl, rfl, id⟩
theorem setAcc0 (f : State → BitVec 40) : M.Steady (M.update fun s => s.setAcc0 (f s)) :=
  update fun _ => ⟨rfl, rfl, rfl, id⟩
theorem setCp15 (f : State → Cp15) : M.Steady (M.update fun s => s.setCp15 (f s)) :=
  update fun _ => ⟨rfl, rfl, rfl, id⟩
theorem setPmu (f : State → Pmu) : M.Steady (M.update fun s => s.setPmu (f s)) :=
  update fun _ => ⟨rfl, rfl, rfl, id⟩
theorem setClk (f : State → Clk) : M.Steady (M.update fun s => s.setClk (f s)) :=
  update fun _ => ⟨rfl, rfl, rfl, id⟩
theorem setDebug (f : State → Debug) : M.Steady (M.update fun s => s.setDebug (f s)) :=
  update fun _ => ⟨rfl, rfl, rfl, id⟩
theorem setTrace (f : State → Trace) : M.Steady (M.update fun s => s.setTrace (f s)) :=
  update fun _ => ⟨rfl, rfl, rfl, id⟩
theorem setJtag (f : State → Jtag) : M.Steady (M.update fun s => s.setJtag (f s)) :=
  update fun _ => ⟨rfl, rfl, rfl, id⟩
theorem setErrlog (f : State → ErrLog) : M.Steady (M.update fun s => s.setErrlog (f s)) :=
  update fun _ => ⟨rfl, rfl, rfl, id⟩
theorem setTlbs (f : State → Tlbs) : M.Steady (M.update fun s => s.setTlbs (f s)) :=
  update fun _ => ⟨rfl, rfl, rfl, id⟩
theorem setCaches (f : State → Caches) : M.Steady (M.update fun s => s.setCaches (f s)) :=
  update fun _ => ⟨rfl, rfl, rfl, id⟩
theorem setExt (f : State → External) : M.Steady (M.update fun s => s.setExt (f s)) :=
  update fun _ => ⟨rfl, rfl, rfl, id⟩
theorem setRun (f : State → Run) : M.Steady (M.update fun s => s.setRun (f s)) :=
  update fun _ => ⟨rfl, rfl, rfl, id⟩

/-- New flags: the mode and the T bit stay. -/
theorem setFlags {f : State → Psr} (mode : ∀ s, (f s).m = s.cpsr.m) (thumb : ∀ s, (f s).t = s.cpsr.t) :
    M.Steady (M.update fun s => s.setCpsr (f s)) := update fun s => ⟨rfl, mode s, thumb s, id⟩
end Fields

/-! ### Registers, free values and the trace buffer -/

theorem anyBits (v mask : Word) : M.Steady (Machine.anyBits v mask) := bind (draw _) fun _ => pure _
theorem zeroBits (v mask : Word) : M.Steady (Machine.zeroBits v mask) := require _ _
theorem setReg (r : Reg) (v : Word) : M.Steady (Machine.setReg r v) := setRegs _

theorem storedReg (r : Reg) : M.Steady (Machine.storedReg r) := by
  by_cases h : r = 15
  · exact reads fun s => .inl ⟨s.pc + 12, if_pos h⟩
  · have hreg : Machine.storedReg r = Machine.reg r := funext fun s => if_neg h
    exact hreg ▸ reg r

theorem readSpsr : M.Steady Machine.readSpsr := reads fun s => by
  obtain ⟨p, e⟩ | ⟨r, e⟩ := readSpsr_cases s
  · exact .inl ⟨p, e⟩
  · exact .inr ⟨_, e⟩

theorem traceWrite (s : State) (b : Byte) : Machine.Steady s (s.traceWrite b) := by
  unfold State.traceWrite
  dsimp only
  split
  · exact ⟨rfl, rfl, rfl, id⟩
  · exact ⟨rfl, rfl, rfl, id⟩

theorem setCount (s : State) (n : BitVec 4) : Machine.Steady s (s.setCount n) := ⟨rfl, rfl, rfl, id⟩

theorem traceWrite_setCount (s : State) (b : Byte) (n : BitVec 4) : Machine.Steady s ((s.traceWrite b).setCount n) :=
  steady_follows.trans (traceWrite s b) (setCount _ n)

theorem traceException (s : State) (vector : BitVec 3) (count : BitVec 4) :
    Machine.Steady s (s.traceException vector count) := by
  unfold State.traceException
  split
  · exact traceWrite_setCount s _ 0
  · exact same s

theorem traceDataAbort (s : State) : Machine.Steady s s.traceDataAbort := by
  unfold State.traceDataAbort
  dsimp only
  split
  · exact same s
  split
  · exact traceException s _ _
  split
  · exact traceException s _ _
  have hdraw : Machine.Steady s (s.draw 5).2 := ⟨rfl, rfl, rfl, id⟩
  refine steady_follows.trans hdraw (steady_follows.trans ?_ (traceException _ _ _))
  split
  · exact traceWrite _ _
  · exact same _

theorem traceHeader (s : State) (kind : BitVec 4) : Machine.Steady s (s.traceHeader kind) := by
  have after : ∀ {t : State} (b : Byte), Machine.Steady s t → Machine.Steady s (t.traceWrite b) :=
    fun b h => steady_follows.trans h (traceWrite _ b)
  unfold State.traceHeader
  dsimp only
  split
  · exact traceWrite s _
  split
  · exact after _ ⟨rfl, rfl, rfl, id⟩
  · obtain ⟨hpc, hmode, hthumb, hmem⟩ := after (t := (s.setTrace { s.trace with ckptDue := false }).setDebug
      { s.dbg with chkpt1 := s.dbg.chkpt0, chkpt0 := s.traceTarget }) ((kind ||| 0b0100) ++ s.trace.count)
      ⟨rfl, rfl, rfl, id⟩
    exact ⟨hpc, hmode, hthumb, hmem⟩

theorem traceCount (s : State) : Machine.Steady s s.traceCount := by
  unfold State.traceCount
  split
  · exact traceWrite_setCount s _ 0
  · exact setCount s _

theorem traceDirect (s : State) : Machine.Steady s s.traceDirect :=
  steady_follows.trans (traceHeader s _) (setCount _ 0)

theorem traceIndirect (s : State) : Machine.Steady s s.traceIndirect := by
  have step : ∀ {t : State} (b : Byte), Machine.Steady s t → Machine.Steady s (t.traceWrite b) :=
    fun b h => steady_follows.trans h (traceWrite _ b)
  exact steady_follows.trans (step _ (step _ (step _ (traceWrite s _))))
    (steady_follows.trans (traceHeader _ _) (setCount _ 0))

theorem traceRetire (s : State) : Machine.Steady s s.traceRetire := by
  unfold State.traceRetire
  split
  · exact traceCount s
  · exact traceDirect s
  · exact traceCount s
  · exact traceIndirect s
  · exact traceCount s
  · exact same s

theorem scrambleTrace : M.Steady (M.update State.scrambleTrace) := by
  refine update fun s => ?_
  constructor <;> simp [State.scrambleTrace, State.draw]

/-! ### What the outside does -/

theorem reachMemory (pline : BitVec 31) (v : BitVec 256) : M.Steady (Machine.reachMemory pline v) :=
  bind (Quiet.settleFor _).steady fun _ => (Quiet.setMem fun _ h => Memory.wf_writeBytes h _ _ _ _).steady

theorem snoopClean (x : L2Line) : M.Steady (Machine.snoopClean x) :=
  bind (Quiet.settle _ _).steady fun _ => reachMemory _ _

theorem snoopSound (pline : BitVec 31) (reads : L2Line → Bool) : M.Steady (Machine.snoopSound pline reads) :=
  bind state fun _ => require _ _

theorem snoopD (pline : BitVec 31) : M.Steady (M.update (·.snoopD pline)) := by
  refine update fun s => ?_
  unfold State.snoopD
  split
  · exact same s
  · exact ⟨rfl, rfl, rfl, id⟩

theorem snoopWrite (pline : BitVec 31) : M.Steady (Machine.snoopWrite pline) := by
  refine bind state fun s => ite (bind (snoopSound _ _) fun _ => bind (snoopD _) fun _ => ?_) (pure _)
  split
  · exact optional (snoopClean _) fun _ => setCaches _
  · exact pure _

theorem snoopRead (pline : BitVec 31) : M.Steady (Machine.snoopRead pline) := by
  refine bind state fun s => ite (bind (snoopSound _ _) fun _ => bind (snoopD _) fun _ => ?_) (pure _)
  split
  · exact bind (draw _) fun _ => ite (bind (snoopClean _) fun _ => setCaches _) (setCaches _)
  · exact pure _

theorem pushLine (pline : BitVec 31) (data : BitVec 256) (toThisCore : Bool) :
    M.Steady (Machine.pushLine pline data toThisCore) := by
  refine bind state fun s => ?_
  have after : ∀ u : Unit, M.Steady (if s.snooped && toThisCore then
      match s.l2Find pline with
      | some (way, x) =>
        M.update fun t => (t.l2Put (s.l2Set pline) way
          { x with state := .modified, locked := false, data := data, known := fullMask, errors := [] }).l2Touch
            (s.l2Set pline) way
      | none => l2Allocate ⟨pline, .modified, false, data, fullMask, [], []⟩
    else do
      match if s.snooped then s.l2Find pline else none with
      | some (way, _) => M.update (·.l2Drop (s.l2Set pline) way)
      | none => Pure.pure ()
      Machine.reachMemory pline data) := by
    intro _
    refine ite ?_ ?_
    · split
      · exact update fun _ => ⟨rfl, rfl, rfl, id⟩
      · exact (Quiet.l2Allocate _).steady
    · split
      · exact bind (setCaches _) fun _ => reachMemory _ _
      · exact reachMemory _ _
  exact ite (bind (snoopSound _ _) fun _ => bind (snoopD _) after) (after ())

theorem fetchAhead (va : Word) : M.Steady (Machine.fetchAhead va) := by
  refine bind state fun s => ite (pure _) (bind (Quiet.fetchPage _).steady fun r => ?_)
  split
  · exact pure _
  · exact bind (Quiet.iRead _ _ _ _ _).steady fun _ => pure _


/-! ### What the debugger does at the TAP -/

theorem cutDownload : M.Steady Machine.cutDownload :=
  bind state fun _ => ite (bind (draw _) fun _ => setJtag _) (pure _)

theorem jtagReset : M.Steady Machine.jtagReset := by
  refine bind (draw _) fun _ => bind (setDebug _) fun _ => bind state fun s => ?_
  have after : ∀ u : Unit, M.Steady (do
      if s.jtag.ir = .opcode opLdsram && s.jtag.requested then Machine.cutDownload else Pure.pure ()
      M.update (·.mapJtag ({ · with ir := .idcode, captured := false, stale := false }))) :=
    fun _ => optional cutDownload fun _ => setJtag _
  generalize s.jtag.loading = l
  cases l with
  | none => exact after ()
  | some c => exact bind (draw _) fun _ => bind (setJtag _) after

theorem loadIr (ir : JtagIr) : M.Steady (Machine.loadIr ir) :=
  bind state fun _ => optional cutDownload fun _ => setJtag _

theorem captureDr : M.Steady Machine.captureDr := by
  refine bind state fun s => bind (draw _) fun _ => ?_
  split
  · exact setJtag _
  · exact ite (bind (anyBits _ _) fun _ => setJtag _) (ite (setJtag _) (ite (setJtag _) (ite (setJtag _) (setJtag _))))

theorem shiftDr (tdi : Bool) : M.Steady (Machine.shiftDr tdi) := by
  refine bind state fun s => optional (setDebug _) fun _ => ?_
  dsimp only
  split
  · exact bind (setJtag _) fun _ => setJtag _
  · exact ite (bind (setJtag _) fun _ => setJtag _) (ite (bind (setJtag _) fun _ => setJtag _)
      (bind (draw _) fun _ => bind (setJtag _) fun _ => setJtag _))

theorem updateDcsr (sr : BitVec 36) : M.Steady (Machine.updateDcsr sr) :=
  bind state fun _ => bind (require _ _) fun _ => bind (require _ _) fun _ => setDebug _

theorem updateRx (sr : BitVec 36) : M.Steady (Machine.updateRx sr) := bind (require _ _) fun _ => setDebug _

theorem loadPacket (line : BitVec 6) (k : BitVec 3) (packet : BitVec 33) :
    M.Steady (Machine.loadPacket line k packet) :=
  bind state fun _ => ite (bind (draw _) fun _ => bind (setJtag _) fun _ => setJtag _)
    (ite (bind (draw _) fun _ => bind (setJtag _) fun _ => setJtag _) (bind (setJtag _) fun _ => setJtag _))

theorem loadFunction (packet : BitVec 33) : M.Steady (Machine.loadFunction packet) := by
  unfold Machine.loadFunction
  split
  · exact pure _
  · exact pure _
  · exact setJtag _
  · exact setJtag _
  · exact setJtag _
  · exact refuse _

theorem updateDr : M.Steady Machine.updateDr := by
  refine bind (setJtag _) fun _ => bind state fun s => ?_
  split
  · exact pure _
  · refine ite (updateDcsr _) (ite (updateRx _) (ite (bind (setJtag _) fun _ => ?_) (pure _)))
    split
    · exact loadPacket _ _ _
    · exact loadFunction _

theorem jtagAction (a : JtagAction) : M.Steady (Machine.jtagAction a) := by
  cases a with
  | reset => exact jtagReset
  | loadIr op => exact loadIr _
  | loadIdcode => exact loadIr _
  | captureDr => exact captureDr
  | shiftDr tdi => exact shiftDr tdi
  | updateDr => exact updateDr

/-! ### The actions of a boundary and of a gap -/

theorem settleOldest : M.Steady Machine.settleOldest := by
  refine bind state fun s => ?_
  split
  · exact pure _
  · exact bind (setCaches _) fun _ => (Quiet.busPut _ _ _ _ _).steady

theorem enterReset (s : State) : Machine.Steady s s.enterReset := ⟨rfl, rfl, rfl, id⟩

theorem pendAbort (s : State) (status : BitVec 5) : Machine.Steady s (s.pendAbort status) := ⟨rfl, rfl, rfl, id⟩

/-- A state that a choice leaves either changed or as it was. -/
theorem choice {s t u : State} {c : Prop} [Decidable c] (h : Machine.Steady s t) (k : Machine.Steady s u) :
    Machine.Steady s (if c then t else u) := by
  split
  · exact h
  · exact k

theorem envAction (a : EnvAction) : M.Steady (Machine.envAction a) := by
  cases a with
  | tick => exact pure _
  | irq | fiq | socBreak | busError => exact setExt _
  | icacheParity | dcacheParity | l2Error => exact setCaches _
  | resetPin level =>
    refine update fun s => ?_
    cases level <;> constructor <;> simp [State.enterReset]
  | busWrite pa bytes coherent =>
    have write : ∀ u : Unit, M.Steady (do
        let _ ← M.each settleFor (touchedLines pa bytes.length)
        M.update fun s => s.setMem (s.mem.writeList pa bytes)) := fun _ =>
      bind (each (fun _ => (Quiet.settleFor _).steady) _) fun _ =>
        (Quiet.setMem fun _ h => Memory.wf_writeList h _ _).steady
    exact ite (bind (each snoopWrite _) fun _ => write ()) (write ())
  | busRead pline => exact snoopRead pline
  | push pline data toThisCore => exact pushLine _ _ _
  | asyncBusError | externalAbort => exact update fun s => choice (pendAbort s _) (same s)
  | drain => exact Quiet.drainOldest.steady
  | l2Settle => exact settleOldest
  | fetchAhead va => exact fetchAhead va
  | wake => exact update fun s => choice ⟨rfl, rfl, rfl, id⟩ (same s)
  | jtag a => exact jtagAction a

theorem envActions (l : List EnvAction) : M.Steady (Machine.envActions l) := by
  induction l with
  | nil => exact pure _
  | cons a t ih => exact bind (envAction a) fun _ => ih

theorem betweenWords : M.Steady Machine.betweenWords :=
  bind state fun _ => ite (pure _) (bind (setRun _) fun _ => bind (envActions _) fun _ => bind state fun _ =>
    ite (stop _) (pure _))

theorem gapBefore {α : Type} (rest : List α) : M.Steady (Machine.gapBefore rest) := ite (pure _) betweenWords

/-! ### Operands and transfers -/

theorem writeBack (wb : Bool) (rn : Reg) (v : Word) : M.Steady (Machine.writeBack wb rn v) := ite (setReg _ _) (pure _)

theorem shifterOperand (so : ShifterOperand) : M.Steady (Machine.shifterOperand so) := by
  cases so with
  | imm rot imm8 => exact bind state fun _ => pure _
  | shiftImm amount sh rm => exact bind state fun _ => bind (reg _) fun _ => pure _
  | shiftReg rs sh rm => exact bind state fun _ => bind (reg _) fun _ => bind (reg _) fun _ => pure _

theorem offsetTwo (off : Offset2) : M.Steady (Machine.offsetTwo off) := by
  cases off with
  | imm off12 => exact pure _
  | reg amount sh rm => exact bind state fun _ => bind (reg _) fun _ => pure _

theorem offsetThree (off : Offset3) : M.Steady (Machine.offsetThree off) := by
  cases off with
  | imm immH immL => exact pure _
  | reg sbz rm => exact reg _

theorem singleAddress (p u : Bool) (rn : Reg) {off : M Word} (h : M.Steady off) :
    M.Steady (Machine.singleAddress p u rn off) := bind (reg _) fun _ => bind h fun _ => pure _

theorem markPcLoad (rd : Reg) : M.Steady (Machine.markPcLoad rd) := ite (setRun _) (pure _)

theorem loadWord (a : Word) (user : Bool) : M.Steady (Machine.loadWord a user) := (Quiet.loadWord a user).steady
theorem loadByte (a : Word) (user : Bool) : M.Steady (Machine.loadByte a user) :=
  bind (Quiet.memRead _ _ _).steady fun _ => pure _
theorem loadSignedByte (a : Word) (user : Bool) : M.Steady (Machine.loadSignedByte a user) :=
  bind (Quiet.memRead _ _ _).steady fun _ => pure _
theorem loadHalf (a : Word) (user : Bool) : M.Steady (Machine.loadHalf a user) :=
  bind (Quiet.memRead _ _ _).steady fun _ => pure _
theorem loadSignedHalf (a : Word) (user : Bool) : M.Steady (Machine.loadSignedHalf a user) :=
  bind (Quiet.memRead _ _ _).steady fun _ => pure _

theorem alignmentAbort {α : Type} (mva : Word) : M.Steady (Machine.alignmentAbort mva : M α) :=
  bind (draw _) fun _ => stop _

theorem loadWords (user : Bool) (l : List Word) : M.Steady (Machine.loadWords user l) := by
  induction l with
  | nil => exact pure _
  | cons a t ih =>
    refine bind (tryAbort (Quiet.memRead _ _ _).steady) fun r => ?_
    cases r with
    | error e => exact pure _
    | ok v => exact bind (gapBefore _) fun _ => bind ih fun _ => pure _

theorem storeWords (user : Bool) (l : List (Word × Word)) : M.Steady (Machine.storeWords user l) := by
  induction l with
  | nil => exact pure _
  | cons c t ih => exact bind (Quiet.memWrite _ _ _ _).steady fun _ => bind (gapBefore _) fun _ => ih

section Multiple
variable {write : Reg → Word → M Unit} (h : ∀ r v, M.Steady (write r v))
include h

theorem writeRegisters (l : List (Reg × Word)) : M.Steady (Machine.writeRegisters write l) := by
  induction l with
  | nil => exact pure _
  | cons c t ih => exact bind (h _ _) fun _ => ih

theorem partialRegisters (keep : Reg → Bool) (l : List (Reg × Word)) :
    M.Steady (Machine.partialRegisters write keep l) := by
  induction l with
  | nil => exact pure _
  | cons c t ih => exact bind (draw _) fun _ => optional (h _ _) fun _ => ih

theorem loadMultiple (keep : Reg → Bool) (p u : Bool) (rn : Reg) (l : List Reg) :
    M.Steady (Machine.loadMultiple write keep p u rn l) := by
  refine bind (reg _) fun _ => bind (Quiet.noWrap _ _).steady fun _ => bind asUser fun _ =>
    bind (loadWords _ _) fun r => ?_
  obtain ⟨vs, e⟩ := r
  cases e with
  | none => exact pure _
  | some e => exact bind (partialRegisters h _ _) fun _ => stop _

end Multiple

theorem writeUser (r : Reg) (v : Word) : M.Steady (M.update (·.writeBank modeUsr r v)) := setRegs _

theorem storedUser (r : Reg) : M.Steady (Machine.storedUser r) := by
  refine reads fun s => ?_
  unfold Machine.storedUser
  split
  · exact .inl ⟨_, rfl⟩
  split
  · exact .inr ⟨_, rfl⟩
  · exact .inl ⟨_, rfl⟩

theorem storeMultiple (p u : Bool) (rn : Reg) (l : List Reg) (values : List Word) :
    M.Steady (Machine.storeMultiple p u rn l values) :=
  bind (reg _) fun _ => bind (Quiet.noWrap _ _).steady fun _ => bind asUser fun _ => storeWords _ _

theorem markUserTransfer : M.Steady Machine.markUserTransfer := setRun _

/-! ### Coprocessors -/

theorem privilegedOnly : M.Steady Machine.privilegedOnly := bind state fun _ => defined _
theorem accumulatorAccess : M.Steady Machine.accumulatorAccess := bind state fun _ => defined _

theorem coprocAddress (p u : Bool) (rn : Reg) (off8 : BitVec 8) : M.Steady (Machine.coprocAddress p u rn off8) :=
  bind (reg _) fun _ => pure _

theorem implicitLoad (p u : Bool) (rn : Reg) (off8 : BitVec 8) : M.Steady (Machine.implicitLoad p u rn off8) :=
  bind (coprocAddress _ _ _ _) fun _ => bind asUser fun _ => bind (Quiet.memRead _ _ _).steady fun _ =>
    bind state fun _ => ite (pure _) (stop _)

theorem asspReply : M.Steady Machine.asspReply :=
  bind (draw _) fun _ => bind state fun _ => ite (stop _) (pure _)

theorem coprocAbort {α : Type} : M.Steady (Machine.coprocAbort : M α) := stop _
theorem asspAnswer : M.Steady Machine.asspAnswer := bind asspReply fun _ => ite coprocAbort (pure _)
theorem asspAccess (cp : BitVec 4) : M.Steady (Machine.asspAccess cp) :=
  bind state fun _ => bind (defined _) fun _ => asspAnswer

theorem cp0Access : M.Steady Machine.cp0Access :=
  bind accumulatorAccess fun _ => bind state fun _ => bind (require _ _) fun _ => asspAnswer

theorem asspWord (rd : Reg) : M.Steady (Machine.asspWord rd) :=
  bind (draw _) fun _ => ite (update fun _ => ⟨rfl, rfl, rfl, id⟩) (setReg _ _)

theorem asspPair (rn rd : Reg) : M.Steady (Machine.asspPair rn rd) :=
  bind (allowed _) fun _ => bind (asspWord _) fun _ => asspWord _

theorem secondAccess (cp : BitVec 4) : M.Steady (Machine.secondAccess cp) := bind (defined _) fun _ => asspAccess _

/-! ### The CP15 registers -/

section Cp15Registers

/-- A write of a CP15 register: a test of its reserved bits, then the register. -/
theorem maskedCp15 (v mask : Word) (f : Cp15 → Cp15) :
    M.Steady (do Machine.zeroBits v mask; M.update (·.mapCp15 f)) := bind (zeroBits _ _) fun _ => setCp15 _

theorem plainRead (f : State → Word) : M.Steady (Machine.plainRead f) := bind state fun _ => pure _

theorem writeControl (v : Word) : M.Steady (Machine.writeControl v) :=
  bind (zeroBits _ _) fun _ => bind state fun _ => bind (require _ _) fun _ => bind (require _ _) fun _ =>
    bind (require _ _) fun _ => setCp15 _
theorem writeAuxControl (v : Word) : M.Steady (Machine.writeAuxControl v) :=
  bind (zeroBits _ _) fun _ => bind state fun _ => bind (require _ _) fun _ => setCp15 _
theorem writeTtBase (v : Word) : M.Steady (Machine.writeTtBase v) := maskedCp15 _ _ _
theorem writeFsr (v : Word) : M.Steady (Machine.writeFsr v) := maskedCp15 _ _ _
theorem writeDcLock (v : Word) : M.Steady (Machine.writeDcLock v) := maskedCp15 _ _ _
theorem writeDbcon (v : Word) : M.Steady (Machine.writeDbcon v) := maskedCp15 _ _ _
theorem writeCpar (v : Word) : M.Steady (Machine.writeCpar v) := maskedCp15 _ _ _
theorem writePid (v : Word) : M.Steady (Machine.writePid v) :=
  bind (zeroBits _ _) fun _ => update fun _ => ⟨rfl, rfl, rfl, id⟩

theorem breakpointWrite {m : M Unit} (h : M.Steady m) : M.Steady (Machine.breakpointWrite m) :=
  bind state fun _ => ite (pure _) h
theorem breakpointEnable (v : Word) : M.Steady (Machine.breakpointEnable v) := bind state fun _ => require _ _
theorem writeIbr (f : Word → Cp15 → Cp15) (v : Word) :
    M.Steady (Machine.breakpointWrite (do Machine.breakpointEnable v; M.update (·.mapCp15 (f v)))) :=
  breakpointWrite (bind (breakpointEnable _) fun _ => setCp15 _)
theorem writeDbr0 (v : Word) : M.Steady (Machine.writeDbr0 v) := bind state fun _ => bind (require _ _) fun _ => setCp15 _
theorem writeDbr1 (v : Word) : M.Steady (Machine.writeDbr1 v) := bind state fun _ => bind (require _ _) fun _ => setCp15 _

theorem readAuxControl : M.Steady Machine.readAuxControl := bind state fun _ => anyBits _ _
theorem readControl : M.Steady Machine.readControl := bind state fun _ => ite (pure _) (anyBits _ _)
theorem readTtBase : M.Steady Machine.readTtBase := bind state fun _ => anyBits _ _
theorem readFsr : M.Steady Machine.readFsr := bind state fun _ => anyBits _ _
theorem readDcLock : M.Steady Machine.readDcLock := bind state fun _ => anyBits _ _
theorem readDbcon : M.Steady Machine.readDbcon := bind state fun _ => anyBits _ _
theorem readCpar : M.Steady Machine.readCpar := bind state fun _ => anyBits _ _

theorem readL2CacheType : M.Steady Machine.readL2CacheType := by
  refine bind state fun s => ?_
  split
  · exact pure _
  · exact pure _
  · exact bind (draw _) fun _ => pure _

end Cp15Registers

/-! ### The CP14 and CP7 registers -/

section DebugRegisters

theorem scramblePmu : M.Steady Machine.scramblePmu := bind (draw _) fun _ => setPmu _
theorem readPmnc : M.Steady Machine.readPmnc := bind state fun _ => anyBits _ _
theorem writePmnc (v : Word) : M.Steady (Machine.writePmnc v) :=
  bind (zeroBits _ _) fun _ => bind state fun _ => bind (setPmu _) fun _ => ite scramblePmu (pure _)
theorem readFive (f : State → BitVec 5) : M.Steady (Machine.readFive f) := bind state fun _ => anyBits _ _
theorem writeInten (v : Word) : M.Steady (Machine.writeInten v) := bind (zeroBits _ _) fun _ => setPmu _
theorem writeFlag (v : Word) : M.Steady (Machine.writeFlag v) := setPmu _
theorem writeEvtsel (v : Word) : M.Steady (Machine.writeEvtsel v) :=
  bind state fun _ => optional scramblePmu fun _ => setPmu _
theorem writePmn (i : Fin 4) (v : Word) : M.Steady (Machine.writePmn i v) := setPmu _
theorem writeCcnt (v : Word) : M.Steady (M.update (·.mapPmu ({ · with ccnt := v }))) := setPmu _

theorem readFour (f : State → BitVec 4) : M.Steady (Machine.readFour f) := bind state fun _ => anyBits _ _
theorem readCclkcfg : M.Steady Machine.readCclkcfg :=
  bind state fun _ => bind (readFour _) fun _ => ite (anyBits _ _) (pure _)
theorem writeCclkcfg (v : Word) : M.Steady (Machine.writeCclkcfg v) := bind (zeroBits _ _) fun _ => setClk _
theorem writePwrmode (v : Word) : M.Steady (Machine.writePwrmode v) := bind (zeroBits _ _) fun _ => setClk _

theorem writeTx (v : Word) : M.Steady (Machine.writeTx v) := setDebug _
theorem readRx : M.Steady Machine.readRx := bind state fun _ => bind (setDebug _) fun _ => pure _
theorem readDcsr : M.Steady Machine.readDcsr := bind state fun _ => anyBits _ _
theorem writeDcsr (v : Word) : M.Steady (Machine.writeDcsr v) :=
  breakpointWrite (bind (zeroBits _ _) fun _ => bind state fun _ => optional scrambleTrace fun _ =>
    bind (setDebug _) fun _ => optional (setTrace _) fun _ => ite (setTrace _) (pure _))
theorem readTbreg : M.Steady Machine.readTbreg := by
  refine bind state fun s => bind (draw _) fun _ => ite ?_ ?_
  · exact bind scrambleTrace fun _ => bind (draw _) fun _ => pure _
  · exact fun s => ⟨rfl, rfl, rfl, id⟩
theorem readChkpt (f : Debug → Word) : M.Steady (Machine.readChkpt f) :=
  bind state fun _ => ite (bind scrambleTrace fun _ => draw _) (pure _)
theorem writeChkpt (put : Debug → Word → Debug) (v : Word) : M.Steady (Machine.writeChkpt put v) :=
  bind state fun _ => ite (bind scrambleTrace fun _ => bind (draw _) fun _ => setDebug _) (setDebug _)
theorem readTxrxctrl : M.Steady Machine.readTxrxctrl := bind state fun _ => anyBits _ _
theorem writeTxrxctrl (v : Word) : M.Steady (Machine.writeTxrxctrl v) := bind (zeroBits _ _) fun _ => setDebug _

theorem debugRegisterWrite {crd : BitVec 4} {write : Word → M Unit} (h : Machine.debugRegisterWrite crd = some write)
    (v : Word) : M.Steady (write v) := by
  unfold Machine.debugRegisterWrite at h
  split at h <;> cases h
  · exact writeCclkcfg v
  · exact writePwrmode v
  · exact writeTx v
  · exact writeDcsr v
  · exact writeChkpt _ v
  · exact writeChkpt _ v
  · exact writeTxrxctrl v

theorem debugRegisterRead {crd : BitVec 4} {read : M Word} (h : Machine.debugRegisterRead crd = some read) :
    M.Steady read := by
  unfold Machine.debugRegisterRead at h
  split at h <;> cases h
  · exact readCclkcfg
  · exact readFour _
  · exact refuse _
  · exact readRx
  · exact readDcsr
  · exact readTbreg
  · exact readChkpt _
  · exact readChkpt _
  · exact readTxrxctrl

theorem readErrlog : M.Steady Machine.readErrlog := bind state fun _ => anyBits _ _
theorem writeErrlog (v : Word) : M.Steady (Machine.writeErrlog v) := bind (zeroBits _ _) fun _ => setErrlog _
theorem writeErradrl (v : Word) : M.Steady (M.update fun s => s.setErrlog { s.errlog with adrL := v }) := setErrlog _
theorem writeErradru (v : Word) : M.Steady (Machine.writeErradru v) := bind (zeroBits _ _) fun _ => setErrlog _

end DebugRegisters

/-! ### Cache, TLB and lock functions -/

section Functions

theorem invalidateILine (v : Word) : M.Steady (M.update (·.invalidateILine v)) := by
  refine update fun s => ?_
  unfold State.invalidateILine
  split
  · exact ⟨rfl, rfl, rfl, id⟩
  · exact ⟨rfl, rfl, rfl, id⟩

theorem invalidateI : M.Steady (M.update State.invalidateI) := update fun _ => ⟨rfl, rfl, rfl, id⟩
theorem invalidateD : M.Steady (M.update State.invalidateD) := update fun _ => ⟨rfl, rfl, rfl, id⟩
theorem invalidateBoth : M.Steady (M.update fun s => s.invalidateI.invalidateD) := update fun _ => ⟨rfl, rfl, rfl, id⟩

theorem dFunction : M.Steady Machine.dFunction := bind state fun _ => require _ _

theorem dClean (set way : Nat) (x : DLine) : M.Steady (Machine.dClean set way x) :=
  ite (bind (Quiet.dWriteBack _ _).steady fun _ => setCaches _) (pure _)

theorem dCleanDrop (set way : Nat) (x : DLine) : M.Steady (Machine.dCleanDrop set way x) :=
  bind (dClean _ _ _) fun _ => setCaches _

theorem dByMva (mva : Word) {f : Nat → Nat → DLine → M Unit} (h : ∀ set way x, M.Steady (f set way x)) :
    M.Steady (Machine.dByMva mva f) := by
  refine bind dFunction fun _ => bind state fun s => ?_
  split
  · exact h _ _ _
  · exact pure _

theorem dBySetWay (v : Word) {f : Nat → Nat → DLine → M Unit} (h : ∀ set way x, M.Steady (f set way x)) :
    M.Steady (Machine.dBySetWay v f) := by
  refine bind dFunction fun _ => bind state fun s => ?_
  dsimp only
  split
  · exact ite (pure _) (h _ _ _)
  · exact pure _

theorem l2Function {m : M Unit} (h : M.Steady m) : M.Steady (Machine.l2Function m) :=
  bind state fun _ => ite (bind (require _ _) fun _ => h) (pure _)

theorem functionEntry (mva : Word) : M.Steady (Machine.functionEntry mva) := by
  refine bind state fun s => ite (bind (Quiet.findEntry _ _).steady fun r => ?_) (pure _)
  cases r with
  | error f => exact stop _
  | ok e => exact bind (Quiet.sharable _).steady fun _ => pure _

theorem l2ByMva (mva : Word) {f : Nat → Nat → L2Line → M Unit} (h : ∀ set way x, M.Steady (f set way x)) :
    M.Steady (Machine.l2ByMva mva f) := by
  refine bind (functionEntry _) fun e => bind (Quiet.drainFor _).steady fun _ => bind state fun s => ?_
  split
  · exact h _ _ _
  · exact bind (Quiet.l2Seen _ _).steady fun _ => pure _

theorem l2BySetWay (v : Word) {f : Nat → Nat → L2Line → M Unit} (h : ∀ set way x, M.Steady (f set way x)) :
    M.Steady (Machine.l2BySetWay v f) := by
  refine bind state fun s => ?_
  dsimp only
  generalize lookupKey _ s.caches.l2.lines = o
  cases o with
  | none => exact pure _
  | some x => exact ite (pure _) (h _ _ _)

theorem l2Clean (set way : Nat) (x : L2Line) : M.Steady (Machine.l2Clean set way x) :=
  ite (bind (Quiet.l2WriteBack _ _ _).steady fun _ => setCaches _) (bind (Quiet.l2Seen _ _).steady fun _ => pure _)

theorem l2Invalidate (set way : Nat) (x : L2Line) : M.Steady (Machine.l2Invalidate set way x) :=
  bind (Quiet.l2Seen _ _).steady fun _ => setCaches _

theorem l2CleanOut (set way : Nat) (x : L2Line) : M.Steady (Machine.l2CleanOut set way x) := by
  refine ite (bind (Quiet.l2ReadOut _ _ _).steady fun r => ?_) (pure _)
  cases r with
  | none => exact setCaches _
  | some v => exact bind (setCaches _) fun _ => setCaches _

theorem l2CleanDrop (set way : Nat) (x : L2Line) : M.Steady (Machine.l2CleanDrop set way x) :=
  bind (l2CleanOut _ _ _) fun _ => setCaches _

theorem l2Lock (mva : Word) {bring : BitVec 31 → Bool → M (Option L2Line)} (h : ∀ p b, M.Steady (bring p b)) :
    M.Steady (Machine.l2Lock mva bring) := by
  refine bind (functionEntry _) fun e => ?_
  cases e with
  | none => exact refuse _
  | some e =>
    refine bind (Quiet.attributes _).steady fun a => bind (require _ _) fun _ => bind (Quiet.drainFor _).steady fun _ =>
      bind state fun s => ?_
    dsimp only
    split
    · exact bind (require _ _) fun _ => bind (Quiet.l2Seen _ _).steady fun _ => update fun _ => ⟨rfl, rfl, rfl, id⟩
    · refine bind (require _ _) fun _ => bind (Quiet.l2Seen _ _).steady fun _ => ite (pure _) (bind (h _ _) fun r => ?_)
      cases r with
      | none => exact pure _
      | some x => exact (Quiet.l2Allocate _).steady

theorem fetchToLock (pline : BitVec 31) (shared : Bool) : M.Steady (Machine.fetchToLock pline shared) :=
  bind (Quiet.busRead _ _).steady fun (_, _) => ite (bind (setExt _) fun _ => pure _)
    (bind (Quiet.fillState _).steady fun _ => pure _)

theorem allocateToLock (pline : BitVec 31) (shared : Bool) : M.Steady (Machine.allocateToLock pline shared) :=
  bind (draw _) fun _ => pure _

theorem allocateLine (va : Word) : M.Steady (Machine.allocateLine va) :=
  bind state fun _ => bind (Quiet.locateMva _ _ _).steady fun _ => bind (Quiet.noteBreak _ _ _).steady fun _ =>
    bind state fun _ => ite (Quiet.dAllocate _ _ _ _ _).steady (pure _)

theorem tlbLockable : M.Steady Machine.tlbLockable := bind state fun _ => require _ _

theorem walkToLock (t : Tlb) (mva : Word) : M.Steady (Machine.walkToLock t mva) := by
  refine bind tlbLockable fun _ => bind (require _ _) fun _ => bind (Quiet.tableWalk _).steady fun r => ?_
  cases r with
  | error f => exact stop _
  | ok e => exact bind (Quiet.sharable _).steady fun _ => pure _

theorem lockPage (mva : Word) : M.Steady (Machine.lockPage mva) := by
  refine bind state fun s => ite (bind (Quiet.findEntry _ _).steady fun r => ?_) (pure _)
  cases r with
  | error f => exact stop _
  | ok e => exact bind (Quiet.attributes _).steady fun _ => pure _

theorem lockILine (mva : Word) : M.Steady (Machine.lockILine mva) :=
  bind state fun _ => bind (require _ _) fun _ => bind (require _ _) fun _ => bind (lockPage _) fun (_, _, _, _) =>
    bind (require _ _) fun _ => bind (Quiet.uncounted (Quiet.readNext _ _ _ _ _)).steady fun (_, _, _) =>
      ite (stop _) (bind (Quiet.settle _ _).steady fun _ => setCaches _)

theorem unlockILines : M.Steady Machine.unlockILines := bind state fun _ => bind (require _ _) fun _ => setCaches _
theorem unlockDLines : M.Steady Machine.unlockDLines := bind state fun _ => bind (require _ _) fun _ => setCaches _

end Functions

end Steady

/-! ## Places of the pc -/

/-- The pc may stand at an address: an even one in Thumb state, a multiple of four in ARM state (10 R24). -/
def AlignedFor (thumb : Bool) (v : Word) : Prop := if thumb then v.toNat % 2 = 0 else v.toNat % 4 = 0

theorem alignedFor_of_mod_four {v : Word} (h : v.toNat % 4 = 0) (thumb : Bool) : AlignedFor thumb v := by
  unfold AlignedFor
  split
  · omega
  · exact h

theorem alignedFor_thumb {v : Word} (h : v.toNat % 2 = 0) : AlignedFor true v := h

theorem AlignedFor.even {thumb : Bool} {v : Word} (h : AlignedFor thumb v) : v.toNat % 2 = 0 := by
  cases thumb with
  | true => exact h
  | false =>
    have hword : v.toNat % 4 = 0 := h
    omega

/-- Addresses aligned for an instruction set are aligned for it after a multiple of four is added. -/
theorem AlignedFor.add {thumb : Bool} {v k : Word} (h : AlignedFor thumb v) (hk : k.toNat % 4 = 0) :
    AlignedFor thumb (v + k) := by
  cases thumb with
  | true =>
    have heven : v.toNat % 2 = 0 := h
    show (v + k).toNat % 2 = 0
    rw [BitVec.toNat_add]
    omega
  | false =>
    have hword : v.toNat % 4 = 0 := h
    show (v + k).toNat % 4 = 0
    rw [BitVec.toNat_add]
    omega

theorem toNat_mod_four (v : Word) : v.toNat % 4 = (v.extractLsb' 0 2).toNat := by simp [BitVec.extractLsb'_toNat]

theorem mod_four_of_low_zero {v : Word} (h : (v.extractLsb' 0 2 == 0) = true) : v.toNat % 4 = 0 := by
  rw [toNat_mod_four, eq_of_beq h]
  rfl

theorem even_of_low_clear {v : Word} (h : (!v.getLsbD 0) = true) : v.toNat % 2 = 0 := by
  have hbit : v.toNat.testBit 0 = false := by simpa [BitVec.getLsbD] using h
  simpa using hbit

theorem clearLow_mod_four (v : Word) : (v &&& 0xFFFFFFFC).toNat % 4 = 0 := by
  have hmask : (0xFFFFFFFC : Word).extractLsb' 0 2 = 0 := rfl
  rw [toNat_mod_four, BitVec.extractLsb'_and, hmask]
  simp

theorem clearBit_even (v : Word) : (v &&& 0xFFFFFFFE).toNat % 2 = 0 := by
  have hmask : (0xFFFFFFFE : Word).extractLsb' 0 1 = 0 := rfl
  have hmod : (v &&& 0xFFFFFFFE).toNat % 2 = ((v &&& 0xFFFFFFFE).extractLsb' 0 1).toNat := by
    simp [BitVec.extractLsb'_toNat]
  rw [hmod, BitVec.extractLsb'_and, hmask]
  simp

theorem shiftLeft_two_mod_four (v : Word) : (v <<< 2).toNat % 4 = 0 := by
  rw [BitVec.toNat_shiftLeft, Nat.shiftLeft_eq]
  omega

theorem shiftLeft_one_even (v : Word) : (v <<< 1).toNat % 2 = 0 := by
  rw [BitVec.toNat_shiftLeft, Nat.shiftLeft_eq]
  omega

/-- The target of an interworking branch, bit 0 the T bit (10 R24): without it bits 1:0 are 0 unless they are 2 (U62). -/
theorem alignedFor_interworking {v : Word} (h : (v.extractLsb' 0 2 != 2) = true) :
    AlignedFor (v.getLsbD 0) (v &&& 0xFFFFFFFE) := by
  have table : ∀ x : BitVec 2, (x != 2) = true → x.getLsbD 0 = false → x &&& 2 = 0 := by decide
  unfold AlignedFor
  split
  · exact clearBit_even v
  · rename_i hclear
    have hmask : (0xFFFFFFFE : Word).extractLsb' 0 2 = 2 := rfl
    have hbit : (v.extractLsb' 0 2).getLsbD 0 = false := by simpa using hclear
    rw [toNat_mod_four, BitVec.extractLsb'_and, hmask, table _ h hbit]
    rfl

/-! ## The invariant after each way of leaving the pc -/

section Leaving
variable {s : State}

theorem advance_inv (h : s.Inv) : s.advance.Inv := by
  refine ⟨h.memory, h.mode, ?_⟩
  have hpc := h.pc
  show AlignedFor s.cpsr.t (s.pc + s.size)
  unfold State.pcAligned at hpc
  unfold AlignedFor State.size
  split at hpc
  · rename_i ht
    rw [if_pos ht, if_pos ht, BitVec.toNat_add]
    simp
    omega
  · rename_i ht
    rw [if_neg ht, if_neg ht, BitVec.toNat_add]
    simp
    omega

theorem withFlow_inv (h : s.Inv) (f : Flow) : (s.withFlow f).Inv := ⟨h.memory, h.mode, h.pc⟩

theorem jump_inv (h : s.Inv) {v : Word} (hv : AlignedFor s.cpsr.t v) (f : Flow) : (s.jump v f).Inv :=
  ⟨h.memory, h.mode, hv⟩

/-- A jump that changes the instruction set. -/
theorem exchange_inv (h : s.Inv) {thumb : Bool} {v : Word} (hv : AlignedFor thumb v) (f : Flow) :
    ((s.mapCpsr ({ · with t := thumb })).jump v f).Inv := ⟨h.memory, h.mode, hv⟩

end Leaving

/-! ## The invariant after an exception (60 R824 to R843, 61 R890 to R896) -/

section Exceptions
variable {s : State}

theorem enterMode_inv (hmem : s.mem.wf = true) {m : BitVec 5} (hm : legalMode m = true) (link : Word) (setF : Bool)
    {target : Word} (ht : target.toNat % 4 = 0) : (s.enterMode m link setF target).Inv := by
  unfold State.enterMode
  dsimp only
  cases spsrOf m with
  | none => exact ⟨hmem, hm, ht⟩
  | some k => exact ⟨hmem, hm, ht⟩

theorem vectorBase_add_mod_four (s : State) {k : Word} (hk : k.toNat % 4 = 0) : (s.vectorBase + k).toNat % 4 = 0 := by
  unfold State.vectorBase
  split
  · rw [BitVec.toNat_add]
    simp
    omega
  · rw [BitVec.toNat_add]
    simp
    omega

theorem vectorAddress_mod_four (s : State) (x : Exc) : (s.vectorAddress x).toNat % 4 = 0 := by
  refine vectorBase_add_mod_four s ?_
  cases x <;> rfl

theorem vectorBase_mod_four (s : State) : s.vectorBase.toNat % 4 = 0 := by
  unfold State.vectorBase
  split
  · rfl
  · rfl

theorem setFsrDebug_steady (s : State) : Steady s s.setFsrDebug := ⟨rfl, rfl, rfl, id⟩

theorem debugEntryHalt_inv (hmem : s.mem.wf = true) (moe : BitVec 3) (link : Word) : (s.debugEntryHalt moe link).Inv := by
  have hmode : legalMode modeDbg = true := rfl
  unfold State.debugEntryHalt
  dsimp only
  split
  · refine enterMode_inv ?_ hmode _ _ ?_
    · exact hmem
    · rfl
  · refine enterMode_inv ?_ hmode _ _ (vectorBase_mod_four _)
    exact (setFsrDebug_steady _).memory hmem

theorem debugEntryMonitor_inv (hmem : s.mem.wf = true) (moe : BitVec 3) (link : Word) (prefetch : Bool) :
    (s.debugEntryMonitor moe link prefetch).Inv := by
  have hmode : legalMode modeAbt = true := rfl
  refine enterMode_inv ((setFsrDebug_steady _).memory ?_) hmode _ _ (vectorBase_add_mod_four s ?_)
  · exact hmem
  cases prefetch <;> rfl

theorem debugEntry_inv (hmem : s.mem.wf = true) (moe : BitVec 3) (link : Word) (prefetch : Bool) :
    (s.debugEntry moe link prefetch).Inv := by
  unfold State.debugEntry
  split
  · exact debugEntryHalt_inv hmem _ _
  · exact debugEntryMonitor_inv hmem _ _ _

theorem takeException_inv (hmem : s.mem.wf = true) (x : Exc) (link : Word) : (s.takeException x link).Inv := by
  have hmode : legalMode x.mode = true := by cases x <;> rfl
  have htraced : (if x = .dataAbort then s else s.traceException x.vector s.trace.count).mem.wf = true := by
    split
    · exact hmem
    · exact (Steady.traceException s _ _).memory hmem
  have hentered := enterMode_inv htraced hmode link (x == .fiq) (vectorAddress_mod_four s x)
  unfold State.takeException
  dsimp only
  split
  · exact debugEntryHalt_inv hentered.memory _ _
  · exact hentered

theorem setFaultStatus_steady (s : State) (status : BitVec 5) (domain : Option (BitVec 4)) :
    Steady s (s.setFaultStatus status domain) := by
  cases domain <;> exact ⟨rfl, rfl, rfl, id⟩

theorem setFaultAddress_steady (s : State) (far : Option Word) : Steady s (s.setFaultAddress far) := by
  cases far <;> exact ⟨rfl, rfl, rfl, id⟩

/-- What an abort writes to FSR and FAR. -/
theorem setFault_steady (s : State) (status : BitVec 5) (domain : Option (BitVec 4)) (far : Option Word) :
    Steady s ((s.setFaultStatus status domain).setFaultAddress far) :=
  steady_follows.trans (setFaultStatus_steady s status domain) (setFaultAddress_steady _ far)

theorem prefetchAbort_inv (hmem : s.mem.wf = true) (status : BitVec 5) : (s.prefetchAbort status).Inv :=
  takeException_inv ((setFaultStatus_steady s status none).memory hmem) _ _

theorem dataAbort_inv (h : s.Inv) (a : DataAbort) : (s.dataAbort a).Inv := by
  have hlost : Steady s s.loseBreak := ⟨rfl, rfl, rfl, id⟩
  have hfault := steady_follows.trans hlost (setFault_steady s.loseBreak a.status a.domain a.far)
  unfold State.dataAbort
  dsimp only
  split
  · obtain ⟨hmem, hmode, hpc⟩ := hfault.inv h
    exact advance_inv ⟨hmem, hmode, hpc⟩
  · exact takeException_inv ((Steady.traceDataAbort _).memory (hfault.memory h.memory)) _ _

theorem impreciseAbort_inv (hmem : s.mem.wf = true) (status : BitVec 5) : (s.impreciseAbort status).Inv := by
  have hfault := setFault_steady (s.setExt { s.ext with pendingAbort := none }) status none none
  exact takeException_inv ((Steady.traceException _ _ _).memory (hfault.memory hmem)) _ _

end Exceptions

/-! ## Sound bodies: the invariant wherever a body ends with a successor state -/

/-- The state a body ends in has the invariant, unless it refuses, which has no successor. -/
def Kept {α : Type} : EStateM.Result Stop State α → Prop
  | .ok _ t => t.Inv
  | .error (.refuse _) _ => True
  | .error _ t => t.Inv

/-- From a state with the invariant a body ends in one with it, or refuses. -/
def M.Sound {α : Type} (m : M α) : Prop := ∀ s, s.Inv → Kept (m s)

section Kept
variable {α β : Type} {s : State}

theorem kept_error {t : State} (h : t.Inv) (e : Stop) : Kept (.error e t : EStateM.Result Stop State α) := by
  cases e with
  | refuse r => trivial
  | abort a => exact h
  | undefined => exact h
  | reset => exact h

theorem kept_steady {m : M α} (h : M.Steady m) (hs : s.Inv) : Kept (m s) := by
  cases e : m s with
  | ok a t => exact (h.ok e).inv hs
  | error x t => exact kept_error ((h.error e).inv hs) x

/-- A steady beginning, and then from each state that it may leave. -/
theorem kept_bind {m : M α} {f : α → M β} (h : M.Steady m) (hs : s.Inv)
    (k : ∀ a t, Steady s t → t.Inv → Kept (f a t)) : Kept ((m >>= f) s) := by
  rw [M.bind_apply]
  cases e : m s with
  | ok a t => exact k a t (h.ok e) ((h.ok e).inv hs)
  | error x t => exact kept_error ((h.error e).inv hs) x

theorem kept_state {f : State → M β} (k : Kept (f s s)) : Kept ((M.state >>= f) s) := by
  rwa [M.bind_ok s (M.state_apply s)]

/-- What follows a requirement may use it. -/
theorem kept_require {c : Bool} {r : Refusal} {f : Unit → M β} (k : c = true → Kept (f () s)) :
    Kept ((M.require c r >>= f) s) := by
  cases c with
  | false =>
    rw [M.bind_error s (M.require_false s r)]
    trivial
  | true =>
    rw [M.bind_ok s (M.require_true s r)]
    exact k rfl

end Kept

theorem M.Steady.sound {α : Type} {m : M α} (h : M.Steady m) : M.Sound m := fun _ hs => kept_steady h hs

namespace Sound

section Combinators
variable {α β : Type}

theorem bind {m : M α} {f : α → M β} (h : M.Steady m) (k : ∀ a, M.Sound (f a)) : M.Sound (m >>= f) :=
  fun _ hs => kept_bind h hs fun a t _ ht => k a t ht

theorem ite {c : Prop} [Decidable c] {m n : M α} (h : M.Sound m) (k : M.Sound n) : M.Sound (if c then m else n) := by
  split
  · exact h
  · exact k

/-- A steady action that is made on a condition, and what follows it either way. -/
theorem optional {c : Prop} [Decidable c] {m : M Unit} {f : Unit → M β} (h : M.Steady m) (k : ∀ u, M.Sound (f u)) :
    M.Sound (if c then m >>= f else f ()) := ite (bind h k) (k ())

theorem refuse (r : Refusal) : M.Sound (M.refuse r : M α) := fun _ _ => trivial

end Combinators

/-! ### Ways of leaving the pc -/

theorem next : M.Sound Machine.next := fun _ hs => advance_inv hs

theorem writePc (v : Word) : M.Sound (Machine.writePc v) := fun _ hs =>
  kept_require fun hv => jump_inv hs (alignedFor_of_mod_four (mod_four_of_low_zero hv) _) _

theorem writePcInterworking (v : Word) : M.Sound (Machine.writePcInterworking v) := fun _ hs =>
  kept_require fun hv => exchange_inv hs (alignedFor_interworking hv) _

/-- What follows a restored CPSR begins in a legal mode, with nothing known of the pc. -/
theorem kept_restoreCpsr {β : Type} {s : State} {f : Unit → M β}
    (k : ∀ p : Psr, legalMode p.m = true →
      Kept (f () ((s.setCpsr p).mapDebug ({ · with sds := false, fromSram := false })))) :
    Kept ((restoreCpsr >>= f) s) := by
  obtain ⟨p, e⟩ | ⟨r, e⟩ := readSpsr_cases s
  · cases hp : legalMode p.m with
    | false =>
      have hstop : restoreCpsr s = .error (.refuse .illegalMode) s := by simp [restoreCpsr, M.bind_apply, e, hp]
      rw [M.bind_error s hstop]
      trivial
    | true =>
      have hdone : restoreCpsr s = .ok () ((s.setCpsr p).mapDebug ({ · with sds := false, fromSram := false })) := by
        simp [restoreCpsr, M.bind_apply, e, hp]
      rw [M.bind_ok s hdone]
      exact k p hp
  · have hstop : restoreCpsr s = .error (.refuse r) s := by simp [restoreCpsr, M.bind_apply, e]
    rw [M.bind_error s hstop]
    trivial

theorem returnTo (v : Word) : M.Sound (Machine.returnTo v) := by
  intro s hs
  refine kept_restoreCpsr fun p hp => kept_state (kept_require fun hv => ⟨hs.memory, hp, ?_⟩)
  show AlignedFor p.t v
  have hv' : (if p.t then !v.getLsbD 0 else v.extractLsb' 0 2 == 0) = true := hv
  cases ht : p.t with
  | true =>
    rw [ht] at hv'
    exact alignedFor_thumb (even_of_low_clear hv')
  | false =>
    rw [ht] at hv'
    exact mod_four_of_low_zero hv'

/-- The exception return of LDM clears the low bits that the restored state does not use (42 R562). -/
theorem returnByLoad (v : Word) : M.Sound (do
    restoreCpsr
    M.update fun s => s.jump (v &&& (if s.cpsr.t then 0xFFFFFFFE else 0xFFFFFFFC)) (.indirect true)) := by
  intro s hs
  refine kept_restoreCpsr fun p hp => ⟨hs.memory, hp, ?_⟩
  show AlignedFor p.t (v &&& (if p.t then 0xFFFFFFFE else 0xFFFFFFFC))
  cases p.t with
  | true => exact alignedFor_thumb (clearBit_even v)
  | false => exact clearLow_mod_four v

theorem branchTarget_aligned {thumb : Bool} {pc : Word} (h : AlignedFor thumb pc) (imm24 : BitVec 24) :
    AlignedFor thumb (branchTarget pc imm24) := (h.add rfl).add (shiftLeft_two_mod_four _)

theorem linkArm : M.Steady Machine.linkArm := Steady.setRegs _
theorem linkThumb : M.Steady Machine.linkThumb := Steady.setRegs _

theorem branch (imm24 : BitVec 24) : M.Sound (branchTo fun s => branchTarget s.pc imm24) := fun _ hs =>
  jump_inv hs (branchTarget_aligned hs.pc imm24) _

theorem branchLink (imm24 : BitVec 24) : M.Sound (do
    let s0 ← M.state
    Machine.linkArm
    branchTo fun _ => branchTarget s0.pc imm24) := fun _ hs =>
  kept_state (kept_bind linkArm hs fun _ _ h ht => jump_inv ht (h.thumb ▸ branchTarget_aligned hs.pc imm24) _)

theorem branchLinkExchange (upper : Bool) (imm24 : BitVec 24) : M.Sound (do
    let s0 ← M.state
    Machine.linkArm
    M.update fun s => (s.mapCpsr ({ · with t := true })).jump
      (branchTarget s0.pc imm24 + (if upper then 2 else 0)) (.indirect true)) := by
  refine fun _ hs => kept_state (kept_bind linkArm hs fun _ _ h ht => exchange_inv ht (alignedFor_thumb ?_) _)
  have htarget := (branchTarget_aligned hs.pc imm24).even
  rw [BitVec.toNat_add]
  cases upper with
  | true =>
    simp
    omega
  | false =>
    simp
    omega

/-! ### Thumb branches, which need Thumb state -/

theorem thumbTarget_even {pc : Word} (h : pc.toNat % 2 = 0) (offset : Word) : (thumbTarget pc offset).toNat % 2 = 0 := by
  have hoffset := shiftLeft_one_even offset
  rw [thumbTarget, BitVec.toNat_add, BitVec.toNat_add]
  simp
  omega

section ThumbState
variable {s : State} (hs : s.Inv) (ht : s.cpsr.t = true)
include hs ht

theorem thumbJump {v : Word} (hv : v.toNat % 2 = 0) (f : Flow) : (s.jump v f).Inv :=
  jump_inv hs (ht ▸ alignedFor_thumb hv) f

theorem thumbBranch (offset : Word) : Kept (branchTo (fun s => thumbTarget s.pc offset) s) := by
  have hpc : AlignedFor s.cpsr.t s.pc := hs.pc
  rw [ht] at hpc
  exact thumbJump hs ht (thumbTarget_even hpc offset) _

theorem thumbBranchIf (c : Cond) (imm8 : BitVec 8) : Kept ((do
    let s ← M.state
    if s.cpsr.holds c then branchTo fun s => thumbTarget s.pc (imm8.signExtend 32)
    else M.update fun s => s.advance.withFlow (.direct false) : M Unit) s) := by
  refine kept_state ?_
  split
  · exact thumbBranch hs ht _
  · exact withFlow_inv (advance_inv hs) _

theorem thumbCall (imm11 : BitVec 11) : Kept ((do
    let r ← reg 14
    Machine.linkThumb
    branchTo fun _ => (r + (imm11.setWidth 32 <<< 1)) &&& 0xFFFFFFFE : M Unit) s) :=
  kept_bind (Steady.reg _) hs fun _ _ h hs1 => kept_bind linkThumb hs1 fun _ _ h1 hs2 =>
    thumbJump hs2 ((h1.thumb.trans h.thumb).trans ht) (clearBit_even _) _

theorem thumbHigh (d : Reg) (v : Word) : Kept (Machine.thumbHigh d v s) := by
  unfold Machine.thumbHigh
  split
  · exact thumbJump hs ht (clearBit_even v) _
  · exact bind (Steady.setReg d v) (fun _ => next) s hs

end ThumbState

/-- BLX leaves Thumb state for a word address (46 R791). -/
theorem thumbExchange (imm10 : BitVec 10) : M.Sound (do
    let r ← reg 14
    Machine.linkThumb
    M.update fun s => (s.mapCpsr ({ · with t := false })).jump
      ((r + (imm10.setWidth 32 <<< 2)) &&& 0xFFFFFFFC) (.indirect true)) :=
  bind (Steady.reg _) fun _ => bind linkThumb fun _ _ hs => exchange_inv hs (thumb := false) (clearLow_mod_four _) _

/-! ### Exceptions and the status registers -/

theorem raiseSwi : M.Sound Machine.raiseSwi := fun _ hs =>
  kept_state (kept_require fun _ => takeException_inv hs.memory _ _)

theorem breakpointBody : M.Sound Machine.breakpointBody := by
  refine fun s hs => kept_state ?_
  split
  · exact debugEntry_inv hs.memory _ _ _
  · exact next s hs

/-- The mode that follows a test of it is legal. -/
theorem kept_modeWritable {β : Type} {s : State} {m : BitVec 5} {f : Unit → M β}
    (k : legalMode m = true → Kept (f () s)) : Kept ((modeWritable m >>= f) s) := by
  have hassoc : (modeWritable m >>= f) s = ((do
      M.require (legalMode m) .illegalMode
      M.require (m != modeDbg || s.dbg.sds) .debugModeOutsideSds
      M.require (m != modeUsr || !s.dbg.sds) .sdsUserMode
      f ()) : M β) s := by
    cases h1 : legalMode m <;> cases h2 : (m != modeDbg || s.dbg.sds) <;> cases h3 : (m != modeUsr || !s.dbg.sds) <;>
      simp [modeWritable, M.bind_apply, h1, h2, h3]
  rw [hassoc]
  exact kept_require fun h => kept_require fun _ => kept_require fun _ => k h

theorem append_mode {n : Nat} (high : BitVec n) (thumb : Bool) (m : BitVec 5) :
    (high ++ BitVec.ofBool thumb ++ m).extractLsb' 0 5 = m ∧ (high ++ BitVec.ofBool thumb ++ m).getLsbD 5 = thumb := by
  constructor
  · ext i hi
    simp [BitVec.getLsbD_append, hi]
  · rw [BitVec.getLsbD_append, BitVec.getLsbD_append]
    simp

theorem toWord_mode (p : Psr) : p.toWord.extractLsb' 0 5 = p.m := (append_mode (n := 26) _ p.t p.m).1
theorem toWord_thumb (p : Psr) : p.toWord.getLsbD 5 = p.t := (append_mode (n := 26) _ p.t p.m).2

theorem insert_mode_kept (p : Psr) (operand : Word) {mask : Word} (h : mask.extractLsb' 0 5 = 0) :
    (p.insert operand mask).m = p.m := by
  have hones : p.m &&& 31#5 = p.m := BitVec.and_allOnes
  simp [Psr.insert, Psr.ofWord, BitVec.extractLsb'_or, BitVec.extractLsb'_and, BitVec.extractLsb'_not_of_lt, toWord_mode,
    h, hones]

theorem insert_mode_new (p : Psr) (operand : Word) {mask : Word} (h : mask.extractLsb' 0 5 = BitVec.allOnes 5) :
    (p.insert operand mask).m = operand.extractLsb' 0 5 := by
  have hones : operand.extractLsb' 0 5 &&& 31#5 = operand.extractLsb' 0 5 := BitVec.and_allOnes
  simp [Psr.insert, Psr.ofWord, BitVec.extractLsb'_or, BitVec.extractLsb'_and, BitVec.extractLsb'_not_of_lt, h, hones]

theorem insert_thumb (p : Psr) (operand : Word) {mask : Word} (h : mask.getLsbD 5 = false) :
    (p.insert operand mask).t = p.t := by
  rw [← toWord_thumb p, Psr.insert, Psr.ofWord]
  simp only [BitVec.getLsbD_or, BitVec.getLsbD_and, BitVec.getLsbD_not, h]
  simp

/-- No MSR writes the T bit, and the mode only with the control byte (43 R606). -/
theorem fieldMask_thumb (mask : BitVec 4) (k : Bool) :
    (fieldMask mask &&& (if k then 0xF80000DF else 0xF8000000)).getLsbD 5 = false := by
  cases k <;> revert mask <;> decide

theorem fieldMask_mode (mask : BitVec 4) :
    (fieldMask mask &&& 0xF80000DF).extractLsb' 0 5 = if mask.getLsbD 0 then BitVec.allOnes 5 else 0 := by
  revert mask
  decide

theorem fieldMask_flags (mask : BitVec 4) : (fieldMask mask &&& 0xF8000000).extractLsb' 0 5 = 0 := by
  revert mask
  decide

theorem mapCpsr_inv {s : State} (hs : s.Inv) {f : Psr → Psr} (mode : legalMode (f s.cpsr).m = true)
    (thumb : (f s.cpsr).t = s.cpsr.t) : (s.mapCpsr f).Inv := by
  refine ⟨hs.memory, mode, ?_⟩
  show AlignedFor (f s.cpsr).t s.pc
  rw [thumb]
  exact hs.pc

/-- MSR (43 R606): in a privileged mode the control byte brings a mode that has been found legal. -/
theorem writeStatus (r : Bool) (mask : BitVec 4) (operand : Word) : M.Sound (Machine.writeStatus r mask operand) := by
  intro s hs
  have finish : ∀ {f : Psr → Psr}, legalMode (f s.cpsr).m = true → (f s.cpsr).t = s.cpsr.t →
      Kept ((do M.update (·.mapCpsr f); Machine.next : M Unit) s) :=
    fun mode thumb => advance_inv (mapCpsr_inv hs mode thumb)
  refine kept_state ?_
  dsimp only
  cases r with
  | true =>
    rw [if_pos rfl]
    cases spsrOf s.cpsr.m with
    | none => trivial
    | some k => exact bind (Steady.setSpsr _) (fun _ => next) s hs
  | false =>
    rw [if_neg Bool.false_ne_true]
    have hthumb := insert_thumb s.cpsr operand (fieldMask_thumb mask true)
    split
    · refine kept_require fun _ => ?_
      split
      · rename_i hcontrol
        refine kept_modeWritable fun hlegal => finish ?_ hthumb
        rw [insert_mode_new _ _ (by rw [fieldMask_mode, if_pos hcontrol])]
        exact hlegal
      · rename_i hcontrol
        refine finish ?_ hthumb
        rw [insert_mode_kept _ _ (by rw [fieldMask_mode, if_neg hcontrol])]
        exact hs.mode
    · refine finish ?_ (insert_thumb s.cpsr operand (fieldMask_thumb mask false))
      rw [insert_mode_kept _ _ (fieldMask_flags mask)]
      exact hs.mode

theorem readStatus (r : Bool) (rd : Reg) : M.Sound (Machine.readStatus r rd) :=
  bind Steady.state fun _ => ite
    (bind Steady.readSpsr fun _ => bind (Steady.setReg _ _) fun _ => next)
    (bind (Steady.pure _) fun _ => bind (Steady.setReg _ _) fun _ => next)

/-! ### Data processing and multiplication -/

theorem setFlags {f : Psr → Psr} (mode : ∀ p, (f p).m = p.m) (thumb : ∀ p, (f p).t = p.t) :
    M.Steady (M.update (·.mapCpsr f)) := Steady.setFlags (fun s => mode s.cpsr) (fun s => thumb s.cpsr)

/-- A register written, then the next instruction. -/
theorem setReg_next (r : Reg) (v : Word) : M.Sound (do Machine.setReg r v; Machine.next) :=
  bind (Steady.setReg _ _) fun _ => next

theorem dataProcess (op : DpOp) (ok sf : Bool) {a : M Word} (h : M.Steady a) (rd : Reg) (so : ShifterOperand) :
    M.Sound (Machine.dataProcess op ok sf a rd so) :=
  bind (Steady.allowed _) fun _ => bind h fun _ => bind (Steady.shifterOperand _) fun (_, _) => bind Steady.state fun _ =>
    ite (ite (returnTo _) (writePc _)) (optional (setFlags (fun _ => rfl) fun _ => rfl) fun _ => setReg_next _ _)

theorem dataTwo (op : DpOp) (sf : Bool) (rn rd : Reg) (so : ShifterOperand) : M.Sound (Machine.dataTwo op sf rn rd so) :=
  dataProcess _ _ _ (Steady.reg _) _ _

theorem dataMove (op : DpOp) (sf : Bool) (sbz : BitVec 4) (rd : Reg) (so : ShifterOperand) :
    M.Sound (Machine.dataMove op sf sbz rd so) := dataProcess _ _ _ (Steady.pure _) _ _

theorem dataCompare (op : DpOp) (rn : Reg) (sbz : BitVec 4) (so : ShifterOperand) :
    M.Sound (Machine.dataCompare op rn sbz so) :=
  bind (Steady.allowed _) fun _ => bind (Steady.reg _) fun _ => bind (Steady.shifterOperand _) fun (_, _) =>
    bind (Steady.setFlags (fun _ => rfl) fun _ => rfl) fun _ => next

theorem multiplyWord (sf : Bool) (rd : Reg) (r : Word) : M.Sound (Machine.multiplyWord sf rd r) := by
  unfold Machine.multiplyWord
  exact optional (setFlags (fun _ => rfl) fun _ => rfl) fun _ => setReg_next _ _

theorem multiplyLong (sf : Bool) (rdHi rdLo : Reg) (r : BitVec 64) : M.Sound (Machine.multiplyLong sf rdHi rdLo r) := by
  unfold Machine.multiplyLong
  exact optional (setFlags (fun _ => rfl) fun _ => rfl) fun _ => bind (Steady.setReg _ _) fun _ => setReg_next _ _

theorem longMultiply (product : Word → Word → BitVec 64) (accumulate sf : Bool) (rdHi rdLo rs rm : Reg) :
    M.Sound (Machine.longMultiply product accumulate sf rdHi rdLo rs rm) :=
  bind (Steady.allowed _) fun _ => bind (Steady.reg _) fun _ => bind (Steady.reg _) fun _ =>
    ite (bind (Steady.reg _) fun _ => bind (Steady.reg _) fun _ => multiplyLong _ _ _ _) (multiplyLong _ _ _ _)

theorem writeSticky (rd : Reg) (r : Word) (sat : Bool) : M.Sound (Machine.writeSticky rd r sat) :=
  bind (setFlags (fun _ => rfl) fun _ => rfl) fun _ => setReg_next _ _

theorem saturating (double subtract : Bool) (rn rd : Reg) (sbz : BitVec 4) (rm : Reg) :
    M.Sound (Machine.saturating double subtract rn rd sbz rm) :=
  bind (Steady.allowed _) fun _ => bind (Steady.reg _) fun _ => bind (Steady.reg _) fun _ => writeSticky _ _ _

/-- Two registers and a result in a third, as MUL and the halfword multiplies read theirs. -/
theorem readTwo {ok : Bool} {rm rs : Reg} {f : Word → Word → M Unit} (h : ∀ m x, M.Sound (f m x)) :
    M.Sound (do
      allowed ok
      let m ← reg rm
      let x ← reg rs
      f m x) := bind (Steady.allowed _) fun _ => bind (Steady.reg _) fun _ => bind (Steady.reg _) fun _ => h _ _

/-- Three registers and a result, as the multiplies that accumulate read theirs. -/
theorem readThree {ok : Bool} {rm rs rn : Reg} {f : Word → Word → Word → M Unit} (h : ∀ m x n, M.Sound (f m x n)) :
    M.Sound (do
      allowed ok
      let m ← reg rm
      let x ← reg rs
      let n ← reg rn
      f m x n) := readTwo fun _ _ => bind (Steady.reg _) fun _ => h _ _ _

/-! ### Loads and stores -/

section Single
variable {load : Word → Bool → M Word} {user : M Bool} {off : M Word}

theorem loadRegister (hl : ∀ a u, M.Steady (load a u)) (hu : M.Steady user) (ho : M.Steady off) (p u wb : Bool)
    (rn rd : Reg) : M.Sound (Machine.loadRegister load user p u wb rn rd off) :=
  bind (Steady.singleAddress _ _ _ ho) fun (_, _) => bind hu fun _ => bind (hl _ _) fun _ =>
    bind (Steady.writeBack _ _ _) fun _ => setReg_next _ _

theorem storeRegister (n : Nat) (hu : M.Steady user) (ho : M.Steady off) (p u wb : Bool) (rn rd : Reg) :
    M.Sound (Machine.storeRegister n user p u wb rn rd off) :=
  bind (Steady.singleAddress _ _ _ ho) fun (_, _) => bind (Steady.storedReg _) fun _ => bind hu fun _ =>
    bind (Quiet.memWrite _ _ _ _).steady fun _ => bind (Steady.writeBack _ _ _) fun _ => next

theorem loadPc (ho : M.Steady off) (p u wb : Bool) (rn : Reg) : M.Sound (Machine.loadPc p u wb rn off) :=
  bind (Steady.singleAddress _ _ _ ho) fun (_, _) => bind (Steady.markPcLoad _) fun _ => bind Steady.state fun _ =>
    ite (bind Steady.asUser fun _ => bind (Steady.loadWord _ _) fun _ => bind (Steady.writeBack _ _ _) fun _ =>
      writePcInterworking _) (Steady.alignmentAbort _).sound

/-- A load or store whose operands are restricted. -/
theorem restricted {ok : Bool} {m : M Unit} (h : M.Sound m) : M.Sound (do allowed ok; m) :=
  bind (Steady.allowed _) fun _ => h

end Single

theorem loadDouble (p u w : Bool) (rn rd : Reg) (off : Offset3) : M.Sound (Machine.loadDouble p u w rn rd off) :=
  bind (Steady.defined _) fun _ => bind (Steady.allowed _) fun _ =>
    bind (Steady.singleAddress _ _ _ (Steady.offsetThree _)) fun (_, _) => bind Steady.asUser fun _ =>
      bind Steady.state fun _ => bind (Quiet.checkAlign _ _).steady fun _ => bind (Quiet.memRead _ _ _).steady fun _ =>
        bind Steady.betweenWords fun _ => bind (Quiet.memRead _ _ _).steady fun _ =>
          bind (Steady.writeBack _ _ _) fun _ => bind (Steady.setReg _ _) fun _ => setReg_next _ _

theorem storeDouble (p u w : Bool) (rn rd : Reg) (off : Offset3) : M.Sound (Machine.storeDouble p u w rn rd off) :=
  bind (Steady.defined _) fun _ => bind (Steady.allowed _) fun _ =>
    bind (Steady.singleAddress _ _ _ (Steady.offsetThree _)) fun (_, _) => bind (Steady.reg _) fun _ =>
      bind (Steady.reg _) fun _ => bind Steady.asUser fun _ => bind Steady.state fun _ =>
        bind (Quiet.checkAlign _ _).steady fun _ => bind (Quiet.memWrite _ _ _ _).steady fun _ =>
          bind Steady.betweenWords fun _ => bind (Quiet.memWrite _ _ _ _).steady fun _ =>
            bind (Steady.writeBack _ _ _) fun _ => next

theorem loadMany (p u w : Bool) (rn : Reg) (regs : BitVec 16) : M.Sound (Machine.loadMany p u w rn regs) := by
  unfold Machine.loadMany
  exact optional (Steady.markPcLoad _) fun _ => bind Steady.state fun _ =>
    bind (Steady.loadMultiple Steady.setReg _ _ _ _ _) fun _ => bind (Steady.writeRegisters Steady.setReg _) fun _ =>
      bind (Steady.writeBack _ _ _) fun _ => ite (writePcInterworking _) next

theorem loadUser (p u : Bool) (rn : Reg) (regs : BitVec 15) : M.Sound (Machine.loadUser p u rn regs) :=
  bind Steady.state fun _ => bind (Steady.require _ _) fun _ =>
    bind (Steady.loadMultiple Steady.writeUser _ _ _ _ _) fun _ => bind (Steady.writeRegisters Steady.writeUser _) fun _ =>
      bind Steady.markUserTransfer fun _ => next

theorem loadReturn (p u w : Bool) (rn : Reg) (regs : BitVec 15) : M.Sound (Machine.loadReturn p u w rn regs) :=
  bind Steady.state fun _ => bind (Steady.require _ _) fun _ => bind (Steady.markPcLoad _) fun _ =>
    bind (Steady.loadMultiple Steady.setReg _ _ _ _ _) fun _ => bind (Steady.writeRegisters Steady.setReg _) fun _ =>
      bind (Steady.writeBack _ _ _) fun _ => returnByLoad _

theorem storeMany (p u w : Bool) (rn : Reg) (regs : BitVec 16) : M.Sound (Machine.storeMany p u w rn regs) :=
  bind Steady.state fun _ => bind (Steady.each Steady.storedReg _) fun _ => bind (Steady.storeMultiple _ _ _ _ _) fun _ =>
    bind (Steady.writeBack _ _ _) fun _ => next

theorem storeUser (p u : Bool) (rn : Reg) (regs : BitVec 16) : M.Sound (Machine.storeUser p u rn regs) :=
  bind Steady.state fun _ => bind (Steady.require _ _) fun _ => bind (Steady.each Steady.storedUser _) fun _ =>
    bind (Steady.storeMultiple _ _ _ _ _) fun _ => bind Steady.markUserTransfer fun _ => next

theorem swapBody (n : Nat) (extend : Word → BitVec (8 * n) → Word) (rn rd : Reg) (sbz : BitVec 4) (rm : Reg) :
    M.Sound (Machine.swapBody n extend rn rd sbz rm) :=
  readTwo fun _ _ => bind (Quiet.memSwap _ _ _).steady fun _ => setReg_next _ _

theorem preload {ok : Bool} (u : Bool) (rn : Reg) (off : Offset2) : M.Sound (do
    allowed ok
    let base ← reg rn
    let o ← offsetTwo off
    Machine.preload (indexed u base o)
    Machine.next) :=
  bind (Steady.allowed _) fun _ => bind (Steady.reg _) fun _ => bind (Steady.offsetTwo _) fun _ =>
    bind (Quiet.preload _).steady fun _ => next

/-! ### Coprocessors -/

theorem asspTransfer (load p u w : Bool) (rn : Reg) (off8 : BitVec 8) :
    M.Sound (Machine.asspTransfer load p u w rn off8) := by
  refine bind (Steady.allowed _) fun _ => bind Steady.asspReply fun _ => bind (Steady.coprocAddress _ _ _ _) fun (_, ea) =>
    bind (Steady.draw _) fun _ => bind (Quiet.noWrap _ _).steady fun _ => bind Steady.asUser fun _ => ?_
  have last : ∀ u : Unit, M.Sound (do Machine.writeBack w rn ea; Machine.next) :=
    fun _ => bind (Steady.writeBack _ _ _) fun _ => next
  have words : ∀ {l : List Word} {usr : Bool} (u : Unit), M.Sound (if load then do
        let (_, e) ← loadWords usr l
        match e with
        | some e => M.stop (.abort e)
        | none => pure ()
        Machine.writeBack w rn ea
        Machine.next
      else do
        let values ← M.each (fun _ => M.draw 32) l
        storeWords usr (l.zip values)
        Machine.writeBack w rn ea
        Machine.next) := by
    intro l usr _
    refine ite (bind (Steady.loadWords _ _) fun r => ?_)
      (bind (Steady.each (fun _ => Steady.draw _) _) fun _ => bind (Steady.storeWords _ _) last)
    obtain ⟨vs, e⟩ := r
    cases e with
    | none => exact last ()
    | some e => exact bind (Steady.stop _) last
  exact ite (bind (Quiet.locate _ _ _ _).steady fun _ => bind Steady.coprocAbort words) (words ())

theorem foreignLoad (cp : BitVec 4) (p u w : Bool) (rn : Reg) (off8 : BitVec 8) :
    M.Sound (Machine.foreignLoad cp p u w rn off8) :=
  bind Steady.state fun _ => bind (Steady.defined _) fun _ =>
    ite (asspTransfer _ _ _ _ _ _) (Steady.implicitLoad _ _ _ _).sound

theorem foreignStore (cp : BitVec 4) (p u w : Bool) (rn : Reg) (off8 : BitVec 8) :
    M.Sound (Machine.foreignStore cp p u w rn off8) :=
  bind Steady.state fun _ => bind (Steady.defined _) fun _ => asspTransfer _ _ _ _ _ _

theorem unlistedDebugWrite (opc1 : BitVec 3) (crn crm : BitVec 4) (opc2 : BitVec 3) :
    M.Sound (Machine.unlistedDebugWrite opc1 crn crm opc2) :=
  bind (Steady.require _ _) fun _ => bind Steady.scrambleTrace fun _ => next

theorem accumulate (rs : Reg) (acc : BitVec 3) (rm : Reg) (product : Word → Word → Int) :
    M.Sound (Machine.accumulate rs acc rm product) :=
  ite (bind Steady.cp0Access fun _ => next)
    (bind Steady.accumulatorAccess fun _ => readTwo fun _ _ => bind (Steady.setAcc0 _) fun _ => next)

/-! ### Thumb instructions -/

theorem thumbSet (op : DpOp) (rd : Reg) (a b : Word) (k : Bool) : M.Sound (Machine.thumbSet op rd a b k) :=
  bind Steady.state fun _ => bind (setFlags (fun _ => rfl) fun _ => rfl) fun _ => setReg_next _ _

theorem thumbTwo (op : DpOp) (rm rd : LowReg) : M.Sound (Machine.thumbTwo op rm rd) :=
  bind (Steady.reg _) fun _ => bind (Steady.reg _) fun _ => bind Steady.state fun _ => thumbSet _ _ _ _ _

theorem thumbFlags (op : DpOp) (a b : Word) : M.Sound (Machine.thumbFlags op a b) :=
  bind (Steady.setFlags (fun _ => rfl) fun _ => rfl) fun _ => next

theorem thumbShift (sh : ShiftType) (op : ThumbShift) : M.Sound (Machine.thumbShift sh op) := by
  cases op with
  | imm imm5 rm rd => exact bind Steady.state fun _ => bind (Steady.reg _) fun _ => thumbSet _ _ _ _ _
  | reg rm rd =>
    exact bind Steady.state fun _ => bind (Steady.reg _) fun _ => bind (Steady.reg _) fun _ => thumbSet _ _ _ _ _

theorem thumbAddSub (op : DpOp) (form : ThumbAddSub) : M.Sound (Machine.thumbAddSub op form) := by
  cases form with
  | reg rm rn rd => exact bind (Steady.reg _) fun _ => bind (Steady.reg _) fun _ => thumbSet _ _ _ _ _
  | imm3 imm3 rn rd => exact bind (Steady.reg _) fun _ => thumbSet _ _ _ _ _
  | imm8 rd imm8 => exact bind (Steady.reg _) fun _ => thumbSet _ _ _ _ _

theorem sumOfTwo (a b : Reg) : M.Steady (do
    let x ← reg a
    let y ← reg b
    pure (x + y)) := Steady.bind (Steady.reg _) fun _ => Steady.bind (Steady.reg _) fun _ => Steady.pure _

theorem sumWith (r : Reg) (off : Word) : M.Steady (do
    let x ← reg r
    pure (x + off)) := Steady.bind (Steady.reg _) fun _ => Steady.pure _

theorem thumbPcBase : M.Steady Machine.thumbPcBase := Steady.bind Steady.state fun _ => Steady.pure _

theorem thumbAddress (k : Nat) (a : ThumbAddress) : M.Steady (Machine.thumbAddress k a) := by
  cases a with
  | reg rm rn => exact sumOfTwo _ _
  | imm imm5 rn => exact sumWith _ _

theorem thumbStoreAddress (a : ThumbStoreAddress) : M.Steady (Machine.thumbStoreAddress a) := by
  cases a with
  | reg rm rn => exact sumOfTwo _ _
  | imm imm5 rn => exact sumWith _ _
  | sp imm8 => exact sumWith _ _

theorem thumbLoadAddress (a : ThumbLoadAddress) : M.Steady (Machine.thumbLoadAddress a) := by
  cases a with
  | pc imm8 => exact Steady.bind thumbPcBase fun _ => Steady.pure _
  | reg rm rn => exact sumOfTwo _ _
  | imm imm5 rn => exact sumWith _ _
  | sp imm8 => exact sumWith _ _

theorem thumbLoad {address : M Word} {load : Word → Bool → M Word} (h : M.Steady address)
    (hl : ∀ a u, M.Steady (load a u)) (rd : LowReg) : M.Sound (Machine.thumbLoad address load rd) :=
  bind h fun _ => bind Steady.asUser fun _ => bind (hl _ _) fun _ => setReg_next _ _

theorem thumbStore {address : M Word} (h : M.Steady address) (n : Nat) (rd : LowReg) :
    M.Sound (Machine.thumbStore address n rd) :=
  bind h fun _ => bind (Steady.reg _) fun _ => bind Steady.asUser fun _ =>
    bind (Quiet.memWrite _ _ _ _).steady fun _ => next

theorem push (r : Bool) (regs : BitVec 8) : M.Sound (do
    allowed (r || regs != 0)
    let rs := listWith r 14 regs
    let s ← M.state
    let values ← M.each reg rs
    storeMultiple true false 13 rs values
    Machine.setReg 13 (multipleEnd false (s.readReg 13) rs.length)
    Machine.next) :=
  bind (Steady.allowed _) fun _ => bind Steady.state fun _ => bind (Steady.each Steady.reg _) fun _ =>
    bind (Steady.storeMultiple _ _ _ _ _) fun _ => setReg_next _ _

theorem pop (r : Bool) (regs : BitVec 8) : M.Sound (do
    allowed (r || regs != 0)
    let rs := listWith r 15 regs
    let s ← M.state
    if r then markPcLoad 15 else pure ()
    let vs ← loadMultiple Machine.setReg (keepsBase 13) false true 13 rs
    writeRegisters Machine.setReg (vs.filter (·.1 != 15))
    Machine.setReg 13 (multipleEnd true (s.readReg 13) rs.length)
    if r then Machine.writePcInterworking (pcValue vs) else Machine.next) :=
  bind (Steady.allowed _) fun _ => bind Steady.state fun _ => optional (Steady.markPcLoad _) fun _ =>
    bind (Steady.loadMultiple Steady.setReg _ _ _ _ _) fun _ => bind (Steady.writeRegisters Steady.setReg _) fun _ =>
      bind (Steady.setReg _ _) fun _ => ite (writePcInterworking _) next

end Sound

/-! ## Instructions: the invariant after each outcome -/

/-- The state of a step that has a successor has the invariant. -/
def NextInv : Outcome → Prop
  | .next t => t.Inv
  | .fault _ => True
  | .refused _ => True

section Running
variable {s : State} {m : M Unit}

/-- The end of a body: its abort or Undefined Instruction is taken from a state that has the invariant. -/
theorem finish_inv (h : Kept (m s)) : NextInv (finish m s) := by
  unfold finish
  cases e : m s with
  | ok u t =>
    rw [e] at h
    exact h
  | error x t =>
    rw [e] at h
    cases x with
    | abort a => exact dataAbort_inv h a
    | undefined =>
      dsimp only
      split
      · trivial
      · exact takeException_inv h.memory _ _
    | refuse r => trivial
    | reset => exact withFlow_inv h _

variable (hs : s.Inv) (h : M.Sound m)
include hs h

theorem runIf_inv (c : Cond) : NextInv (runIf c m s) := by
  unfold runIf
  split
  · exact finish_inv (h s hs)
  · exact advance_inv hs

theorem runBranch_inv (c : Cond) (notTaken : Flow) : NextInv (runBranch c notTaken m s) := by
  unfold runBranch
  split
  · exact finish_inv (h s hs)
  · exact withFlow_inv (advance_inv hs) _

theorem runToPc_inv (toPc : Bool) (c : Cond) : NextInv (runToPc toPc c m s) := by
  unfold runToPc
  split
  · exact runBranch_inv hs h c _
  · exact runIf_inv hs h c

end Running

section Templates
theorem withTop_steady (v : Word) : M.Steady (M.update (·.mapCpsr (·.withTop v))) :=
  Sound.setFlags (fun _ => rfl) fun _ => rfl

variable {s : State} (hs : s.Inv)
include hs

theorem systemWrite_inv {effect : Word → M Unit} (h : ∀ v, M.Steady (effect v)) (c : Cond) (rd : Reg) :
    NextInv (systemWrite c rd effect s) :=
  runIf_inv hs (Sound.bind Steady.privilegedOnly fun _ => Sound.bind (Steady.allowed _) fun _ =>
    Sound.bind (Steady.reg _) fun v => Sound.bind (h v) fun _ => Sound.next) c

theorem userWrite_inv {effect : Word → M Unit} (h : ∀ v, M.Steady (effect v)) (c : Cond) (rd : Reg) :
    NextInv (userWrite c rd effect s) :=
  runIf_inv hs (Sound.bind (Steady.allowed _) fun _ => Sound.bind (Steady.reg _) fun v => Sound.bind (h v) fun _ =>
    Sound.next) c

theorem systemRead_inv {value : M Word} (h : M.Steady value) (c : Cond) (rd : Reg) :
    NextInv (systemRead c rd value s) :=
  runIf_inv hs (Sound.bind Steady.privilegedOnly fun _ => Sound.bind (Steady.allowed _) fun _ => Sound.bind h fun _ =>
    Sound.setReg_next _ _) c

theorem flagRead_inv {value : M Word} (h : M.Steady value) (c : Cond) (rd : Reg) : NextInv (flagRead c rd value s) :=
  runIf_inv hs (Sound.bind Steady.privilegedOnly fun _ => Sound.bind h fun _ =>
    Sound.ite (Sound.bind (withTop_steady _) fun _ => Sound.next) (Sound.setReg_next _ _)) c

end Templates

/-! ### The bodies written out in an instruction -/

namespace Sound

theorem cdpBody (cp : BitVec 4) : M.Sound (do
    if cp = 0 then cp0Access
    else if cp = 7 then M.stop .undefined
    else asspAccess cp
    Machine.next) :=
  ite (bind Steady.cp0Access fun _ => next) (ite (bind (Steady.stop _) fun _ => next)
    (bind (Steady.asspAccess _) fun _ => next))

theorem mcrBody (opc1 : BitVec 3) (crn : BitVec 4) (rd : Reg) (cp : BitVec 4) (opc2 : BitVec 3) (crm : BitVec 4) :
    M.Sound (do
      if cp = 0 then do
        cp0Access
        Machine.next
      else if cp = 15 then do
        privilegedOnly
        M.require (identification opc1 crn crm opc2) .unlistedRegister
        allowed (notPc [rd])
        Machine.next
      else if cp = 14 then do
        privilegedOnly
        allowed (notPc [rd])
        Machine.unlistedDebugWrite opc1 crn crm opc2
      else if cp = 7 then do
        privilegedOnly
        M.require (crm != 2) .unlistedRegister
        asspAccess cp
        allowed (notPc [rd])
        Machine.next
      else do
        asspAccess cp
        let _ ← reg rd
        Machine.next) :=
  ite (bind Steady.cp0Access fun _ => next)
    (ite (bind Steady.privilegedOnly fun _ => bind (Steady.require _ _) fun _ => restricted next)
      (ite (bind Steady.privilegedOnly fun _ => restricted (unlistedDebugWrite _ _ _ _))
        (ite (bind Steady.privilegedOnly fun _ => bind (Steady.require _ _) fun _ => bind (Steady.asspAccess _) fun _ =>
            restricted next)
          (bind (Steady.asspAccess _) fun _ => bind (Steady.reg _) fun _ => next))))

/-- An access to the ASSP and the word it answers. -/
theorem wordBody {m : M Unit} (h : M.Steady m) (rd : Reg) : M.Sound (do
    m
    asspWord rd
    Machine.next) := bind h fun _ => bind (Steady.asspWord _) fun _ => next

theorem mrcBody (opc1 : BitVec 3) (crn : BitVec 4) (rd : Reg) (cp : BitVec 4) (opc2 : BitVec 3) (crm : BitVec 4) :
    M.Sound (do
      if cp = 0 then do
        cp0Access
        asspWord rd
        Machine.next
      else if cp = 15 then do
        privilegedOnly
        M.refuse .unlistedRegister
      else if cp = 14 then do
        privilegedOnly
        M.refuse (if opc1 == 0 && crn == 8 && crm == 0 && opc2 == 0 then .txRead else .unlistedRegister)
      else do
        if cp = 7 then do
          privilegedOnly
          M.require (crm != 2) .unlistedRegister
        else pure ()
        asspAccess cp
        asspWord rd
        Machine.next) :=
  ite (wordBody Steady.cp0Access rd)
    (ite (bind Steady.privilegedOnly fun _ => refuse _)
      (ite (bind Steady.privilegedOnly fun _ => refuse _)
        (ite (bind Steady.privilegedOnly fun _ => bind (Steady.require _ _) fun _ => wordBody (Steady.asspAccess _) rd)
          (wordBody (Steady.asspAccess _) rd))))

theorem mcrrBody (rn rd : Reg) (cp : BitVec 4) : M.Sound (do
    if cp = 0 then cp0Access else asspAccess cp
    allowed (notPc [rn, rd])
    let _ ← reg rd
    let _ ← reg rn
    Machine.next) := by
  have last : ∀ u : Unit, M.Sound (do
      allowed (notPc [rn, rd])
      let _ ← reg rd
      let _ ← reg rn
      Machine.next) := fun _ => readTwo fun _ _ => next
  exact ite (bind Steady.cp0Access last) (bind (Steady.asspAccess _) last)

theorem mrrcBody (rn rd : Reg) (cp : BitVec 4) : M.Sound (do
    if cp = 0 then cp0Access else asspAccess cp
    asspPair rn rd
    Machine.next) := by
  have last : ∀ u : Unit, M.Sound (do asspPair rn rd; Machine.next) := fun _ => bind (Steady.asspPair _ _) fun _ => next
  exact ite (bind Steady.cp0Access last) (bind (Steady.asspAccess _) last)

theorem marBody (rdHi rdLo : Reg) (acc : BitVec 3) : M.Sound (if acc != 0 then do
    cp0Access
    Machine.next
  else do
    accumulatorAccess
    allowed (notPc [rdHi, rdLo])
    let hi ← reg rdHi
    let lo ← reg rdLo
    M.update (·.setAcc0 (hi.extractLsb' 0 8 ++ lo))
    Machine.next) :=
  ite (bind Steady.cp0Access fun _ => next)
    (bind Steady.accumulatorAccess fun _ => readTwo fun _ _ => bind (Steady.setAcc0 _) fun _ => next)

theorem mraBody (rdHi rdLo : Reg) (acc : BitVec 3) : M.Sound (if acc != 0 then do
    cp0Access
    asspPair rdHi rdLo
    Machine.next
  else do
    accumulatorAccess
    allowed (notPc [rdHi, rdLo] && rdHi != rdLo)
    let s ← M.state
    Machine.setReg rdLo (s.acc0.extractLsb' 0 32)
    Machine.setReg rdHi ((s.acc0.extractLsb' 32 8).signExtend 32)
    Machine.next) :=
  ite (bind Steady.cp0Access fun _ => bind (Steady.asspPair _ _) fun _ => next)
    (bind Steady.accumulatorAccess fun _ => restricted (bind Steady.state fun _ => bind (Steady.setReg _ _) fun _ =>
      setReg_next _ _))

theorem ldcDebugBody (p u w : Bool) (rn : Reg) (crd : BitVec 4) (off8 : BitVec 8) : M.Sound (do
    privilegedOnly
    allowed (!w || rn != 15)
    match debugRegisterWrite crd with
    | none => M.refuse .coprocTransferUnlisted
    | some write => do
      let (a, ea) ← coprocAddress p u rn off8
      let v ← memRead a 4 false
      write v
      writeBack w rn ea
      Machine.next) := by
  refine bind Steady.privilegedOnly fun _ => restricted ?_
  cases e : debugRegisterWrite crd with
  | none => exact refuse _
  | some write =>
    exact bind (Steady.coprocAddress _ _ _ _) fun (_, _) => bind (Quiet.memRead _ _ _).steady fun v =>
      bind (Steady.debugRegisterWrite e v) fun _ => bind (Steady.writeBack _ _ _) fun _ => next

theorem stcDebugBody (p u w : Bool) (rn : Reg) (crd : BitVec 4) (off8 : BitVec 8) : M.Sound (do
    privilegedOnly
    allowed (!w || rn != 15)
    match debugRegisterRead crd with
    | none => M.refuse .coprocTransferUnlisted
    | some read => do
      let (a, ea) ← coprocAddress p u rn off8
      let l ← locate a 4 .write false
      let v ← read
      dWrite l.mva l.pa l.attr 4 v
      writeBack w rn ea
      Machine.next) := by
  refine bind Steady.privilegedOnly fun _ => restricted ?_
  cases e : debugRegisterRead crd with
  | none => exact refuse _
  | some read =>
    exact bind (Steady.coprocAddress _ _ _ _) fun (_, _) => bind (Quiet.locate _ _ _ _).steady fun _ =>
      bind (Steady.debugRegisterRead e) fun _ => bind (Quiet.dWrite _ _ _ _ _).steady fun _ =>
        bind (Steady.writeBack _ _ _) fun _ => next

/-- A branch to a register, bit 0 the T bit, after the link where there is one. -/
theorem exchangeBody {ok : Bool} {link : M Unit} (h : M.Steady link) (rm : Reg) : M.Sound (do
    allowed ok
    let target ← reg rm
    link
    Machine.writePcInterworking target) :=
  restricted (bind (Steady.reg _) fun _ => bind h fun _ => writePcInterworking _)


end Sound

/-! ## Every instruction keeps the invariant -/

/-- The instructions whose target is a halfword address, so that they are in place in Thumb state only. -/
def needsThumb : Instr → Bool
  | .tAddHi .. | .tMovHi .. | .tBCond .. | .tB .. | .tBlSuffix .. => true
  | _ => false

section Halfwords
variable {s : State} (hs : s.Inv) (ht : s.cpsr.t = true)
include hs ht

theorem addHigh_inv (h1 h2 : Bool) (rm rd : LowReg) : NextInv (execTAddHi h1 h2 rm rd s) :=
  finish_inv (kept_bind (Steady.allowed _) hs fun _ _ ha hsa => kept_bind (Steady.reg _) hsa fun _ _ hb hsb =>
    kept_bind (Steady.reg _) hsb fun _ _ hc hsc =>
      Sound.thumbHigh hsc ((hc.thumb.trans (hb.thumb.trans ha.thumb)).trans ht) _ _)

theorem moveHigh_inv (h1 h2 : Bool) (rm rd : LowReg) : NextInv (execTMovHi h1 h2 rm rd s) :=
  finish_inv (kept_bind (Steady.allowed _) hs fun _ _ ha hsa => kept_bind (Steady.reg _) hsa fun _ _ hb hsb =>
    Sound.thumbHigh hsb ((hb.thumb.trans ha.thumb).trans ht) _ _)

end Halfwords

/-- Two registers and the flags of an operation on them. -/
theorem Sound.compareTwo (op : DpOp) (a b : Reg) : M.Sound (do
    let x ← reg a
    let y ← reg b
    Machine.thumbFlags op x y) :=
  bind (Steady.reg _) fun _ => bind (Steady.reg _) fun _ => thumbFlags _ _ _

theorem Sound.linkPrefix (imm11 : BitVec 11) : M.Sound (do
    M.update fun s => s.writeReg 14 (s.pc + 4 + (imm11.signExtend 32 <<< 12))
    Machine.next) :=
  bind (Steady.setRegs _) fun _ => next

/-- Every instruction keeps the invariant, the branches to halfwords in Thumb state. -/
theorem exec_inv (i : Instr) {s : State} (hs : s.Inv) (ht : needsThumb i = true → s.cpsr.t = true) :
    NextInv (exec i s) := by
  have runs : ∀ {m : M Unit} (c : Cond), M.Sound m → NextInv (runIf c m s) := fun c h => runIf_inv hs h c
  have ends : ∀ {m : M Unit}, M.Sound m → NextInv (finish m s) := fun h => finish_inv (h s hs)
  have reads : ∀ {v : M Word} (c : Cond) (rd : Reg), M.Steady v → NextInv (systemRead c rd v s) :=
    fun c rd h => systemRead_inv hs h c rd
  have flags : ∀ {v : M Word} (c : Cond) (rd : Reg), M.Steady v → NextInv (flagRead c rd v s) :=
    fun c rd h => flagRead_inv hs h c rd
  have writes : ∀ {f : Word → M Unit} (c : Cond) (rd : Reg), (∀ v, M.Steady (f v)) → NextInv (systemWrite c rd f s) :=
    fun c rd h => systemWrite_inv hs h c rd
  cases i
  -- Data processing
  case and | eor | sub | rsb | add | adc | sbc | rsc | orr | bic => exact runToPc_inv hs (Sound.dataTwo _ _ _ _ _) _ _
  case mov | mvn => exact runToPc_inv hs (Sound.dataMove _ _ _ _ _) _ _
  case tst | teq | cmp | cmn => exact runs _ (Sound.dataCompare _ _ _ _)
  case clz => exact runs _ (Sound.restricted (Sound.bind (Steady.reg _) fun _ => Sound.setReg_next _ _))
  -- Multiplication and CP0
  case mul => exact runs _ (Sound.readTwo fun _ _ => Sound.multiplyWord _ _ _)
  case smulxy | smulwy => exact runs _ (Sound.readTwo fun _ _ => Sound.setReg_next _ _)
  case umull | umlal | smull | smlal => exact runs _ (Sound.longMultiply _ _ _ _ _ _ _)
  case qadd | qsub | qdadd | qdsub => exact runs _ (Sound.saturating _ _ _ _ _ _)
  case mla => exact runs _ (Sound.readThree fun _ _ _ => Sound.multiplyWord _ _ _)
  case smlaxy | smlawy => exact runs _ (Sound.readThree fun _ _ _ => Sound.writeSticky _ _ _)
  case smlalxy =>
    exact runs _ (Sound.readTwo fun _ _ => Sound.bind (Steady.reg _) fun _ => Sound.bind (Steady.reg _) fun _ =>
      Sound.multiplyLong _ _ _ _)
  case mia | miaph | miabb | miabt | miatb | miatt => exact runs _ (Sound.accumulate _ _ _ _)
  case mar => exact runs _ (Sound.marBody _ _ _)
  case mra => exact runs _ (Sound.mraBody _ _ _)
  -- Loads and stores
  case ldr =>
    exact runToPc_inv hs (Sound.restricted (Sound.ite (Sound.loadPc (Steady.offsetTwo _) _ _ _ _)
      (Sound.loadRegister Steady.loadWord Steady.asUser (Steady.offsetTwo _) _ _ _ _ _))) _ _
  case ldrb =>
    exact runs _ (Sound.restricted (Sound.loadRegister Steady.loadByte Steady.asUser (Steady.offsetTwo _) _ _ _ _ _))
  case ldrt =>
    exact runs _ (Sound.restricted (Sound.loadRegister Steady.loadWord (Steady.pure _) (Steady.offsetTwo _) _ _ _ _ _))
  case ldrbt =>
    exact runs _ (Sound.restricted (Sound.loadRegister Steady.loadByte (Steady.pure _) (Steady.offsetTwo _) _ _ _ _ _))
  case str | strb =>
    exact runs _ (Sound.restricted (Sound.storeRegister _ Steady.asUser (Steady.offsetTwo _) _ _ _ _ _))
  case strt | strbt =>
    exact runs _ (Sound.restricted (Sound.storeRegister _ (Steady.pure _) (Steady.offsetTwo _) _ _ _ _ _))
  case ldrh =>
    exact runs _ (Sound.restricted (Sound.loadRegister Steady.loadHalf Steady.asUser (Steady.offsetThree _) _ _ _ _ _))
  case ldrsh =>
    exact runs _ (Sound.restricted
      (Sound.loadRegister Steady.loadSignedHalf Steady.asUser (Steady.offsetThree _) _ _ _ _ _))
  case ldrsb =>
    exact runs _ (Sound.restricted
      (Sound.loadRegister Steady.loadSignedByte Steady.asUser (Steady.offsetThree _) _ _ _ _ _))
  case strh =>
    exact runs _ (Sound.restricted (Sound.storeRegister _ Steady.asUser (Steady.offsetThree _) _ _ _ _ _))
  case ldrd => exact runs _ (Sound.loadDouble _ _ _ _ _ _)
  case strd => exact runs _ (Sound.storeDouble _ _ _ _ _ _)
  case pld => exact ends (Sound.preload _ _ _)
  case ldm => exact runToPc_inv hs (Sound.restricted (Sound.loadMany _ _ _ _ _)) _ _
  case ldmReturn => exact runToPc_inv hs (Sound.restricted (Sound.loadReturn _ _ _ _ _)) true _
  case ldmUser => exact runs _ (Sound.restricted (Sound.loadUser _ _ _ _))
  case stm => exact runs _ (Sound.restricted (Sound.storeMany _ _ _ _ _))
  case stmUser => exact runs _ (Sound.restricted (Sound.storeUser _ _ _ _))
  case swp | swpb => exact runs _ (Sound.swapBody _ _ _ _ _ _)
  -- Branches, status registers and exceptions
  case b => exact runBranch_inv hs (Sound.branch _) _ _
  case bl => exact runBranch_inv hs (Sound.branchLink _) _ _
  case blxImm => exact ends (Sound.branchLinkExchange _ _)
  case blxReg => exact runBranch_inv hs (Sound.exchangeBody Sound.linkArm _) _ _
  case bx => exact runBranch_inv hs (Sound.restricted (Sound.bind (Steady.reg _) fun _ => Sound.writePcInterworking _)) _ _
  case mrs => exact runs _ (Sound.restricted (Sound.readStatus _ _))
  case msrImm => exact runs _ (Sound.restricted (Sound.writeStatus _ _ _))
  case msrReg => exact runs _ (Sound.restricted (Sound.bind (Steady.reg _) fun _ => Sound.writeStatus _ _ _))
  case swi => exact runs _ Sound.raiseSwi
  case bkpt | tBkpt => exact ends Sound.breakpointBody
  case undefinedSpace => exact runs _ (Steady.stop _).sound
  -- Generic coprocessor instructions
  case cdp => exact runs _ (Sound.cdpBody _)
  case mcr => exact runs _ (Sound.mcrBody _ _ _ _ _ _)
  case mrc => exact runs _ (Sound.mrcBody _ _ _ _ _ _)
  case ldc => exact runs _ (Sound.foreignLoad _ _ _ _ _ _)
  case stc => exact runs _ (Sound.foreignStore _ _ _ _ _ _)
  case mcrr => exact runs _ (Sound.mcrrBody _ _ _)
  case mrrc => exact runs _ (Sound.mrrcBody _ _ _)
  case cdp2 => exact ends (Sound.bind (Steady.secondAccess _) fun _ => Sound.next)
  case mcr2 =>
    exact ends (Sound.bind (Steady.secondAccess _) fun _ => Sound.bind (Steady.reg _) fun _ => Sound.next)
  case mrc2 => exact ends (Sound.wordBody (Steady.secondAccess _) _)
  case ldc2 => exact ends (Sound.foreignLoad _ _ _ _ _ _)
  case stc2 => exact ends (Sound.foreignStore _ _ _ _ _ _)
  case ldcP14 => exact runs _ (Sound.ldcDebugBody _ _ _ _ _ _)
  case stcP14 => exact runs _ (Sound.stcDebugBody _ _ _ _ _ _)
  -- CP15 registers
  case mrcMainId | mrcDacr | mrcFar | mrcPid | mrcIbr0 | mrcIbr1 | mrcDbr0 | mrcDbr1 =>
    exact reads _ _ (Steady.plainRead _)
  case mrcL2Id => exact reads _ _ (Steady.anyBits _ _)
  case mrcCacheType => exact reads _ _ (Steady.pure _)
  case mrcL2CacheType => exact reads _ _ Steady.readL2CacheType
  case mrcControl => exact reads _ _ Steady.readControl
  case mrcAuxControl => exact reads _ _ Steady.readAuxControl
  case mrcTtBase => exact reads _ _ Steady.readTtBase
  case mrcFsr => exact reads _ _ Steady.readFsr
  case mrcDcLock | mrcDcLockLegacy => exact reads _ _ Steady.readDcLock
  case mrcDbcon => exact reads _ _ Steady.readDbcon
  case mrcCpar => exact reads _ _ Steady.readCpar
  case mcrControl => exact writes _ _ Steady.writeControl
  case mcrAuxControl => exact writes _ _ Steady.writeAuxControl
  case mcrTtBase => exact writes _ _ Steady.writeTtBase
  case mcrDacr | mcrFar => exact writes _ _ fun _ => Steady.setCp15 _
  case mcrFsr => exact writes _ _ Steady.writeFsr
  case mcrDcLock | mcrDcLockLegacy => exact writes _ _ Steady.writeDcLock
  case mcrPid => exact writes _ _ Steady.writePid
  case mcrIbr0 | mcrIbr1 => exact writes _ _ (Steady.writeIbr _)
  case mcrDbr0 => exact writes _ _ fun v => Steady.breakpointWrite (Steady.writeDbr0 v)
  case mcrDbr1 => exact writes _ _ fun v => Steady.breakpointWrite (Steady.writeDbr1 v)
  case mcrDbcon => exact writes _ _ fun v => Steady.breakpointWrite (Steady.writeDbcon v)
  case mcrCpar => exact writes _ _ Steady.writeCpar
  -- Cache, TLB and lock functions
  case invIcacheBtb => exact writes _ _ fun _ => Steady.invalidateI
  case invBtb => exact writes _ _ fun _ => Steady.setCaches _
  case invIcacheLine => exact writes _ _ Steady.invalidateILine
  case invDcache => exact writes _ _ fun _ => Steady.bind Steady.dFunction fun _ => Steady.invalidateD
  case invCachesBtb => exact writes _ _ fun _ => Steady.bind Steady.dFunction fun _ => Steady.invalidateBoth
  case invDcacheLine => exact writes _ _ fun v => Steady.dByMva v fun _ _ _ => Steady.setCaches _
  case cleanDcacheMva => exact writes _ _ fun v => Steady.dByMva v Steady.dClean
  case cleanDcacheSetWay => exact writes _ _ fun v => Steady.dBySetWay v Steady.dClean
  case cleanInvDcacheMva => exact writes _ _ fun v => Steady.dByMva v Steady.dCleanDrop
  case cleanInvDcacheSetWay => exact writes _ _ fun v => Steady.dBySetWay v Steady.dCleanDrop
  case prefetchFlush => exact userWrite_inv hs (fun _ => Steady.setCaches _) _ _
  case dataWriteBarrier | dataMemoryBarrier => exact userWrite_inv hs (fun _ => Quiet.barrier.steady) _ _
  case allocDcacheLine => exact userWrite_inv hs Steady.allocateLine _ _
  case invL2Mva => exact writes _ _ fun v => Steady.l2Function (Steady.l2ByMva v Steady.l2Invalidate)
  case cleanL2Mva => exact writes _ _ fun v => Steady.l2Function (Steady.l2ByMva v Steady.l2Clean)
  case cleanL2SetWay => exact writes _ _ fun v => Steady.l2Function (Steady.l2BySetWay v Steady.l2CleanOut)
  case cleanInvL2SetWay => exact writes _ _ fun v => Steady.l2Function (Steady.l2BySetWay v Steady.l2CleanDrop)
  case lockL2Line => exact writes _ _ fun v => Steady.l2Function (Steady.l2Lock v Steady.fetchToLock)
  case allocLockL2Line => exact writes _ _ fun v => Steady.l2Function (Steady.l2Lock v Steady.allocateToLock)
  case unlockL2 => exact writes _ _ fun _ => Steady.l2Function (Steady.setCaches _)
  case invTlbs | invItlb | invDtlb => exact writes _ _ fun _ => Steady.setTlbs _
  case invItlbEntry | invDtlbEntry =>
    exact writes _ _ fun _ => Steady.bind Steady.state fun _ => Steady.bind (Steady.require _ _) fun _ => Steady.setTlbs _
  case lockItlbEntry | lockDtlbEntry =>
    exact writes _ _ fun _ => Steady.bind Steady.state fun _ => Steady.bind (Steady.walkToLock _ _) fun _ =>
      Steady.setTlbs _
  case unlockItlb | unlockDtlb => exact writes _ _ fun _ => Steady.bind Steady.tlbLockable fun _ => Steady.setTlbs _
  case lockIcacheLine | lockIcacheLineLegacy => exact writes _ _ Steady.lockILine
  case unlockIcache | unlockIcacheLegacy => exact writes _ _ fun _ => Steady.unlockILines
  case unlockDcache | unlockDcacheLegacy => exact writes _ _ fun _ => Steady.unlockDLines
  -- CP14 and CP7 registers
  case mrcCcnt | mrcEvtsel | mrcPmn0 | mrcPmn1 | mrcPmn2 | mrcPmn3 | mrcErradrl =>
    exact flags _ _ (Steady.plainRead _)
  case mrcPmnc => exact flags _ _ Steady.readPmnc
  case mrcInten | mrcFlag => exact flags _ _ (Steady.readFive _)
  case mrcPwrmode | mrcErradru => exact flags _ _ (Steady.readFour _)
  case mrcCclkcfg => exact flags _ _ Steady.readCclkcfg
  case mrcRx => exact flags _ _ Steady.readRx
  case mrcDcsr => exact flags _ _ Steady.readDcsr
  case mrcTbreg => exact flags _ _ Steady.readTbreg
  case mrcChkpt0 | mrcChkpt1 => exact flags _ _ (Steady.readChkpt _)
  case mrcTxrxctrl => exact flags _ _ Steady.readTxrxctrl
  case mrcErrlog => exact flags _ _ Steady.readErrlog
  case mcrPmnc => exact writes _ _ Steady.writePmnc
  case mcrCcnt => exact writes _ _ Steady.writeCcnt
  case mcrInten => exact writes _ _ Steady.writeInten
  case mcrFlag => exact writes _ _ Steady.writeFlag
  case mcrEvtsel => exact writes _ _ Steady.writeEvtsel
  case mcrPmn0 | mcrPmn1 | mcrPmn2 | mcrPmn3 => exact writes _ _ (Steady.writePmn _)
  case mcrCclkcfg => exact writes _ _ Steady.writeCclkcfg
  case mcrPwrmode => exact writes _ _ Steady.writePwrmode
  case mcrTx => exact writes _ _ Steady.writeTx
  case mcrDcsr => exact writes _ _ Steady.writeDcsr
  case mcrChkpt0 | mcrChkpt1 => exact writes _ _ (Steady.writeChkpt _)
  case mcrTxrxctrl => exact writes _ _ Steady.writeTxrxctrl
  case mcrErrlog => exact writes _ _ Steady.writeErrlog
  case mcrErradrl => exact writes _ _ Steady.writeErradrl
  case mcrErradru => exact writes _ _ Steady.writeErradru
  -- Thumb instructions
  case tLsl | tLsr | tAsr => exact ends (Sound.thumbShift _ _)
  case tAdd | tSub => exact ends (Sound.thumbAddSub _ _)
  case tMovImm8 => exact ends (Sound.bind Steady.state fun _ => Sound.thumbSet _ _ _ _ _)
  case tCmp op =>
    refine ends ?_
    cases op with
    | imm8 rn imm8 => exact Sound.bind (Steady.reg _) fun _ => Sound.thumbFlags _ _ _
    | reg rm rd => exact Sound.compareTwo _ _ _
  case tAnd | tEor | tAdc | tSbc | tOrr | tBic | tMvn => exact ends (Sound.thumbTwo _ _ _)
  case tRorReg =>
    exact ends (Sound.bind Steady.state fun _ => Sound.bind (Steady.reg _) fun _ => Sound.bind (Steady.reg _) fun _ =>
      Sound.thumbSet _ _ _ _ _)
  case tTst | tCmn => exact ends (Sound.compareTwo _ _ _)
  case tCmpHi => exact ends (Sound.restricted (Sound.compareTwo _ _ _))
  case tNeg => exact ends (Sound.bind (Steady.reg _) fun _ => Sound.thumbSet _ _ _ _ _)
  case tMul => exact ends (Sound.bind (Steady.reg _) fun _ => Sound.bind (Steady.reg _) fun _ => Sound.multiplyWord _ _ _)
  case tAddHi => exact addHigh_inv hs (ht rfl) _ _ _ _
  case tMovHi => exact moveHigh_inv hs (ht rfl) _ _ _ _
  case tBx => exact ends (Sound.restricted (Sound.bind (Steady.reg _) fun _ => Sound.writePcInterworking _))
  case tBlxReg => exact ends (Sound.exchangeBody Sound.linkThumb _)
  case tLdr => exact ends (Sound.thumbLoad (Sound.thumbLoadAddress _) Steady.loadWord _)
  case tLdrh => exact ends (Sound.thumbLoad (Sound.thumbAddress _ _) Steady.loadHalf _)
  case tLdrb => exact ends (Sound.thumbLoad (Sound.thumbAddress _ _) Steady.loadByte _)
  case tLdrsbReg => exact ends (Sound.thumbLoad (Sound.thumbAddress _ _) Steady.loadSignedByte _)
  case tLdrshReg => exact ends (Sound.thumbLoad (Sound.thumbAddress _ _) Steady.loadSignedHalf _)
  case tStr => exact ends (Sound.thumbStore (Sound.thumbStoreAddress _) _ _)
  case tStrh | tStrb => exact ends (Sound.thumbStore (Sound.thumbAddress _ _) _ _)
  case tAddPc => exact ends (Sound.bind Sound.thumbPcBase fun _ => Sound.setReg_next _ _)
  case tAddSp | tIncSp | tDecSp => exact ends (Sound.bind (Steady.reg _) fun _ => Sound.setReg_next _ _)
  case tPush => exact ends (Sound.push _ _)
  case tPop => exact ends (Sound.pop _ _)
  case tStmia => exact ends (Sound.restricted (Sound.storeMany _ _ _ _ _))
  case tLdmia => exact ends (Sound.restricted (Sound.loadMany _ _ _ _ _))
  case tBCond => exact finish_inv (Sound.thumbBranchIf hs (ht rfl) _ _)
  case tUndefined => exact ends (Steady.stop .undefined).sound
  case tSwi => exact ends Sound.raiseSwi
  case tB => exact finish_inv (Sound.thumbBranch hs (ht rfl) _)
  case tBlxSuffix => exact ends (Sound.thumbExchange _)
  case tBlPrefix => exact ends (Sound.linkPrefix _)
  case tBlSuffix => exact finish_inv (Sound.thumbCall hs (ht rfl) _)

/-! ## An ARM word decodes to no instruction that needs Thumb state -/

def decodedNeedsThumb : Decoded → Bool
  | .instr i => needsThumb i
  | .rejected _ => false

/-- What a word decodes to may run in ARM state. -/
def RunsInArm (d : Decoded) : Prop := decodedNeedsThumb d = false

/-- A row of a table of instructions may run in ARM state. -/
def RowRunsInArm (o : Option Instr) : Prop := o.any needsThumb = false

theorem runsInArm_ite {c : Prop} [Decidable c] {d e : Decoded} (h : RunsInArm d) (k : RunsInArm e) :
    RunsInArm (if c then d else e) := by
  split
  · exact h
  · exact k

theorem rowRunsInArm_ite {c : Prop} [Decidable c] {o r : Option Instr} (h : RowRunsInArm o) (k : RowRunsInArm r) :
    RowRunsInArm (if c then o else r) := by
  split
  · exact h
  · exact k

theorem RowRunsInArm.instr {o : Option Instr} {i : Instr} (h : RowRunsInArm o) (e : o = some i) :
    RunsInArm (.instr i) := by
  subst e
  exact h

section Decoder
variable (c : Cond) (w : BitVec 32)

theorem mcrRow_runsInArm (k : BitVec 18) (rd : Reg) : RowRunsInArm (mcrRow k c rd) := by
  unfold mcrRow
  repeat refine rowRunsInArm_ite rfl ?_
  rfl

theorem mrcRow_runsInArm (k : BitVec 18) (rd : Reg) : RowRunsInArm (mrcRow k c rd) := by
  unfold mrcRow
  repeat refine rowRunsInArm_ite rfl ?_
  rfl

theorem decodeDpImm_runsInArm : RunsInArm (decodeDpImm c w) := by
  unfold decodeDpImm
  repeat refine runsInArm_ite rfl ?_
  rfl

theorem decodeDpShiftImm_runsInArm : RunsInArm (decodeDpShiftImm c w) := by
  unfold decodeDpShiftImm
  repeat refine runsInArm_ite rfl ?_
  rfl

theorem decodeDpShiftReg_runsInArm : RunsInArm (decodeDpShiftReg c w) := by
  unfold decodeDpShiftReg
  repeat refine runsInArm_ite rfl ?_
  rfl

theorem decodeMisc_runsInArm : RunsInArm (decodeMisc c w) := by
  unfold decodeMisc
  repeat' apply runsInArm_ite
  all_goals rfl

theorem decodeMultiply_runsInArm : RunsInArm (decodeMultiply c w) := by
  unfold decodeMultiply
  repeat' apply runsInArm_ite
  all_goals rfl

theorem decodeHalfword_runsInArm : RunsInArm (decodeHalfword c w) := by
  unfold decodeHalfword
  repeat' apply runsInArm_ite
  all_goals rfl

theorem decodeClass0_runsInArm : RunsInArm (decodeClass0 c w) :=
  runsInArm_ite (runsInArm_ite (decodeMisc_runsInArm c w) (decodeDpShiftImm_runsInArm c w))
    (runsInArm_ite (runsInArm_ite (decodeMisc_runsInArm c w) (decodeDpShiftReg_runsInArm c w))
      (runsInArm_ite (decodeMultiply_runsInArm c w) (decodeHalfword_runsInArm c w)))

theorem decodeClass1_runsInArm : RunsInArm (decodeClass1 c w) :=
  runsInArm_ite (runsInArm_ite rfl rfl) (decodeDpImm_runsInArm c w)

theorem decodeClass2_runsInArm : RunsInArm (decodeClass2 c w) := by
  unfold decodeClass2
  repeat' apply runsInArm_ite
  all_goals rfl

theorem decodeClass3_runsInArm : RunsInArm (decodeClass3 c w) := by
  unfold decodeClass3
  repeat' apply runsInArm_ite
  all_goals rfl

theorem decodeClass4_runsInArm : RunsInArm (decodeClass4 c w) :=
  runsInArm_ite (runsInArm_ite rfl rfl) (runsInArm_ite rfl (runsInArm_ite rfl rfl))

theorem decodeClass5_runsInArm : RunsInArm (decodeClass5 c w) := runsInArm_ite rfl rfl

theorem decodeClass6_runsInArm : RunsInArm (decodeClass6 c w) := by
  unfold decodeClass6
  repeat' apply runsInArm_ite
  all_goals rfl

theorem decodeMrc_runsInArm : RunsInArm (decodeMrc c w) := by
  unfold decodeMrc
  split
  · rename_i i e
    exact (mrcRow_runsInArm c _ _).instr e
  · rfl

theorem decodeMcr_runsInArm : RunsInArm (decodeMcr c w) := by
  unfold decodeMcr
  refine runsInArm_ite ?_ ?_
  · repeat refine runsInArm_ite rfl ?_
    rfl
  · split
    · rename_i i e
      exact (mcrRow_runsInArm c _ _).instr e
    · rfl

theorem decodeClass7_runsInArm : RunsInArm (decodeClass7 c w) :=
  runsInArm_ite rfl (runsInArm_ite rfl (runsInArm_ite (decodeMrc_runsInArm c w) (decodeMcr_runsInArm c w)))

theorem decodeUnconditional_runsInArm : RunsInArm (decodeUnconditional w) := by
  unfold decodeUnconditional
  repeat' apply runsInArm_ite
  all_goals rfl

theorem decodeConditional_runsInArm : RunsInArm (decodeConditional c w) :=
  runsInArm_ite (decodeClass0_runsInArm c w) (runsInArm_ite (decodeClass1_runsInArm c w)
    (runsInArm_ite (decodeClass2_runsInArm c w) (runsInArm_ite (decodeClass3_runsInArm c w)
      (runsInArm_ite (decodeClass4_runsInArm c w) (runsInArm_ite (decodeClass5_runsInArm c w)
        (runsInArm_ite (decodeClass6_runsInArm c w) (decodeClass7_runsInArm c w)))))))

theorem decodeArm_runsInArm : RunsInArm (decodeArm w) := by
  unfold decodeArm
  split
  · exact decodeUnconditional_runsInArm w
  · exact decodeConditional_runsInArm _ w

end Decoder

/-! ## A step: the outside, an event or an instruction, the end of the step -/

/-! ### The fetch answers what the instruction set reads (20 R208) -/

/-- Every answer of an action has the property. -/
def M.Answers {α : Type} (P : α → Prop) (m : M α) : Prop := ∀ s a t, m s = .ok a t → P a

section Answers
variable {α β : Type} {P : β → Prop}

theorem answers_pure {b : β} (h : P b) : M.Answers P (pure b) := by
  intro s a t e
  cases e
  exact h

theorem answers_bind {m : M α} {f : α → M β} (h : ∀ a, M.Answers P (f a)) : M.Answers P (m >>= f) := by
  intro s b t e
  rw [M.bind_apply] at e
  cases em : m s with
  | ok a u =>
    rw [em] at e
    exact h a u b t e
  | error x u =>
    rw [em] at e
    cases e

end Answers

/-- A word is fetched in ARM state, a halfword in Thumb state. -/
def FetchedIn (thumb : Bool) : Fetched → Prop
  | .word _ => thumb = false
  | .half _ => thumb = true
  | .abort _ => True

theorem fetchedIn_choice (thumb : Bool) (h : Half) (w : Word) : FetchedIn thumb (if thumb then .half h else .word w) := by
  cases thumb with
  | true => rfl
  | false => rfl

theorem fetchSram_fetchedIn {s t : State} {x : Fetched} (e : fetchSram s = .ok x t) : FetchedIn s.cpsr.t x := by
  unfold fetchSram at e
  rw [M.bind_ok s (M.state_apply s)] at e
  exact answers_bind (fun _ => answers_pure (fetchedIn_choice _ _ _)) s x t e

theorem fetch_fetchedIn {s t : State} {x : Fetched} (e : fetch s = .ok x t) : FetchedIn s.cpsr.t x := by
  unfold fetch at e
  rw [M.bind_ok s (M.state_apply s)] at e
  split at e
  · exact fetchSram_fetchedIn e
  · refine answers_bind (P := FetchedIn s.cpsr.t) (fun r => ?_) s x t e
    split
    · exact answers_pure trivial
    · refine answers_bind fun l => ?_
      split
      · exact answers_pure trivial
      · exact answers_pure (fetchedIn_choice _ _ _)

/-! ### The end of a step -/

theorem Steady.btbUpdate (s t : State) (code : Word) : Machine.Steady t (t.btbUpdate s code) := by
  unfold State.btbUpdate
  split
  · dsimp only
    split
    · exact ⟨rfl, rfl, rfl, id⟩
    · exact choice ⟨rfl, rfl, rfl, id⟩ (same t)
  · exact same t

namespace Steady

theorem bufferTimer : M.Steady Machine.bufferTimer :=
  bind state fun _ => ite (pure _) (ite (setCaches _) Quiet.drainOldest.steady)

theorem countClocks : M.Steady Machine.countClocks := bind (draw _) fun _ => setPmu _

theorem countEvent (events : List (BitVec 8)) (i : Fin 4) : M.Steady (Machine.countEvent events i) :=
  bind state fun _ => ite (pure _) (ite (setPmu _) (bind (draw _) fun _ => setPmu _))

theorem countEvents (events : List (BitVec 8)) : M.Steady (Machine.countEvents events) :=
  bind state fun _ => ite (bind (each (countEvent events) _) fun _ => pure _) scramblePmu

theorem pmuRetire (before : Pmu) (events : List (BitVec 8)) : M.Steady (Machine.pmuRetire before events) :=
  bind state fun _ => ite (bind countClocks fun _ => ite (countEvents events) (pure _)) (pure _)

/-- An action that cannot stop changes what its body changes. -/
theorem runQuiet {m : M Unit} (h : M.Steady m) (s : State) : Machine.Steady s (Machine.runQuiet m s) := by
  unfold Machine.runQuiet
  cases e : m s with
  | ok u t => exact h.ok e
  | error x t => exact h.error e

theorem endStep (s : State) : Machine.Steady s s.endStep := ⟨rfl, rfl, rfl, id⟩

theorem afterEvent (s t : State) : Machine.Steady t (t.afterEvent s) :=
  steady_follows.trans (runQuiet (pmuRetire _ _) t) (endStep _)

theorem afterInstruction (s t : State) (code : Word) : Machine.Steady t (t.afterInstruction s code) := by
  have traced : ∀ u : State, Machine.Steady u (if s.tracing && u.tracing then u.traceRetire else u) :=
    fun u => choice (traceRetire u) (same u)
  have executed : ∀ u : State, Machine.Steady u (if u.run.flow = .exception then u.draw 1 else (1, u)).2 := by
    intro u
    split
    · exact ⟨rfl, rfl, rfl, id⟩
    · exact same u
  have trans : ∀ {a b c : State}, Machine.Steady a b → Machine.Steady b c → Machine.Steady a c := steady_follows.trans
  exact trans (btbUpdate s t code) (trans (traced _) (trans (runQuiet bufferTimer _) (trans (executed _)
    (trans (runQuiet (pmuRetire _ _) _) (endStep _)))))

end Steady

theorem retire_inv (s : State) (code : Word) {o : Outcome} (h : NextInv o) : NextInv (retire s code o) := by
  cases o with
  | next t =>
    unfold retire
    dsimp only
    split
    · trivial
    · exact (Steady.afterInstruction s t code).inv h
  | fault f => trivial
  | refused r => trivial

/-! ### An event, and the instruction at the pc -/

/-- The state that an event leads to, if there is one, has the invariant. -/
def SomeInv : Option State → Prop
  | some t => t.Inv
  | none => True

section Events
variable {s : State} (hs : s.Inv)
include hs

theorem takePendingAbort_inv (status : BitVec 5) : (s.takePendingAbort status).Inv := by
  unfold State.takePendingAbort
  split
  · have hfault := setFault_steady (s.mapExt ({ · with pendingAbort := none })) status none none
    exact ⟨hfault.memory hs.memory, hfault.mode ▸ hs.mode, (hfault.inv ⟨hs.memory, hs.mode, hs.pc⟩).pc⟩
  · exact impreciseAbort_inv hs.memory status

theorem debugBreak_inv : SomeInv s.debugBreak := by
  unfold State.debugBreak
  dsimp only
  split
  · exact debugEntry_inv hs.memory _ _ _
  split
  · exact debugEntryHalt_inv hs.memory _ _
  split
  · exact debugEntry_inv hs.memory _ _ _
  · trivial

theorem event_inv (deliver : Bool) : SomeInv (s.event deliver) := by
  unfold State.event
  split
  · refine debugEntry_inv ?_ _ _ _
    exact hs.memory
  split
  · exact takePendingAbort_inv hs _
  have hbreak := debugBreak_inv hs
  split
  · rename_i e
    rwa [e] at hbreak
  split
  · trivial
  split
  · exact takeException_inv hs.memory _ _
  split
  · exact takeException_inv hs.memory _ _
  · trivial

theorem execRejected_inv (x : DecodeError) (w : Word) : NextInv (execRejected x w s) := by
  have hstop : M.Sound (M.stop .undefined : M Unit) := (Steady.stop .undefined).sound
  unfold execRejected
  split
  · trivial
  split
  · exact runIf_inv hs hstop _
  · exact finish_inv (hstop s hs)

end Events

/-- The state that a boundary leaves has the invariant, and what it decoded may run in the state's instruction set. -/
def BoundaryInv : Boundary → Prop
  | .done o => NextInv o
  | .run d _ s => s.Inv ∧ (decodedNeedsThumb d = true → s.cpsr.t = true)

theorem reset_mode_pc : legalMode State.reset.cpsr.m = true ∧ State.reset.pcAligned :=
  ⟨rfl, alignedFor_of_mod_four rfl false⟩

section Boundary
variable {s : State} (hs : s.Inv)
include hs

theorem fetchInstruction_inv : BoundaryInv (fetchInstruction s) := by
  unfold fetchInstruction
  cases e : fetch s with
  | ok x t =>
    have hcore : SameCore s t := Quiet.fetch.ok e
    have ht : t.Inv := hcore.steady.inv hs
    have hkind : FetchedIn t.cpsr.t x := hcore.cpsr ▸ fetch_fetchedIn e
    cases x with
    | word w =>
      refine ⟨ht, fun h => ?_⟩
      rw [decodeArm_runsInArm w] at h
      cases h
    | half h => exact ⟨ht, fun _ => hkind⟩
    | abort status =>
      dsimp only
      split
      · trivial
      · exact (Steady.afterEvent s _).inv (prefetchAbort_inv ht.memory status)
  | error x t =>
    have ht : t.Inv := (Quiet.fetch.error e).steady.inv hs
    cases x with
    | refuse r => trivial
    | abort a => exact ht
    | undefined => exact ht
    | reset => exact ht

theorem eventsThenFetch_inv (deliver : Bool) : BoundaryInv (eventsThenFetch deliver s) := by
  have hevent := event_inv hs deliver
  unfold eventsThenFetch
  split
  · rename_i t e
    rw [e] at hevent
    exact (Steady.afterEvent s t).inv hevent
  split
  · exact (Steady.endStep s).inv hs
  split
  · exact (Steady.afterEvent s _).inv (debugEntry_inv hs.memory _ _ _)
  · exact fetchInstruction_inv ⟨hs.memory, hs.mode, hs.pc⟩

theorem leaveReset_inv : s.leaveReset.Inv := by
  unfold State.leaveReset
  dsimp only
  split
  · refine debugEntryHalt_inv ?_ _ _
    exact hs.memory
  · exact ⟨hs.memory, reset_mode_pc.1, reset_mode_pc.2⟩

theorem afterActions_inv : BoundaryInv (afterActions s) := by
  have hready : M.Steady becomeReady := Steady.bind Steady.state fun _ =>
    Steady.ite (Steady.bind (Steady.draw _) fun _ => Steady.setJtag _) (Steady.pure _)
  have hdeliver : M.Steady deliverNow := Steady.bind Steady.state fun _ =>
    Steady.ite (Steady.bind (Steady.draw _) fun _ => Steady.pure _) (Steady.pure _)
  have hboth := Steady.bind hready fun _ => hdeliver
  unfold afterActions
  split
  · exact (Steady.enterReset s).inv hs
  split
  · exact (Steady.endStep _).inv (leaveReset_inv hs)
  split
  · refine Steady.inv (Steady.choice ?_ (Steady.same s)) hs
    exact ⟨rfl, rfl, rfl, id⟩
  split
  · rename_i deliver t e
    exact eventsThenFetch_inv ((hboth.ok e).inv hs) deliver
  · rename_i x t e
    exact (hboth.error e).inv hs

theorem boundary_inv : BoundaryInv (boundary s) := by
  unfold boundary
  dsimp only
  split
  · trivial
  generalize (splitTick s.run.env).2 = later
  have hstart : (s.setRun { s.run with env := later }).Inv := ⟨hs.memory, hs.mode, hs.pc⟩
  have hactions := Steady.envActions (splitTick s.run.env).1
  split
  · rename_i u t e
    exact afterActions_inv ((hactions.ok e).inv hstart)
  · trivial
  · rename_i x t _ e
    exact (hactions.error e).inv hstart

end Boundary

theorem step_inv {s : State} (hs : s.Inv) : NextInv (step s) := by
  have hboundary := boundary_inv hs
  unfold step
  split
  · rename_i o e
    rwa [e] at hboundary
  · rename_i i w t e
    rw [e] at hboundary
    exact retire_inv t w (exec_inv i hboundary.1 hboundary.2)
  · rename_i x w t e
    rw [e] at hboundary
    exact retire_inv t w (execRejected_inv hboundary.1 x w)

end Sys2Proof.Machine

open Sys2Proof Sys2Proof.Machine

/-- Settles O59. What an instruction does before it leaves the pc keeps pc, mode and T bit (`Steady`); each way of leaving the pc,
each exception and each event then has its own lemma about the invariant, and a step is one of them between a boundary and the
end of the step, which are steady. The T bit matters: the Thumb branches to halfwords are decoded in Thumb state only. -/
theorem everyStepKeepsTheInvariant : Obligations.EveryStepKeepsTheInvariant := by
  intro s t hs e
  have hnext := step_inv hs
  rwa [e] at hnext
end

section
/-! # Writes of the plain CP15 registers (11 R77 to R133; 45 R698) -/

namespace Sys2Proof.Machine

section RegisterWrite
variable {s : State} {c : Cond} {rd : Reg}

/-- An ARM instruction is four bytes long. -/
theorem size_eq_four (h : s.RunsArm c) : s.size = 4 := by
  simp [State.size, h.arm]

/-- A write with bits that must be zero: the update, or the refusal of 93 U21. -/
theorem updateMasked_apply (v zero : Word) (f : State → State) :
    (do zeroBits v zero; M.update f : M Unit) s =
      if v &&& zero = 0 then .ok () (f s) else .error (.refuse .reservedBitWritten) s := by
  rw [M.bind_apply, zeroBits_apply]
  by_cases hz : v &&& zero = 0
  · rw [if_pos hz, if_pos hz]
    rfl
  · rw [if_neg hz, if_neg hz]

/-- An allowed MCR whose effect is a masked update: the update and the pc, or the refusal. -/
theorem systemWrite_updateMasked (h : s.RunsArm c) (hp : s.privileged = true) (h15 : rd ≠ 15) {effect : Word → M Unit}
    {zero : Word} {f : State → State}
    (e : effect (s.readReg rd) = do zeroBits (s.readReg rd) zero; M.update f) :
    systemWrite c rd effect s =
      if s.readReg rd &&& zero = 0 then .next (f s).advance else .refused .reservedBitWritten := by
  have happly := updateMasked_apply (s := s) (s.readReg rd) zero f
  rw [← e] at happly
  split
  · next hz => exact systemWrite_runs h hp h15 (happly.trans (if_pos hz))
  · next hz => exact systemWrite_refused h hp h15 (happly.trans (if_neg hz))

/-- An update of the CP15 registers and the caches leaves the pc and the instruction set, so the pc goes on by four bytes. -/
theorem advance_setCp15_setCaches (h : s.RunsArm c) (k : Cp15) (caches : Caches) :
    ((s.setCp15 k).setCaches caches).advance = { s with cp15 := k, pc := s.pc + 4, caches := caches } := by
  rw [← size_eq_four h]
  rfl

/-- An allowed MCR that changes fields of CP15, with a mask of bits that must be zero. -/
theorem systemWrite_cp15 (h : s.RunsArm c) (hp : s.privileged = true) (h15 : rd ≠ 15) {effect : Word → M Unit}
    {zero : Word} {f : Cp15 → Cp15} {after : Cp15}
    (e : effect (s.readReg rd) = do zeroBits (s.readReg rd) zero; M.update (·.mapCp15 f)) (hafter : f s.cp15 = after) :
    systemWrite c rd effect s =
      if s.readReg rd &&& zero = 0 then .next { s with cp15 := after, pc := s.pc + 4 }
      else .refused .reservedBitWritten := by
  rw [systemWrite_updateMasked h hp h15 e, ← hafter, ← advance_setCp15_setCaches h (f s.cp15) s.caches]
  rfl

/-- Where no bit must be zero the check passes. -/
theorem update_eq_updateMasked (v : Word) (f : State → State) :
    M.update f = (do zeroBits v 0; M.update f : M Unit) :=
  funext fun _ => ((updateMasked_apply v 0 f).trans (if_pos BitVec.and_zero)).symm

/-- The one plain register whose write reaches beyond CP15: PID, which empties the BTB (11 R120). -/
theorem execMcrPid_eq (h : s.RunsArm c) (hp : s.privileged = true) (h15 : rd ≠ 15) :
    execMcrPid c rd s = if s.readReg rd &&& 0x01FFFFFF = 0 then
        .next { s with
          cp15 := { s.cp15 with pid := (s.readReg rd).extractLsb' 25 7 }
          pc := s.pc + 4
          caches := { s.caches with btb := [] } }
      else .refused .reservedBitWritten := by
  rw [execMcrPid, systemWrite_updateMasked h hp h15 rfl, ← advance_setCp15_setCaches h]
  rfl

/-- A write of an identification register is ignored (11 R77). -/
theorem execMcr_identification (h : s.RunsArm c) (hp : s.privileged = true) (h15 : rd ≠ 15) {opc1 opc2 : BitVec 3}
    {crn crm : BitVec 4} (hid : identification opc1 crn crm opc2 = true) :
    execMcr c opc1 crn rd 15 opc2 crm s = .next { s with pc := s.pc + 4 } := by
  rw [execMcr, runIf_holds _ h.holds, ← size_eq_four h]
  refine finish_ok (u := ()) (s' := s.advance) ?_
  simp [M.bind_apply, privilegedOnly, hp, hid, allowed_true _ (notPc_one h15)]

theorem identification_of_le_one {opc1 opc2 : BitVec 3} (h1 : opc1.toNat ≤ 1) (h2 : opc2.toNat ≤ 1) :
    identification opc1 0 0 opc2 = true := by
  revert opc1 opc2
  decide

end RegisterWrite

end Sys2Proof.Machine

open Sys2Proof Sys2Proof.Machine

/-- Settles O28. Each plain register is one masked update of CP15 (`systemWrite_cp15`; DACR and FAR with an empty mask), but
PID, which reaches the BTB too; the identification registers are the generic MCR of coprocessor 15. -/
theorem systemRegisterWrite : Obligations.SystemRegisterWrite := by
  refine ⟨fun s c rd h hp h15 => ?plain, fun s c rd opc1 opc2 h hp h15 h1 h2 => ?identification⟩
  case plain =>
    have masked := @systemWrite_cp15 s c rd h hp h15
    have unmasked := update_eq_updateMasked (s.readReg rd)
    exact ⟨masked rfl rfl, masked (unmasked _) rfl, masked rfl rfl, masked (unmasked _) rfl, masked rfl rfl, masked rfl rfl,
      execMcrPid_eq h hp h15, masked rfl rfl⟩
  case identification => exact execMcr_identification h hp h15 (identification_of_le_one h1 h2)
end

section
/-! # Words written out from the encodings (30, 43 to 46) -/

open Sys2Proof Sys2Proof.Machine

/-- Settles O49: the decoder is run on each word, one list for the core ARM rows, one for the coprocessor rows, one for Thumb. -/
theorem decodeOfWrittenWords : Obligations.DecodeOfWrittenWords := by
  refine ⟨?core, ?coprocessor, ?thumb⟩
  case core => decide +kernel
  case coprocessor => decide +kernel
  case thumb => decide +kernel
end

section
/-! # MCR to DCSR (12 R154, R155; 61 R895, R940, R943) -/

namespace Sys2Proof.Machine

section DebugControl
variable {s : State} {v : Word}

theorem haltLocked_eq_false (h : s.dbg.dcsr.h = false ∨ s.dbg.sds = true) : s.haltLocked = false := by
  rcases h with h | h <;> simp [State.haltLocked, h]

theorem breakpointWrite_locked (h : s.dbg.dcsr.h = true) (hs : s.dbg.sds = false) (m : M Unit) :
    breakpointWrite m s = .ok () s := by
  simp [breakpointWrite, M.bind_apply, State.haltLocked, h, hs]

theorem breakpointWrite_open (h : s.dbg.dcsr.h = false ∨ s.dbg.sds = true) (m : M Unit) : breakpointWrite m s = m s := by
  simp [breakpointWrite, M.bind_apply, haltLocked_eq_false h]

/-- The counters of the trace buffer after a write of DCSR: E going from 0 to 1 restarts the count of written entries
(92 D34), enabling the buffer the instruction count (61 R940, R943). -/
def Trace.afterDcsr (t : Trace) (old : Dcsr) (v : Word) : Trace :=
  { t with
    written := if v.getLsbD 0 = true ∧ old.e = false then 0 else t.written
    count := if v.getLsbD 0 = true ∧ v.getLsbD 31 = true ∧ (old.e = false ∨ old.ge = false) then 0 else t.count }

/-- The two restarts as `writeDcsr` makes them, one after the other. -/
theorem restarts_apply (old : Dcsr) (v : Word) :
    (do
      if v.getLsbD 0 && !old.e then M.update fun s => s.setTrace { s.trace with written := 0 } else pure ()
      if v.getLsbD 0 && v.getLsbD 31 && !(old.e && old.ge) then M.update (·.setCount 0) else pure () : M Unit) s =
      .ok () (s.setTrace (s.trace.afterDcsr old v)) := by
  have hwritten : (v.getLsbD 0 && !old.e) = true ↔ v.getLsbD 0 = true ∧ old.e = false := by simp
  have hcount : (v.getLsbD 0 && v.getLsbD 31 && !(old.e && old.ge)) = true ↔
      v.getLsbD 0 = true ∧ v.getLsbD 31 = true ∧ (old.e = false ∨ old.ge = false) := by simp [and_assoc]
  simp only [M.ite_apply, M.bind_apply, M.update_apply, hwritten, hcount, Trace.afterDcsr]
  split_ifs <;> rfl

theorem writeDcsr_reserved (h : s.dbg.dcsr.h = false ∨ s.dbg.sds = true) (hv : v &&& 0x1F20FF80 ≠ 0) :
    writeDcsr v s = .error (.refuse .reservedBitWritten) s := by
  rw [writeDcsr, breakpointWrite_open h, M.bind_apply, zeroBits_apply, if_neg hv]

theorem writeDcsr_defined (h : s.dbg.dcsr.h = false ∨ s.dbg.sds = true) (hv : v &&& 0x1F20FF80 = 0)
    (hkept : s.tracing = true → v.getLsbD 6 = s.dbg.dcsr.tt ∧ v.getLsbD 1 = s.dbg.dcsr.m) :
    writeDcsr v s = .ok () ((s.setDebug { s.dbg with dcsr := s.dbg.dcsr.withSoftware v }).setTrace
      (s.trace.afterDcsr s.dbg.dcsr v)) := by
  have hsound : (s.tracing && (s.dbg.dcsr.tt != v.getLsbD 6 || s.dbg.dcsr.m != v.getLsbD 1)) = false := by
    cases ht : s.tracing with
    | false => rfl
    | true =>
      obtain ⟨htt, hm⟩ := hkept ht
      rw [htt, hm]
      simp
  have hzero : zeroBits v 0x1F20FF80 s = .ok () s := (zeroBits_apply ..).trans (if_pos hv)
  rw [writeDcsr, breakpointWrite_open h, M.bind_ok _ hzero, M.bind_ok _ (M.state_apply s), hsound]
  exact restarts_apply s.dbg.dcsr v

end DebugControl

end Sys2Proof.Machine

open Sys2Proof Sys2Proof.Machine

/-- Settles O40: the write is ignored, defined or refused by Halt Mode and the reserved bits, and the MCR goes on by four bytes. -/
theorem debugControlWrite : Obligations.DebugControlWrite := by
  intro s c rd h hp h15
  rw [← size_eq_four h]
  refine ⟨fun hh hs => ?ignored, fun ho hv hkept => ?written, fun ho hv => ?reserved⟩
  case ignored => exact systemWrite_runs h hp h15 (breakpointWrite_locked hh hs _)
  case written => exact systemWrite_runs h hp h15 (writeDcsr_defined ho hv hkept)
  case reserved => exact systemWrite_refused h hp h15 (writeDcsr_reserved ho hv)
end

section
/-! # The CP14 registers that LDC and STC name (12 R162, 43 R627) -/

namespace Sys2Proof.Machine

/-! ## Words whose bits are checked or free -/

theorem and_reserved_of_lt_sixteen {v : Word} (h : v.toNat < 16) : v &&& 0xFFFFFFF0 = 0 := by
  have hlow : v &&& 15 = v := by
    apply BitVec.eq_of_toNat_eq
    rw [BitVec.toNat_and]
    exact (Nat.and_two_pow_sub_one_eq_mod _ 4).trans (Nat.mod_eq_of_lt h)
  rw [← hlow, BitVec.and_assoc]
  exact BitVec.and_zero

theorem and_reserved_of_low_zero {v : Word} (h : v.extractLsb' 0 28 = 0) : v &&& 0x0FFFFFFF = 0 := by
  have hlow : v.toNat % 2 ^ 28 = 0 := by simpa using congrArg BitVec.toNat h
  apply BitVec.eq_of_toNat_eq
  rw [BitVec.toNat_and]
  exact (Nat.and_two_pow_sub_one_eq_mod _ 28).trans hlow

/-- A bit outside the free ones reads as the register holds it. -/
theorem getLsbD_anyBits {v free mask : Word} {i : Nat} (hi : i < 32) (h : mask.getLsbD i = false) :
    ((v &&& ~~~mask) ||| (free &&& mask)).getLsbD i = v.getLsbD i := by
  rw [BitVec.getLsbD_or, BitVec.getLsbD_and, BitVec.getLsbD_and, BitVec.getLsbD_not, h]
  simp [hi]

/-- A field outside the free bits reads as the register holds it. -/
theorem extractLsb'_anyBits {v free mask : Word} {lo len : Nat} (hlen : lo + len ≤ 32)
    (h : mask.extractLsb' lo len = 0) : ((v &&& ~~~mask) ||| (free &&& mask)).extractLsb' lo len = v.extractLsb' lo len := by
  apply BitVec.eq_of_getLsbD_eq
  intro i hi
  have hmask : mask.getLsbD (lo + i) = false := by simpa [hi] using congrArg (·.getLsbD i) h
  rw [BitVec.getLsbD_extractLsb', BitVec.getLsbD_extractLsb', getLsbD_anyBits (by omega) hmask]

/-! ## The transfer of a word, straight to memory -/

theorem lane_word (s : State) (pa : PAddr) : s.lane pa 4 = pa := by
  simp [State.lane]

/-- A word at an address rounded down lies in one line. -/
theorem physical_word_inLine (s : State) (a : Word) : lineOffset (s.physical (a &&& 0xFFFFFFFC) 4) + 4 ≤ 32 := by
  refine lane_inLine (by omega) ?_
  have hmask : (0xFFFFFFFC : Word).toNat % 4 = 0 := by decide
  rw [remap_mod_four, BitVec.toNat_and, Nat.and_mod_two_pow (n := 2), hmask]
  exact Nat.and_zero _

/-- A word store at a place in one line: the word there, every other byte as before. -/
theorem dWrite_word {s : State} (h : s.Direct) (mva : Word) {pa : PAddr} (hline : lineOffset pa + 4 ≤ 32) (v : Word) :
    ∃ m : Memory, dWrite mva pa .stronglyOrdered 4 v s = .ok () (s.accessed.setMem m) ∧ Stored s.mem m pa 4 v :=
  ⟨_, dWrite_direct h .., stored_line h.canonical _ _ (by omega) hline v⟩

/-- The end of a transfer: the base where it is written back, and the pc; what the transfer changed before stays. -/
theorem writeBack_next (s : State) (w : Bool) (rn : Reg) (v : Word) (clk : Clk) (dbg : Debug) (trace : Trace) (mem : Memory)
    (run : Run) :
    (do writeBack w rn v; next : M Unit) { s with clk := clk, dbg := dbg, trace := trace, mem := mem, run := run } =
      .ok () { s with
        regs := s.basedRegs w rn v, pc := s.pc + s.size, clk := clk, dbg := dbg, trace := trace, mem := mem, run := run } := by
  cases w <;> rfl

/-- The address of an LDC or STC of CP14 (43 R627). -/
def State.debugAddress (s : State) (p u : Bool) (rn : Reg) (off8 : BitVec 8) : Word :=
  s.addressOf p u rn (BitVec.ofNat 32 (4 * off8.toNat))

/-- The base of an LDC or STC of CP14 plus or minus its offset, which a write-back leaves in the base register (43 R627). -/
def State.debugBase (s : State) (u : Bool) (rn : Reg) (off8 : BitVec 8) : Word :=
  s.indexedBy u rn (BitVec.ofNat 32 (4 * off8.toNat))

/-- The place in memory of the word that an LDC or STC of CP14 transfers. -/
def State.debugPlace (s : State) (p u : Bool) (rn : Reg) (off8 : BitVec 8) : PAddr :=
  s.physical (s.debugAddress p u rn off8 &&& 0xFFFFFFFC) 4

theorem coprocAddress_ready {s : State} (h : s.Ready) (p u : Bool) (rn : Reg) (off8 : BitVec 8) :
    coprocAddress p u rn off8 s = .ok (s.debugAddress p u rn off8, s.debugBase u rn off8) s := by
  have hoff : off8.setWidth 32 <<< 2 = BitVec.ofNat 32 (4 * off8.toNat) := by bv_omega
  rw [coprocAddress, M.bind_ok _ (reg_ready h rn), hoff]
  rfl

/-- An LDC or STC of CP14 that runs: executed in a privileged mode, straight to memory, with a base that it may write back and
an address that CTRL.A allows. -/
structure State.TransfersDebug (s : State) (c : Cond) (p u w : Bool) (rn : Reg) (off8 : BitVec 8) : Prop where
  runs : s.RunsArm c
  direct : s.Direct
  privileged : s.privileged = true
  base : w = true → rn ≠ 15
  usable : s.Aligned (s.debugAddress p u rn off8) 4 ∨ s.cp15.ctrl.align = false

/-- The register write of an LDC: the clock, debug and trace registers that it leaves. -/
def State.WritesDebug (s : State) (write : M Unit) (clk : Clk) (dbg : Debug) (trace : Trace) : Prop :=
  write s = .ok () (((s.setClk clk).setDebug dbg).setTrace trace)

/-- The register read of an STC: the debug registers and trace buffer that it leaves, and what holds of the word. -/
def State.ReadsDebug (s : State) (read : M Word) (dbg : Debug) (trace : Trace) (q : Word → Prop) : Prop :=
  ∃ v free, read s = .ok v (((s.setDebug dbg).setTrace trace).setRun { s.run with free := free }) ∧ q v

/-- After the read of a register of CP14, which leaves DCSR, accesses still go straight to memory. -/
theorem State.Direct.afterRead {s : State} (h : s.Direct) {dbg : Debug} (hd : dbg.dcsr = s.dbg.dcsr) (trace : Trace) (run : Run) :
    (((s.setDebug dbg).setTrace trace).setRun run).Direct where
  mmu := h.mmu
  lines := h.lines
  buffer := h.buffer
  settled := h.settled
  noErrors := h.noErrors
  noDebug := (congrArg Dcsr.ge hd).trans h.noDebug
  canonical := h.canonical

section DebugTransfer
variable {s : State} {c : Cond} {p u w : Bool} {rn : Reg} {off8 : BitVec 8} {crd : BitVec 4}

/-- Both checks of an LDC or STC that runs pass. -/
theorem State.TransfersDebug.checked (h : s.TransfersDebug c p u w rn off8) (body : M Unit) :
    (do privilegedOnly; allowed (!w || rn != 15); body : M Unit) s = body s := by
  have hp : privilegedOnly s = .ok () s := by simp [privilegedOnly, M.bind_apply, h.privileged]
  have hw : allowed (!w || rn != 15) s = .ok () s := by
    refine allowed_true _ ?_
    cases w with
    | false => rfl
    | true => simpa using h.base rfl
  rw [M.bind_ok _ hp, M.bind_ok _ hw]

/-- After its checks an LDC or STC goes on with its address and its base. -/
theorem State.TransfersDebug.begins (h : s.TransfersDebug c p u w rn off8) (body : Word × Word → M Unit) :
    (do privilegedOnly; allowed (!w || rn != 15); let x ← coprocAddress p u rn off8; body x : M Unit) s =
      body (s.debugAddress p u rn off8, s.debugBase u rn off8) s :=
  (h.checked _).trans (M.bind_ok _ (coprocAddress_ready h.runs.ready p u rn off8))

/-- A store finds its place and leaves the state as it is. -/
theorem State.TransfersDebug.locates (h : s.TransfersDebug c p u w rn off8) :
    ∃ mva, locate (s.debugAddress p u rn off8) 4 .write false s =
      .ok ⟨mva, s.debugPlace p u rn off8, .stronglyOrdered⟩ s := by
  rw [State.debugPlace, State.physical, lane_word]
  exact ⟨_, locate_direct h.direct .write false (checkAlign_usable h.usable)⟩

/-- An LDC of a register that it may name: the register write of the word in memory, the base, the pc. -/
theorem ldcP14_loads (h : s.TransfersDebug c p u w rn off8) (n : Bool) {write : Word → M Unit} {clk : Clk} {dbg : Debug}
    {trace : Trace} (hr : debugRegisterWrite crd = some write)
    (hw : s.accessed.WritesDebug (write (s.mem.readBytes (s.debugPlace p u rn off8) 4)) clk dbg trace) :
    ∃ events, exec (.ldcP14 c p u n w rn crd off8) s = .next { s with
      regs := s.basedRegs w rn (s.debugBase u rn off8), pc := s.pc + 4, clk := clk, dbg := dbg, trace := trace
      run := { s.run with events := events } } := by
  have hread : memRead (s.debugAddress p u rn off8) 4 false s = .ok (s.mem.readBytes (s.debugPlace p u rn off8) 4) s.accessed :=
    memRead_word h.direct h.usable false
  refine ⟨0x0B :: 0x0A :: s.run.events, (runIf_holds _ h.runs.holds).trans (finish_ok (u := ()) ?_)⟩
  rw [State.WritesDebug, accessed_noted] at hw
  rw [accessed_noted] at hread
  rw [hr, ← size_eq_four h.runs]
  refine (h.begins _).trans ((M.bind_ok _ hread).trans ((M.bind_ok _ hw).trans ?_))
  exact writeBack_next s w rn _ clk dbg trace s.mem _

/-- An STC of a register that it may name: the word that the register reads as to memory, the base, the pc. -/
theorem stcP14_stores (h : s.TransfersDebug c p u w rn off8) (n : Bool) {read : M Word} {dbg : Debug} {trace : Trace}
    {q : Word → Prop} (hr : debugRegisterRead crd = some read) (hd : dbg.dcsr = s.dbg.dcsr)
    (hread : s.ReadsDebug read dbg trace q) :
    ∃ (m : Memory) (v : Word) (events : List (BitVec 8)) (free : Nat),
      exec (.stcP14 c p u n w rn crd off8) s = .next { s with
        regs := s.basedRegs w rn (s.debugBase u rn off8), pc := s.pc + 4, mem := m, dbg := dbg, trace := trace
        run := { s.run with events := events, free := free } } ∧
      Stored s.mem m (s.debugPlace p u rn off8) 4 v ∧ q v := by
  obtain ⟨v, free, hv, hq⟩ := hread
  obtain ⟨mva, hl⟩ := h.locates
  obtain ⟨m, hm, hstored⟩ := dWrite_word (h.direct.afterRead hd trace _) mva (physical_word_inLine s _) v
  rw [accessed_noted] at hm
  refine ⟨m, v, 0x0B :: 0x0A :: s.run.events, free, (runIf_holds _ h.runs.holds).trans (finish_ok (u := ()) ?_), hstored, hq⟩
  rw [hr, ← size_eq_four h.runs]
  refine (h.begins _).trans ((M.bind_ok _ hl).trans ((M.bind_ok _ hv).trans ((M.bind_ok _ hm).trans ?_)))
  exact writeBack_next s w rn _ s.clk dbg trace m _

theorem stcP14_refuses_tx (h : s.TransfersDebug c p u w rn off8) (n : Bool) :
    exec (.stcP14 c p u n w rn 8 off8) s = .refused .txRead := by
  obtain ⟨mva, hl⟩ := h.locates
  refine (runIf_holds _ h.runs.holds).trans (finish_refuse (s' := s) ?_)
  exact (h.begins _).trans (M.bind_ok _ hl)

theorem debugRegisterWrite_unlisted (h : crd.toNat ∉ [6, 7, 8, 10, 12, 13, 14]) : debugRegisterWrite crd = none := by
  unfold debugRegisterWrite
  split <;> simp_all

theorem debugRegisterRead_unlisted (h : crd.toNat ∉ [6, 7, 8, 9, 10, 11, 12, 13, 14]) : debugRegisterRead crd = none := by
  unfold debugRegisterRead
  split <;> simp_all

theorem ldcP14_refuses_unlisted (h : s.TransfersDebug c p u w rn off8) (n : Bool) (hr : debugRegisterWrite crd = none) :
    exec (.ldcP14 c p u n w rn crd off8) s = .refused .coprocTransferUnlisted := by
  refine (runIf_holds _ h.runs.holds).trans (finish_refuse (s' := s) ?_)
  rw [hr]
  exact h.checked _

theorem stcP14_refuses_unlisted (h : s.TransfersDebug c p u w rn off8) (n : Bool) (hr : debugRegisterRead crd = none) :
    exec (.stcP14 c p u n w rn crd off8) s = .refused .coprocTransferUnlisted := by
  refine (runIf_holds _ h.runs.holds).trans (finish_refuse (s' := s) ?_)
  rw [hr]
  exact h.checked _

end DebugTransfer

/-! ## The registers that LDC writes -/

section DebugWrites
variable {s : State} {v : Word}

theorem writeCclkcfg_writes (h : v.toNat < 16) :
    s.WritesDebug (writeCclkcfg v) { s.clk with cclkcfg := v.extractLsb' 0 4 } s.dbg s.trace :=
  (updateMasked_apply ..).trans (if_pos (and_reserved_of_lt_sixteen h))

theorem writePwrmode_writes (h : v.toNat < 16) :
    s.WritesDebug (writePwrmode v)
      { s.clk with pwrmode := if s.cfg.pwrIdle.getLsbD v.toNat then v.extractLsb' 0 4 else 0 } s.dbg s.trace := by
  have hmode : (v.extractLsb' 0 4).toNat = v.toNat := by
    rw [BitVec.extractLsb'_toNat]
    exact Nat.mod_eq_of_lt h
  rw [← hmode]
  exact (updateMasked_apply ..).trans (if_pos (and_reserved_of_lt_sixteen h))

theorem writeTx_writes : s.WritesDebug (writeTx v) s.clk { s.dbg with tx := v, txr := true } s.trace := rfl

theorem writeDcsr_locked_writes (h : s.dbg.dcsr.h = true) (hs : s.dbg.sds = false) :
    s.WritesDebug (writeDcsr v) s.clk s.dbg s.trace :=
  breakpointWrite_locked h hs _

/-- With GE clear nothing is traced, so a write of DCSR enables the buffer wherever it leaves E and GE set. -/
theorem writeDcsr_writes (hge : s.dbg.dcsr.ge = false) (h : s.dbg.dcsr.h = false ∨ s.dbg.sds = true)
    (hv : v &&& 0x1F20FF80 = 0) :
    s.WritesDebug (writeDcsr v) s.clk { s.dbg with dcsr := s.dbg.dcsr.withSoftware v }
      { s.trace with
        written := if v.getLsbD 0 = true ∧ s.dbg.dcsr.e = false then 0 else s.trace.written
        count := if v.getLsbD 0 = true ∧ v.getLsbD 31 = true then 0 else s.trace.count } := by
  have hidle : s.tracing ≠ true := by simp [State.tracing, hge]
  have hwrite := writeDcsr_defined h hv (fun ht => absurd ht hidle)
  simp only [Trace.afterDcsr, hge, or_true, and_true] at hwrite
  exact hwrite

theorem writeChkpt_writes (hge : s.dbg.dcsr.ge = false) (put : Debug → Word → Debug) :
    s.WritesDebug (writeChkpt put v) s.clk (put s.dbg v) s.trace := by
  have hidle : s.tracing = false := by simp [State.tracing, hge]
  rw [State.WritesDebug, writeChkpt, M.bind_ok _ (M.state_apply s), hidle]
  rfl

theorem writeTxrxctrl_writes (h : v.extractLsb' 0 28 = 0) :
    s.WritesDebug (writeTxrxctrl v) s.clk { s.dbg with ov := v.getLsbD 30 } s.trace :=
  (updateMasked_apply ..).trans (if_pos (and_reserved_of_low_zero h))

end DebugWrites

/-! ## The registers that STC reads -/

section DebugReads
variable {s : State}

theorem readFour_reads (f : State → BitVec 4) :
    s.ReadsDebug (readFour f) s.dbg s.trace (fun v => v.extractLsb' 0 4 = f s) := by
  refine ⟨_, s.run.free + 1, rfl, (extractLsb'_anyBits (by omega) (by decide)).trans ?_⟩
  exact BitVec.extractLsb'_append_eq_right

theorem readCclkcfg_reads :
    s.ReadsDebug readCclkcfg s.dbg s.trace (fun v => s.cfg.clockDefined = false → v.extractLsb' 0 4 = s.clk.cclkcfg) := by
  obtain ⟨v, free, hv, hq⟩ := readFour_reads (s := s) (·.clk.cclkcfg)
  rw [State.ReadsDebug, readCclkcfg, M.bind_ok _ (M.state_apply s), M.bind_ok _ hv, M.ite_apply]
  cases hc : s.cfg.clockDefined with
  | true => exact ⟨_, free + 1, rfl, fun h => absurd h (by decide)⟩
  | false => exact ⟨v, free, rfl, fun _ => hq⟩

theorem readRx_reads : s.ReadsDebug readRx { s.dbg with rr := false } s.trace (fun v => v = s.dbg.rx) :=
  ⟨_, s.run.free, rfl, rfl⟩

/-- A word reads as DCSR (12 R154): each defined bit is the bit of the register, B the SOC break input. -/
def State.DcsrFields (s : State) (v : Word) : Prop :=
  v.getLsbD 31 = s.dbg.dcsr.ge ∧ v.getLsbD 30 = s.dbg.dcsr.h ∧ v.getLsbD 29 = s.ext.socBreak ∧
    v.getLsbD 23 = s.dbg.dcsr.tf ∧ v.getLsbD 22 = s.dbg.dcsr.ti ∧ v.getLsbD 20 = s.dbg.dcsr.td ∧
    v.getLsbD 19 = s.dbg.dcsr.ta ∧ v.getLsbD 18 = s.dbg.dcsr.ts ∧ v.getLsbD 17 = s.dbg.dcsr.tu ∧
    v.getLsbD 16 = s.dbg.dcsr.tr ∧ v.getLsbD 6 = s.dbg.dcsr.tt ∧ v.getLsbD 5 = s.dbg.dcsr.sa ∧
    v.extractLsb' 2 3 = s.dbg.dcsr.moe ∧ v.getLsbD 1 = s.dbg.dcsr.m ∧ v.getLsbD 0 = s.dbg.dcsr.e

theorem dcsrWord_fields (s : State) : s.DcsrFields s.dcsrWord := by
  have hmoe : s.dcsrWord.extractLsb' 2 3 = s.dbg.dcsr.moe := by
    apply BitVec.eq_of_getLsbD_eq
    intro i hi
    simp only [State.dcsrWord, BitVec.getLsbD_extractLsb', BitVec.getLsbD_append]
    interval_cases i <;> rfl
  simp only [State.DcsrFields, hmoe, true_and]
  simp only [State.dcsrWord, BitVec.getLsbD_append]
  simp

theorem readDcsr_reads : s.ReadsDebug readDcsr s.dbg s.trace s.DcsrFields := by
  refine ⟨_, s.run.free + 1, rfl, ?_⟩
  simp (disch := decide) only [State.DcsrFields, getLsbD_anyBits, extractLsb'_anyBits]
  exact dcsrWord_fields s

theorem readTbreg_reads (hge : s.dbg.dcsr.ge = false) :
    ∃ due ck0 ck1, s.ReadsDebug readTbreg s.dbg { s.trace with
        buffer := s.trace.buffer.set s.trace.tp.toNat 0 s.trace.tp.isLt
        tp := s.trace.tp + 1, ckptDue := due, ckptAt0 := ck0, ckptAt1 := ck1 }
      (fun v => v.extractLsb' 0 8 = s.trace.buffer[s.trace.tp.toNat]'s.trace.tp.isLt) := by
  have hidle : s.tracing = false := by simp [State.tracing, hge]
  refine ⟨s.trace.ckptDue || s.trace.passes, forgetSlot s.trace.tp s.trace.ckptAt0, forgetSlot s.trace.tp s.trace.ckptAt1,
    (s.draw 24).1 ++ s.trace.buffer[s.trace.tp.toNat]'s.trace.tp.isLt, s.run.free + 1, ?_, BitVec.extractLsb'_append_eq_right⟩
  rw [readTbreg, M.bind_ok _ (M.state_apply s), M.bind_ok _ (M.draw_apply s 24), hidle]
  rfl

theorem readChkpt_reads (hge : s.dbg.dcsr.ge = false) (f : Debug → Word) :
    s.ReadsDebug (readChkpt f) s.dbg s.trace (fun v => v = f s.dbg) := by
  have hidle : s.tracing = false := by simp [State.tracing, hge]
  refine ⟨_, s.run.free, ?_, rfl⟩
  rw [readChkpt, M.bind_ok _ (M.state_apply s), hidle]
  rfl

theorem readTxrxctrl_reads :
    s.ReadsDebug readTxrxctrl s.dbg s.trace (fun v => v.getLsbD 31 = s.dbg.rr ∧ v.getLsbD 30 = s.dbg.ov ∧
      v.getLsbD 29 = s.dbg.dl ∧ v.getLsbD 28 = s.dbg.txr) := by
  refine ⟨_, s.run.free + 1, rfl, ?_⟩
  simp (disch := decide) only [getLsbD_anyBits, BitVec.getLsbD_append]
  simp

end DebugReads

end Sys2Proof.Machine

open Sys2Proof Sys2Proof.Machine

/-- Settles O41. An LDC is one register write between the load and the pc (`ldcP14_loads`), an STC one register read before the
store (`stcP14_stores`); what each register's write or read leaves is a lemma of its own. -/
theorem debugRegisterTransfer : Obligations.DebugRegisterTransfer := by
  intro s c p u n w rn off8 hruns hd hp hw _ _ _ _ _ _ _ ha
  have h : s.TransfersDebug c p u w rn off8 := ⟨hruns, hd, hp, hw, ha⟩
  have hge := hd.noDebug
  obtain ⟨due, ck0, ck1, htbreg⟩ := readTbreg_reads hge
  refine ⟨fun hv => ⟨?ldcClock, ?ldcPower⟩, ?ldcTx, fun hh hs => ?ldcLocked, fun ho hv => ?ldcDcsr, ?ldcChkpt0, ?ldcChkpt1,
    fun hv => ?ldcTxrx, fun crd hcrd => ?ldcUnlisted, ?stcClock, ?stcPower, ?stcTx, ?stcRx, ?stcDcsr, ⟨due, ck0, ck1, ?stcTbreg⟩,
    ?stcChkpt0, ?stcChkpt1, ?stcTxrx, fun crd hcrd => ?stcUnlisted⟩
  case ldcClock => exact ldcP14_loads h n rfl (writeCclkcfg_writes hv)
  case ldcPower => exact ldcP14_loads h n rfl (writePwrmode_writes hv)
  case ldcTx => exact ldcP14_loads h n rfl writeTx_writes
  case ldcLocked => exact ldcP14_loads h n rfl (writeDcsr_locked_writes hh hs)
  case ldcDcsr => exact ldcP14_loads h n rfl (writeDcsr_writes hge ho hv)
  case ldcChkpt0 => exact ldcP14_loads h n rfl (writeChkpt_writes (s := s.accessed) hge fun d x => { d with chkpt0 := x })
  case ldcChkpt1 => exact ldcP14_loads h n rfl (writeChkpt_writes (s := s.accessed) hge fun d x => { d with chkpt1 := x })
  case ldcTxrx => exact ldcP14_loads h n rfl (writeTxrxctrl_writes hv)
  case ldcUnlisted => exact ldcP14_refuses_unlisted h n (debugRegisterWrite_unlisted hcrd)
  case stcClock => exact stcP14_stores h n rfl rfl readCclkcfg_reads
  case stcPower => exact stcP14_stores h n rfl rfl (readFour_reads _)
  case stcTx => exact stcP14_refuses_tx h n
  case stcRx => exact stcP14_stores h n rfl rfl readRx_reads
  case stcDcsr => exact stcP14_stores h n rfl rfl readDcsr_reads
  case stcTbreg => exact stcP14_stores h n rfl rfl htbreg
  case stcChkpt0 => exact stcP14_stores h n rfl rfl (readChkpt_reads hge _)
  case stcChkpt1 => exact stcP14_stores h n rfl rfl (readChkpt_reads hge _)
  case stcTxrx => exact stcP14_stores h n rfl rfl readTxrxctrl_reads
  case stcUnlisted => exact stcP14_refuses_unlisted h n (debugRegisterRead_unlisted hcrd)
end

section
/-! # Single loads and stores: their bodies, and their effect straight to memory (42 R540 to R553; 20 R191 to R195) -/

namespace Sys2Proof.Machine

/-! ## The frame of a single transfer -/

section Frame
variable {s : State} {c : Cond}

/-- A conditional instruction whose operands are allowed runs its body. -/
theorem runIf_allowed (h : s.RunsArm c) {ok : Bool} (hok : ok = true) (body : M Unit) :
    runIf c (do allowed ok; body) s = finish body s := by
  rw [runIf_holds _ h.holds, finish, finish, M.bind_ok _ (allowed_true s hok)]

/-- The address of a single transfer and the base after it, with nothing changed. -/
theorem singleAddress_ready (h : s.Ready) {off : M Word} {o : Word} (ho : off s = .ok o s) (p u : Bool) (rn : Reg) :
    singleAddress p u rn off s = .ok (s.addressOf p u rn o, s.indexedBy u rn o) s := by
  rw [singleAddress, M.bind_ok _ (reg_ready h rn), M.bind_ok _ ho]
  rfl

/-- The value that a store stores: the register, or for R15 the instruction's address plus 12 (92 D9, log 14). -/
def State.storedValue (s : State) (rd : Reg) : Word := if rd = 15 then s.pc + 12 else s.readReg rd

theorem storedReg_ready (h : s.Ready) (rd : Reg) : storedReg rd s = .ok (s.storedValue rd) s := by
  rw [storedReg, State.storedValue, reg_ready h]
  split <;> rfl

/-- The end of a single load: the base where it is written back, the loaded register, and the pc. -/
theorem writeBack_setReg_next_apply (t : State) (wb : Bool) (rn rd : Reg) (ea v : Word) :
    (do writeBack wb rn ea; setReg rd v; next : M Unit) t =
      .ok () ((t.setRegs ((t.basedRegs wb rn ea).set (t.bank rd) v)).setPc (t.pc + t.size)) := by
  cases wb <;> rfl

end Frame

/-! ## What each load and store runs: with its operands allowed, or with its checks still to come where it takes two words -/

section Bodies
variable {s : State} {c : Cond} {p u w : Bool} {rn rd : Reg} {off : Offset2} {off3 : Offset3}

/-- To a register other than R15; a load of R15 is a branch (42 R534). -/
theorem exec_ldr (h : s.RunsArm c) (hrd : rd ≠ 15) (hok : (Instr.ldr c p u w rn rd off).operandsAllowed = true) :
    exec (.ldr c p u w rn rd off) s =
      finish (loadRegister loadWord asUser p u (writesBack p w) rn rd (offsetTwo off)) s := by
  have hbranch : (rd == 15) = false := beq_eq_false_iff_ne.mpr hrd
  change execLdr c p u w rn rd off s = _
  rw [execLdr, hbranch, if_neg hrd]
  exact runIf_allowed h (by cases off <;> simpa [Instr.operandsAllowed, offsetTwoAllowed] using hok) _

theorem exec_ldrb (h : s.RunsArm c) (hok : (Instr.ldrb c p u w rn rd off).operandsAllowed = true) :
    exec (.ldrb c p u w rn rd off) s = finish (loadRegister loadByte asUser p u (writesBack p w) rn rd (offsetTwo off)) s :=
  runIf_allowed h (by cases off <;> simpa [Instr.operandsAllowed, offsetTwoAllowed] using hok) _

theorem exec_ldrt (h : s.RunsArm c) (hok : (Instr.ldrt c u rn rd off).operandsAllowed = true) :
    exec (.ldrt c u rn rd off) s = finish (loadRegister loadWord (pure true) false u true rn rd (offsetTwo off)) s :=
  runIf_allowed h (by cases off <;> simpa [Instr.operandsAllowed, offsetTwoAllowed] using hok) _

theorem exec_ldrbt (h : s.RunsArm c) (hok : (Instr.ldrbt c u rn rd off).operandsAllowed = true) :
    exec (.ldrbt c u rn rd off) s = finish (loadRegister loadByte (pure true) false u true rn rd (offsetTwo off)) s :=
  runIf_allowed h (by cases off <;> simpa [Instr.operandsAllowed, offsetTwoAllowed] using hok) _

theorem exec_str (h : s.RunsArm c) (hok : (Instr.str c p u w rn rd off).operandsAllowed = true) :
    exec (.str c p u w rn rd off) s = finish (storeRegister 4 asUser p u (writesBack p w) rn rd (offsetTwo off)) s :=
  runIf_allowed h (by cases off <;> simpa [Instr.operandsAllowed, offsetTwoAllowed] using hok) _

theorem exec_strb (h : s.RunsArm c) (hok : (Instr.strb c p u w rn rd off).operandsAllowed = true) :
    exec (.strb c p u w rn rd off) s = finish (storeRegister 1 asUser p u (writesBack p w) rn rd (offsetTwo off)) s :=
  runIf_allowed h (by cases off <;> simpa [Instr.operandsAllowed, offsetTwoAllowed] using hok) _

theorem exec_strt (h : s.RunsArm c) (hok : (Instr.strt c u rn rd off).operandsAllowed = true) :
    exec (.strt c u rn rd off) s = finish (storeRegister 4 (pure true) false u true rn rd (offsetTwo off)) s :=
  runIf_allowed h (by cases off <;> simpa [Instr.operandsAllowed, offsetTwoAllowed] using hok) _

theorem exec_strbt (h : s.RunsArm c) (hok : (Instr.strbt c u rn rd off).operandsAllowed = true) :
    exec (.strbt c u rn rd off) s = finish (storeRegister 1 (pure true) false u true rn rd (offsetTwo off)) s :=
  runIf_allowed h (by cases off <;> simpa [Instr.operandsAllowed, offsetTwoAllowed] using hok) _

theorem exec_ldrh (h : s.RunsArm c) (hok : (Instr.ldrh c p u w rn rd off3).operandsAllowed = true) :
    exec (.ldrh c p u w rn rd off3) s = finish (loadRegister loadHalf asUser p u (writesBack p w) rn rd (offsetThree off3)) s :=
  runIf_allowed h (by
    cases off3 <;> simpa [Instr.operandsAllowed, halfAllowed, offsetThreeAllowed, and_assoc, and_left_comm] using hok) _

theorem exec_ldrsh (h : s.RunsArm c) (hok : (Instr.ldrsh c p u w rn rd off3).operandsAllowed = true) :
    exec (.ldrsh c p u w rn rd off3) s =
      finish (loadRegister loadSignedHalf asUser p u (writesBack p w) rn rd (offsetThree off3)) s :=
  runIf_allowed h (by
    cases off3 <;> simpa [Instr.operandsAllowed, halfAllowed, offsetThreeAllowed, and_assoc, and_left_comm] using hok) _

theorem exec_ldrsb (h : s.RunsArm c) (hok : (Instr.ldrsb c p u w rn rd off3).operandsAllowed = true) :
    exec (.ldrsb c p u w rn rd off3) s =
      finish (loadRegister loadSignedByte asUser p u (writesBack p w) rn rd (offsetThree off3)) s :=
  runIf_allowed h (by
    cases off3 <;> simpa [Instr.operandsAllowed, halfAllowed, offsetThreeAllowed, and_assoc, and_left_comm] using hok) _

theorem exec_strh (h : s.RunsArm c) (hok : (Instr.strh c p u w rn rd off3).operandsAllowed = true) :
    exec (.strh c p u w rn rd off3) s = finish (storeRegister 2 asUser p u (writesBack p w) rn rd (offsetThree off3)) s :=
  runIf_allowed h (by
    cases off3 <;> simpa [Instr.operandsAllowed, halfAllowed, offsetThreeAllowed, and_assoc, and_left_comm] using hok) _

theorem exec_ldrd (h : s.RunsArm c) : exec (.ldrd c p u w rn rd off3) s = finish (loadDouble p u w rn rd off3) s :=
  runIf_holds _ h.holds

theorem exec_strd (h : s.RunsArm c) : exec (.strd c p u w rn rd off3) s = finish (storeDouble p u w rn rd off3) s :=
  runIf_holds _ h.holds

end Bodies

/-! ## Straight to memory: what a load reads, and what the instruction then leaves -/

section Loads
variable {s : State} (h : s.Direct) {a : Word} (user : Bool)
include h

/-- A word load rotates the word at the address rounded down by the low address bits (20 R193). -/
theorem loadWord_direct (ha : s.Usable a) : loadWord a user s =
    .ok ((s.mem.readBytes (s.physical (a &&& 0xFFFFFFFC) 4) 4).rotateRight (8 * (a.toNat % 4))) s.accessed := by
  have hlow : (a.extractLsb' 0 2).toNat = a.toNat % 4 := BitVec.extractLsb'_toNat ..
  rw [loadWord, M.bind_ok _ (memRead_word h ha user), rotateLoad, hlow]
  rfl

theorem loadByte_direct : loadByte a user s =
    .ok ((s.mem.readBytes (s.physical a 1) 1).setWidth 32) s.accessed :=
  M.bind_ok _ (memRead_aligned h (Nat.mod_one _) user)

theorem loadSignedByte_direct : loadSignedByte a user s =
    .ok ((s.mem.readBytes (s.physical a 1) 1).signExtend 32) s.accessed :=
  M.bind_ok _ (memRead_aligned h (Nat.mod_one _) user)

theorem loadHalf_direct (ha : s.Aligned a 2) : loadHalf a user s =
    .ok ((s.mem.readBytes (s.physical a 2) 2).setWidth 32) s.accessed :=
  M.bind_ok _ (memRead_aligned h ha user)

theorem loadSignedHalf_direct (ha : s.Aligned a 2) : loadSignedHalf a user s =
    .ok ((s.mem.readBytes (s.physical a 2) 2).signExtend 32) s.accessed :=
  M.bind_ok _ (memRead_aligned h ha user)

end Loads

section Transfers
variable {s : State} {c : Cond} {user : M Bool} {usr p u wb : Bool} {rn rd : Reg} {off : M Word} {o : Word}

/-- A load runs its access at the address of the transfer, then writes the base, the register and the pc. -/
theorem loadRegister_ready (h : s.Ready) (ho : off s = .ok o s) (hu : user s = .ok usr s) (load : Word → Bool → M Word) :
    loadRegister load user p u wb rn rd off s = (do
      let v ← load (s.addressOf p u rn o) usr
      writeBack wb rn (s.indexedBy u rn o)
      setReg rd v
      next : M Unit) s :=
  (M.bind_ok _ (singleAddress_ready h ho p u rn)).trans (M.bind_ok _ hu)

/-- A store runs its access at the address of the transfer, then writes the base and the pc. -/
theorem storeRegister_ready (h : s.Ready) (ho : off s = .ok o s) (hu : user s = .ok usr s) (n : Nat) :
    storeRegister n user p u wb rn rd off s = (do
      memWrite (s.addressOf p u rn o) n ((s.storedValue rd).setWidth (8 * n)) usr
      writeBack wb rn (s.indexedBy u rn o)
      next : M Unit) s :=
  (M.bind_ok _ (singleAddress_ready h ho p u rn)).trans
    ((M.bind_ok _ (storedReg_ready h rd)).trans (M.bind_ok _ hu))

/-- A load whose access answers a value: the base, the register and the pc, with the notes of the access. -/
theorem loadRegister_loads (h : s.RunsArm c) (ho : off s = .ok o s) (hu : user s = .ok usr s) {load : Word → Bool → M Word}
    {v : Word} (hload : load (s.addressOf p u rn o) usr s = .ok v s.accessed) :
    ∃ events, finish (loadRegister load user p u wb rn rd off) s = .next { s with
      regs := (s.basedRegs wb rn (s.indexedBy u rn o)).set (s.bank rd) v
      pc := s.pc + 4
      run := { s.run with events := events } } := by
  refine ⟨s.accessed.run.events, finish_ok (u := ()) ?_⟩
  rw [loadRegister_ready h.ready ho hu, M.bind_ok _ hload, ← size_eq_four h]
  exact writeBack_setReg_next_apply s.accessed wb rn rd _ v

/-- A store whose access is made: the base, the bytes in memory and the pc, with the notes of the access. -/
theorem storeRegister_stores (h : s.RunsArm c) (ho : off s = .ok o s) (hu : user s = .ok usr s) {n : Nat} {pa : Word}
    (hstore : ∃ m : Memory, memWrite (s.addressOf p u rn o) n ((s.storedValue rd).setWidth (8 * n)) usr s =
        .ok () (s.accessed.setMem m) ∧
      m.wf = true ∧ Stored s.mem m (s.physical pa n) n ((s.storedValue rd).setWidth (8 * n))) :
    ∃ (m : Memory) (events : List (BitVec 8)), finish (storeRegister n user p u wb rn rd off) s = .next { s with
        regs := s.basedRegs wb rn (s.indexedBy u rn o)
        pc := s.pc + 4
        mem := m
        run := { s.run with events := events } } ∧
      m.wf = true ∧ Stored s.mem m (s.physical pa n) n ((s.storedValue rd).setWidth (8 * n)) := by
  obtain ⟨m, hwrite, hcanonical, hstored⟩ := hstore
  refine ⟨m, s.accessed.run.events, finish_ok (u := ()) ?_, hcanonical, hstored⟩
  rw [storeRegister_ready h.ready ho hu, M.bind_ok _ hwrite, ← size_eq_four h]
  exact writeBack_next s wb rn _ s.clk s.dbg s.trace m s.accessed.run

end Transfers
end Sys2Proof.Machine

open Sys2Proof Sys2Proof.Machine

/-- Settles O10. Each instruction runs one `loadRegister` (`exec_ldr` and the others), which `loadRegister_loads` follows from
the value that the access reads straight from memory. -/
theorem singleLoadResult : Obligations.SingleLoadResult := by
  refine ⟨fun s c p u w rn rd off h hd hrd => ?words, fun s c p u w rn rd off off3 h hd => ?smaller⟩
  case words =>
    have hoff := offsetTwo_ready h.ready off
    refine ⟨fun hok ha => ?ldr, fun hok ha => ?ldrt⟩
    case ldr =>
      rw [exec_ldr h hrd hok]
      exact loadRegister_loads h hoff (asUser_apply s) (loadWord_direct hd _ ha)
    case ldrt =>
      rw [exec_ldrt h hok]
      exact loadRegister_loads h hoff (M.pure_apply s true) (loadWord_direct hd _ ha)
  case smaller =>
    have hoff := offsetTwo_ready h.ready off
    have hoff3 := offsetThree_ready h.ready off3
    refine ⟨fun hok => ?ldrb, fun hok => ?ldrbt, fun hok => ?ldrsb, fun ha => ⟨fun hok => ?ldrh, fun hok => ?ldrsh⟩⟩
    case ldrb =>
      rw [exec_ldrb h hok]
      exact loadRegister_loads h hoff (asUser_apply s) (loadByte_direct hd _)
    case ldrbt =>
      rw [exec_ldrbt h hok]
      exact loadRegister_loads h hoff (M.pure_apply s true) (loadByte_direct hd _)
    case ldrsb =>
      rw [exec_ldrsb h hok]
      exact loadRegister_loads h hoff3 (asUser_apply s) (loadSignedByte_direct hd _)
    case ldrh =>
      rw [exec_ldrh h hok]
      exact loadRegister_loads h hoff3 (asUser_apply s) (loadHalf_direct hd _ ha)
    case ldrsh =>
      rw [exec_ldrsh h hok]
      exact loadRegister_loads h hoff3 (asUser_apply s) (loadSignedHalf_direct hd _ ha)

/-- Settles O11. Each instruction runs one `storeRegister` (`exec_str` and the others), which `storeRegister_stores` follows from
the bytes that the access leaves in memory. -/
theorem storeResult : Obligations.StoreResult := by
  intro s c p u w rn rd off off3 h hd
  have hoff := offsetTwo_ready h.ready off
  have hoff3 := offsetThree_ready h.ready off3
  refine ⟨fun ha hok => ?str, fun ha hok => ?strt, fun hok => ?strb, fun hok => ?strbt, fun ha hok => ?strh⟩
  case str =>
    rw [exec_str h hok]
    exact storeRegister_stores h hoff (asUser_apply s) (memWrite_word hd ha _ _)
  case strt =>
    rw [exec_strt h hok]
    exact storeRegister_stores h hoff (M.pure_apply s true) (memWrite_word hd ha _ _)
  case strb =>
    rw [exec_strb h hok]
    exact storeRegister_stores h hoff (asUser_apply s) (memWrite_aligned hd (.inl rfl) (Nat.mod_one _) _ _)
  case strbt =>
    rw [exec_strbt h hok]
    exact storeRegister_stores h hoff (M.pure_apply s true) (memWrite_aligned hd (.inl rfl) (Nat.mod_one _) _ _)
  case strh =>
    rw [exec_strh h hok]
    exact storeRegister_stores h hoff3 (asUser_apply s) (memWrite_aligned hd (.inr (.inl rfl)) ha _ _)
end

section
/-! # Precise data aborts: alignment, and translation faults of a load (20 R192, R193; 21 R252, R274, R276; 60 R841) -/

namespace Sys2Proof.Machine

/-! ## What a precise data abort reports -/

section Reports
variable {s : State}

/-- The fault registers say what an abort reports: the address and the domain where they are valid, and the status. -/
structure Cp15.Reports (k : Cp15) (a : DataAbort) : Prop where
  far : ∀ x, a.far = some x → k.far = x
  highBit : k.fsr.x = a.status.getLsbD 4
  noDebug : k.fsr.d = false
  status : k.fsr.status = a.status.extractLsb' 0 4
  domain : ∀ d, a.domain = some d → k.fsr.domain = d

theorem setFaultStatus_fsr (s : State) (status : BitVec 5) (domain : Option (BitVec 4)) :
    ∃ d, (s.setFaultStatus status domain).cp15.fsr = ⟨status.getLsbD 4, false, d, status.extractLsb' 0 4⟩ ∧
      ∀ x, domain = some x → d = x := by
  cases domain with
  | none => exact ⟨(s.draw 4).1, rfl, nofun⟩
  | some d => exact ⟨d, rfl, fun _ => Option.some.inj⟩

theorem setFaultAddress_fsr (s : State) (far : Option Word) : (s.setFaultAddress far).cp15.fsr = s.cp15.fsr := by
  cases far <;> rfl

theorem setFaultAddress_far {s : State} {far : Option Word} {x : Word} (h : far = some x) :
    (s.setFaultAddress far).cp15.far = x := by
  subst h
  rfl

theorem setFault_reports (s : State) (a : DataAbort) :
    ((s.setFaultStatus a.status a.domain).setFaultAddress a.far).cp15.Reports a := by
  obtain ⟨d, hstatus, hdomain⟩ := setFaultStatus_fsr s a.status a.domain
  have hfsr := (setFaultAddress_fsr _ a.far).trans hstatus
  exact ⟨fun _ => setFaultAddress_far, by rw [hfsr], by rw [hfsr], by rw [hfsr], by rw [hfsr]; exact hdomain⟩

/-- Taking an exception with no debug leaves CP15 as it was. -/
theorem takeException_cp15 (x : Exc) (link : Word) (h : s.dbg.dcsr.ge = false) :
    (s.takeException x link).cp15 = s.cp15 := by
  rw [takeException_noDebug s x link h, enterMode_eq s x.mode x.saved x.saved_spec]

/-- A precise data abort outside Special Debug State, with no debug, leaves its report in the fault registers. -/
theorem dataAbort_reports (a : DataAbort) (h : s.dbg.dcsr.ge = false) (hs : s.dbg.sds = false) :
    (s.dataAbort a).cp15.Reports a := by
  have hreports := setFault_reports s.loseBreak a
  have hagrees := (setFaultStatus_agrees s.loseBreak a.status a.domain).trans (setFaultAddress_agrees _ a.far)
  rw [dataAbort_noDebug s a h hs]
  generalize (s.loseBreak.setFaultStatus a.status a.domain).setFaultAddress a.far = t at hreports hagrees ⊢
  rw [takeException_cp15 _ _ (by rw [hagrees]; exact h)]
  exact hreports

end Reports

/-! ## Accesses that are not aligned -/

section Misaligned
variable {s : State} {va : Word} {n : Nat}

/-- The abort of an access that is not aligned (20 R192): an alignment status, whose bit 1 is free (93 U41), no domain, and
the remapped address. -/
def State.misaligned (s : State) (va : Word) : DataAbort := ⟨0#3 ++ (s.draw 1).1 ++ 1#1, none, some (s.remap va)⟩

theorem misaligned_status (s : State) (va : Word) : (s.misaligned va).status.getLsbD 4 = false ∧
    (s.misaligned va).status.extractLsb' 0 4 &&& 0b1101 = 0b0001 := by
  have h : ∀ x : BitVec 1, (0#3 ++ x ++ 1#1 : BitVec 5).getLsbD 4 = false ∧
    (0#3 ++ x ++ 1#1 : BitVec 5).extractLsb' 0 4 &&& 0b1101 = 0b0001 := by decide
  exact h _

/-- Halfwords and doublewords must be aligned whatever CTRL.A is (93 U42, log 46), words with CTRL.A set. -/
theorem checkAlign_misaligned (ha : ¬ s.Aligned va n) (hn : s.cp15.ctrl.align = true ∨ n ≠ 4) :
    checkAlign (s.remap va) n s = .error (.abort (s.misaligned va)) (s.draw 1).2 := by
  have hchecked : (s.cp15.ctrl.align || n != 4) = true := by simpa using hn
  rw [checkAlign, if_neg (show ¬ (s.remap va).toNat % n = 0 from ha), M.bind_ok _ (M.state_apply s), if_pos hchecked]
  rfl

theorem locate_misaligned (ha : ¬ s.Aligned va n) (hn : s.cp15.ctrl.align = true ∨ n ≠ 4) (kind : AccessKind)
    (user : Bool) :
    locate va n kind user s = .error (.abort (s.misaligned va)) (s.draw 1).2 :=
  (M.bind_ok _ (M.state_apply s)).trans (M.bind_error _ (checkAlign_misaligned ha hn))

theorem memRead_misaligned (ha : ¬ s.Aligned va n) (hn : s.cp15.ctrl.align = true ∨ n ≠ 4) (user : Bool) :
    memRead va n user s = .error (.abort (s.misaligned va)) (s.draw 1).2 :=
  M.bind_error _ (locate_misaligned ha hn .read user)

theorem memWrite_misaligned (ha : ¬ s.Aligned va n) (hn : s.cp15.ctrl.align = true ∨ n ≠ 4) (v : BitVec (8 * n))
    (user : Bool) :
    memWrite va n v user s = .error (.abort (s.misaligned va)) (s.draw 1).2 :=
  M.bind_error _ (locate_misaligned ha hn .write user)

/-- An instruction whose body takes the alignment abort: the entry, and the report in the fault registers. -/
theorem finish_misaligned (hge : s.dbg.dcsr.ge = false) (hs : s.dbg.sds = false) {body : M Unit}
    (hbody : body s = .error (.abort (s.misaligned va)) (s.draw 1).2) :
    ∃ t, finish body s = .next t ∧ s.Entered t modeAbt 3 (s.pc + 8) 0x10 false ∧ t.cp15.far = s.remap va ∧
      t.cp15.fsr.x = false ∧ t.cp15.fsr.d = false ∧ t.cp15.fsr.status &&& 0b1101 = 0b0001 := by
  obtain ⟨hcpsr, hpc, hregs, hsaved, hrest⟩ := dataAbort_entered (s.draw 1).2 (s.misaligned va) hge hs
  obtain ⟨hfar, hx, hd, hstatus, -⟩ := dataAbort_reports (s := (s.draw 1).2) (s.misaligned va) hge hs
  obtain ⟨hbit, hcode⟩ := misaligned_status s va
  exact ⟨_, finish_abort hbody, ⟨hcpsr, hpc, hregs, hsaved, hrest⟩, hfar _ rfl, hx.trans hbit, hd,
    by rw [hstatus, hcode]⟩

end Misaligned

/-! ### The loads and stores at such an address -/

section Aborts
variable {s : State} {c : Cond} {user : M Bool} {usr p u w : Bool} {rn rd : Reg} {off : M Word} {off3 : Offset3}
  {o : Word} {x : Stop} {t : State}

/-- A load whose access ends early leaves the base and the register as they were (20 R197). -/
theorem loadRegister_stops (h : s.Ready) (ho : off s = .ok o s) (hu : user s = .ok usr s) {load : Word → Bool → M Word}
    (hload : load (s.addressOf p u rn o) usr s = .error x t) : loadRegister load user p u w rn rd off s = .error x t :=
  (loadRegister_ready h ho hu load).trans (M.bind_error _ hload)

/-- A store whose access ends early leaves the base as it was (20 R197). -/
theorem storeRegister_stops (h : s.Ready) (ho : off s = .ok o s) (hu : user s = .ok usr s) {n : Nat}
    (hstore : memWrite (s.addressOf p u rn o) n ((s.storedValue rd).setWidth (8 * n)) usr s = .error x t) :
    storeRegister n user p u w rn rd off s = .error x t :=
  (storeRegister_ready h ho hu n).trans (M.bind_error _ hstore)

theorem strd_operandsAllowed :
    (Instr.strd c p u w rn rd off3).operandsAllowed = (Instr.ldrd c p u w rn rd off3).operandsAllowed := by
  cases off3 <;> rfl

/-- LDRD and STRD of an even register whose operands are allowed pass their checks (42 R552). -/
theorem double_checked (heven : rd.getLsbD 0 = false) (hok : (Instr.ldrd c p u w rn rd off3).operandsAllowed = true)
    (body : M Unit) : (do M.defined (!rd.getLsbD 0); allowed (doubleAllowed p w rn rd off3); body : M Unit) s = body s := by
  have hdefined : M.defined (!rd.getLsbD 0) s = .ok () s := by rw [heven]; rfl
  have hbit : rd[0] = false := heven
  have hallowed : doubleAllowed p w rn rd off3 = true := by
    cases off3 <;>
      simpa [Instr.operandsAllowed, doubleAllowed, offsetPairAllowed, hbit, and_assoc, and_left_comm] using hok
  rw [M.bind_ok _ hdefined, M.bind_ok _ (allowed_true s hallowed)]

/-- A doubleword is checked as a whole before its first word (20 R192). -/
theorem loadDouble_misaligned (h : s.Ready) (heven : rd.getLsbD 0 = false)
    (hok : (Instr.ldrd c p u w rn rd off3).operandsAllowed = true)
    (ha : ¬ s.Aligned (s.addressOf p u rn (s.offsetSmall off3)) 8) :
    loadDouble p u w rn rd off3 s =
      .error (.abort (s.misaligned (s.addressOf p u rn (s.offsetSmall off3)))) (s.draw 1).2 := by
  have haddress := singleAddress_ready h (offsetThree_ready h off3) p u rn
  have halign := checkAlign_misaligned ha (.inr (by decide))
  exact (double_checked heven hok _).trans ((M.bind_ok _ haddress).trans ((M.bind_ok _ (asUser_apply s)).trans
    ((M.bind_ok _ (M.state_apply s)).trans (M.bind_error _ halign))))

theorem storeDouble_misaligned (h : s.Ready) (heven : rd.getLsbD 0 = false)
    (hok : (Instr.strd c p u w rn rd off3).operandsAllowed = true)
    (ha : ¬ s.Aligned (s.addressOf p u rn (s.offsetSmall off3)) 8) :
    storeDouble p u w rn rd off3 s =
      .error (.abort (s.misaligned (s.addressOf p u rn (s.offsetSmall off3)))) (s.draw 1).2 := by
  have haddress := singleAddress_ready h (offsetThree_ready h off3) p u rn
  have halign := checkAlign_misaligned ha (.inr (by decide))
  have hchecked := strd_operandsAllowed.symm.trans hok
  exact (double_checked heven hchecked _).trans ((M.bind_ok _ haddress).trans ((M.bind_ok _ (reg_ready h rd)).trans
    ((M.bind_ok _ (reg_ready h (rd + 1))).trans ((M.bind_ok _ (asUser_apply s)).trans
      ((M.bind_ok _ (M.state_apply s)).trans (M.bind_error _ halign))))))

end Aborts

/-! ## Table walks straight from memory -/

/-- A data access of an address that the DTLB does not hold, and whose first-level descriptor a walk reads straight from
memory: the MMU on, no L2 in use, no bus error, no reserved or product-defined setting of walks (21 R261), and no newer
contents of the descriptor's line in a cache or buffer (93 U50). -/
structure State.WalksMemory (s : State) (mva : Word) : Prop where
  mmu : s.cp15.ctrl.mmu = true
  noL2 : s.l2On = false
  noErrors : s.ext.busErrors = []
  defined : s.cp15.ttOC ≠ 1
  noMeaning : s.cfg.pBitUsed = false
  missing : s.tlbs.d.lookup mva = none
  coherent : s.Coherent (lineOf (s.cp15.l1Address mva))

/-- The first-level descriptor of an address in memory (21 R252). -/
def State.l1Descriptor (s : State) (mva : Word) : Word := s.mem.readBytes (s.cp15.l1Address mva) 4

theorem l1Address_aligned (k : Cp15) (mva : Word) : (k.l1Address mva).toNat % 4 = 0 := by
  rw [Cp15.l1Address, BitVec.toNat_append]
  simp [Nat.shiftLeft_eq]

/-- The entry of a section (21 R253). -/
theorem sectionEntry_fields {desc mva : Word} (h : desc.getLsbD 18 = false) :
    (sectionEntry desc mva).domain = desc.extractLsb' 5 4 ∧ (sectionEntry desc mva).kind.isSection = true := by
  simp only [sectionEntry, h]
  exact ⟨rfl, rfl⟩

/-- A section of a domain without access faults (21 R274). -/
theorem checkEntry_noAccess {s : State} {e : TlbEntry} (hdomain : dacrField s.cp15.dacr e.domain = 0)
    (hsection : e.kind.isSection = true) (mva : Word) (kind : AccessKind) (user : Bool) :
    checkEntry e mva kind user s = .ok (.error ⟨0b01001, some e.domain⟩) s := by
  have hfield : (dacrField s.cp15.dacr e.domain).toNat = 0 := congrArg BitVec.toNat hdomain
  simp only [checkEntry, M.bind_apply, M.state_apply, hfield, hsection, if_true, M.pure_apply]

section Walks
variable {s : State} {mva : Word} (h : s.WalksMemory mva)
include h

/-- The walk reads the descriptor in memory, the newest one. -/
theorem walkRead_l1 : walkRead (s.cp15.l1Address mva) s = .ok (some (s.l1Descriptor mva)) s := by
  have haccess : walkAccess (s.cp15.l1Address mva) s = .ok (some (s.l1Descriptor mva)) s := by
    have hpast : s.walkInL2 = false := by simp [State.walkInL2, h.noL2]
    simp [walkAccess, M.bind_apply, M.map_apply, hpast, busRead_direct h.noErrors, State.l1Descriptor]
  have hnewest : oldOrNewWord (s.cp15.l1Address mva) (s.l1Descriptor mva) s = .ok (some (s.l1Descriptor mva)) s := by
    have hc : s.newestLine (lineOf (s.cp15.l1Address mva)) = _ := h.coherent
    simp [oldOrNewWord, M.bind_apply, hc, lineWord_memoryLine s (l1Address_aligned _ _), State.l1Descriptor]
  have hdefined : (s.cp15.ttOC != 1) = true := bne_iff_ne.mpr h.defined
  simp only [walkRead, M.bind_apply, M.state_apply, hdefined, h.noMeaning, Bool.false_and, Bool.not_false, M.require_true,
    haccess, hnewest]

/-- A descriptor of the fault type ends the walk with a translation fault of a section (21 R276). -/
theorem tableWalk_faultDescriptor (hd : (s.l1Descriptor mva).extractLsb' 0 2 = 0) :
    tableWalk mva s = .ok (.error ⟨0b00101, none⟩) s := by
  have h0 : (s.l1Descriptor mva).getLsbD 0 = false := by simpa using congrArg (·.getLsbD 0) hd
  have h1 : (s.l1Descriptor mva).getLsbD 1 = false := by simpa using congrArg (·.getLsbD 1) hd
  simp only [tableWalk, tableWalkWith, M.bind_apply, M.state_apply, walkRead_l1 h, h0, h1, M.pure_apply]

/-- A section descriptor ends it with the section's entry (21 R253). -/
theorem tableWalk_section (hd : (s.l1Descriptor mva).extractLsb' 0 2 = 2) (hsection : (s.l1Descriptor mva).getLsbD 18 = false) :
    tableWalk mva s = .ok (.ok ((sectionEntry (s.l1Descriptor mva) mva).withLlr s.cp15)) s := by
  have h0 : (s.l1Descriptor mva).getLsbD 0 = false := by simpa using congrArg (·.getLsbD 0) hd
  have h1 : (s.l1Descriptor mva).getLsbD 1 = true := by simpa using congrArg (·.getLsbD 1) hd
  simp only [tableWalk, tableWalkWith, M.bind_apply, M.state_apply, walkRead_l1 h, h0, h1, hsection, Bool.not_false,
    Bool.true_or, M.require_true, M.pure_apply]

/-- The note of a TLB miss leaves the walk as it is. -/
theorem State.WalksMemory.noted : (s.note 0x04).WalksMemory mva :=
  ⟨h.mmu, h.noL2, h.noErrors, h.defined, h.noMeaning, h.missing, h.coherent⟩

theorem translate_faultDescriptor (hd : (s.l1Descriptor mva).extractLsb' 0 2 = 0) (user : Bool) :
    translate mva .read user s = .ok (.error ⟨0b00101, none⟩) (s.note 0x04) := by
  have hmissing : (s.tlbFor .read).lookup mva = none := h.missing
  have hwalk := tableWalk_faultDescriptor h.noted hd
  simp only [translate, findEntry, M.bind_apply, M.state_apply, hmissing, M.update_apply, reduceCtorEq, if_false, hwalk,
    M.pure_apply]

/-- The entry of a section is in the DTLB before its domain is checked (21 R250). -/
theorem translate_noAccess (hd : (s.l1Descriptor mva).extractLsb' 0 2 = 2) (hsection : (s.l1Descriptor mva).getLsbD 18 = false)
    (hdomain : dacrField s.cp15.dacr ((s.l1Descriptor mva).extractLsb' 5 4) = 0) (user : Bool) :
    ∃ tlbs, translate mva .read user s =
      .ok (.error ⟨0b01001, some ((s.l1Descriptor mva).extractLsb' 5 4)⟩) ((s.note 0x04).setTlbs tlbs) := by
  have hmissing : (s.tlbFor .read).lookup mva = none := h.missing
  have hentry : ∃ e, tableWalk mva (s.note 0x04) = .ok (.ok e) (s.note 0x04) ∧
      e.domain = (s.l1Descriptor mva).extractLsb' 5 4 ∧ e.kind.isSection = true :=
    ⟨_, tableWalk_section h.noted hd hsection, sectionEntry_fields (mva := mva) hsection⟩
  obtain ⟨e, hwalk, hedomain, hekind⟩ := hentry
  rw [← hedomain] at hdomain
  have hcheck := checkEntry_noAccess (s := (s.note 0x04).tlbInsert .read e) hdomain hekind mva .read user
  refine ⟨((s.note 0x04).tlbInsert .read e).tlbs, ?_⟩
  simp only [translate, findEntry, M.bind_apply, M.state_apply, hmissing, M.update_apply, reduceCtorEq, if_false, hwalk,
    M.pure_apply, hcheck, hedomain]
  rfl

end Walks

/-! ## A load whose translation faults -/

section Faults
variable {s t : State} {va : Word} {n : Nat} {user : Bool} {f : MmuFault}

/-- The fault of a translation is the abort of the access (60 R840). -/
theorem memRead_faults (hmmu : s.cp15.ctrl.mmu = true) (ha : s.Aligned va n)
    (hf : translate (s.remap va) .read user s = .ok (.error f) t) :
    memRead va n user s = .error (.abort (f.toAbort (s.remap va))) t := by
  have hlocate : locateMva (s.remap va) .read user s = .error (.abort (f.toAbort (s.remap va))) t := by
    simp only [locateMva, M.bind_apply, M.state_apply, hmmu, if_true, hf, M.stop_apply]
  exact M.bind_error _ ((M.bind_ok _ (M.state_apply s)).trans
    ((M.bind_ok _ (checkAlign_aligned ha)).trans (M.bind_error _ hlocate)))

/-- An instruction whose body takes the abort of a translation fault (with bit 10 of the status clear), TLBs and the model's own
fields alone changed before it: the entry, and the report in the fault registers. -/
theorem finish_mmuFault (hge : s.dbg.dcsr.ge = false) (hs : s.dbg.sds = false) {tlbs : Tlbs} {run : Run} {mva : Word}
    {code : BitVec 4} (hf : f.status = 0#1 ++ code) {q : Fsr → Prop}
    (hq : ∀ x, (∀ d, f.domain = some d → x.domain = d) → q x) {body : M Unit}
    (hbody : body s = .error (.abort (f.toAbort mva)) ((s.setTlbs tlbs).setRun run)) :
    ∃ t, finish body s = .next t ∧
      t.cpsr = { s.cpsr with m := modeAbt, t := false, i := true } ∧ t.spsr = s.spsr.set 3 s.cpsr ∧
      t.regs = s.regs.set (bankedRegister s.cfg.debugBanksR13 modeAbt 14) (s.pc + 8) ∧
      t.pc = (if s.cp15.ctrl.highVectors then 0xFFFF0000 else 0) + 0x10 ∧ t.mem = s.mem ∧
      t.cp15.far = mva ∧ t.cp15.fsr.x = false ∧ t.cp15.fsr.d = false ∧ t.cp15.fsr.status = code ∧
      q t.cp15.fsr := by
  obtain ⟨hcpsr, hpc, hregs, hsaved, hrest⟩ :=
    dataAbort_entered ((s.setTlbs tlbs).setRun run) (f.toAbort mva) hge hs
  obtain ⟨hfar, hx, hd, hstatus, hdomain⟩ := dataAbort_reports (s := (s.setTlbs tlbs).setRun run) (f.toAbort mva) hge hs
  rw [show (f.toAbort mva).status = 0#1 ++ code from hf] at hx hstatus
  refine ⟨_, finish_abort hbody, ?cpsr, hsaved, hregs, hpc, ?memory, hfar _ rfl, ?highBit, hd, ?status, hq _ hdomain⟩
  case cpsr =>
    rw [hcpsr, Bool.or_false]
    rfl
  case memory =>
    rw [hrest]
    rfl
  case highBit =>
    rw [hx, BitVec.getLsbD_append]
    rfl
  case status => rw [hstatus, BitVec.extractLsb'_append_eq_right]

end Faults
end Sys2Proof.Machine

open Sys2Proof Sys2Proof.Machine

/-- Settles O17. An access that is not aligned ends in `finish_misaligned` before anything else happens to it; a load that
misses the DTLB walks to the descriptor in memory, whose fault or domain check `finish_mmuFault` reports. -/
theorem dataAborts : Obligations.DataAborts := by
  refine ⟨fun s c p u w rn rd off off3 h hge hs hrd => ?alignment,
    fun s c rn rd off12 h hrd hmmu hl2 hb hoc hge hs => ?translation⟩
  case alignment =>
    have hoff := offsetTwo_ready h.ready off
    have hoff3 := offsetThree_ready h.ready off3
    have huser := asUser_apply s
    refine ⟨fun hword => ⟨fun hok ha => ?ldr, fun hok ha => ?str⟩, fun hok ha => ?ldrh, fun hok ha => ?ldrsh,
      fun hok ha => ?strh, fun heven => ⟨fun hok ha => ?ldrd, fun hok ha => ?strd⟩⟩
    case ldr =>
      rw [exec_ldr h hrd hok]
      exact finish_misaligned hge hs
        (loadRegister_stops h.ready hoff huser (M.bind_error _ (memRead_misaligned ha (.inl hword) _)))
    case str =>
      rw [exec_str h hok]
      exact finish_misaligned hge hs (storeRegister_stops h.ready hoff huser (memWrite_misaligned ha (.inl hword) _ _))
    case ldrh =>
      rw [exec_ldrh h hok]
      exact finish_misaligned hge hs
        (loadRegister_stops h.ready hoff3 huser (M.bind_error _ (memRead_misaligned ha (.inr (by decide)) _)))
    case ldrsh =>
      rw [exec_ldrsh h hok]
      exact finish_misaligned hge hs
        (loadRegister_stops h.ready hoff3 huser (M.bind_error _ (memRead_misaligned ha (.inr (by decide)) _)))
    case strh =>
      rw [exec_strh h hok]
      exact finish_misaligned hge hs (storeRegister_stops h.ready hoff3 huser (memWrite_misaligned ha (.inr (by decide)) _ _))
    case ldrd =>
      rw [exec_ldrd h]
      exact finish_misaligned hge hs (loadDouble_misaligned h.ready heven hok ha)
    case strd =>
      rw [exec_strd h]
      exact finish_misaligned hge hs (storeDouble_misaligned h.ready heven hok ha)
  case translation =>
    intro va mva at1 desc i aborts ha hmissing hp hc
    have hwalks : s.WalksMemory mva := ⟨hmmu, hl2, hb, hoc, hp, hmissing, hc⟩
    have hfaults {f : MmuFault} {t : State} (hf : translate mva .read s.userMode s = .ok (.error f) t) :
        loadRegister loadWord asUser true true false rn rd (offsetTwo (.imm off12)) s = .error (.abort (f.toAbort mva)) t :=
      loadRegister_stops h.ready (offsetTwo_ready h.ready _) (asUser_apply s) (M.bind_error _ (memRead_faults hmmu ha hf))
    have hruns : exec i s = _ := exec_ldr h hrd rfl
    refine ⟨fun hd => ?faultDescriptor, fun hd hsection hdomain => ?noAccess⟩
    case faultDescriptor =>
      have hload := hfaults (translate_faultDescriptor hwalks hd s.userMode)
      have habort := finish_mmuFault hge hs (tlbs := s.tlbs) (run := (s.note 0x04).run) (code := 0b0101) rfl
        (q := fun _ => True) (fun _ _ => trivial) hload
      exact habort.imp fun t ⟨hnext, hleft⟩ => ⟨hruns.trans hnext, hleft⟩
    case noAccess =>
      obtain ⟨tlbs, hf⟩ := translate_noAccess hwalks hd hsection hdomain s.userMode
      have habort := finish_mmuFault hge hs (tlbs := tlbs) (run := (s.note 0x04).run) (code := 0b1001) rfl
        (q := fun x => x.domain = desc.extractLsb' 5 4) (fun _ hx => hx _ rfl) (hfaults hf)
      exact habort.imp fun t ⟨hnext, hleft⟩ => ⟨hruns.trans hnext, hleft⟩
end

section
/-! # The TLB functions: invalidate, translate and lock, unlock (45 R689 to R694, R703 to R707; 21 R290 to R292) -/

namespace Sys2Proof.Machine

/-! ## The operations on a TLB -/

section Operations
variable (t : Tlb) (mva : Word)

theorem Tlb.invalidate_eq_filter : t.invalidate = { t with entries := t.entries.map fun o => o.filter (·.locked) } := by
  have hentry (o : Option TlbEntry) : (o.bind fun e => if e.locked then some e else none) = o.filter (·.locked) := by
    cases o <;> rfl
  simp only [Tlb.invalidate, hentry]

theorem Tlb.invalidateAt_eq_filter :
    t.invalidateAt mva = { t with entries := t.entries.map fun o => o.filter (fun e => !e.covers mva) } := by
  have hentry (o : Option TlbEntry) :
      (o.bind fun e => if e.covers mva then none else some e) = o.filter (fun e => !e.covers mva) := by
    cases o with
    | none => rfl
    | some e => cases h : e.covers mva <;> simp [Option.filter, h]
  simp only [Tlb.invalidateAt, hentry]

/-- The check of an entry function fails for one locked entry that covers the address, wherever it stands (log 50). -/
theorem Tlb.unlockedAt_eq_false_iff : t.unlockedAt mva = false ↔
    ∃ e, some e ∈ t.entries.toList ∧ e.locked = true ∧ e.covers mva = true := by
  rw [Tlb.unlockedAt, List.all_eq_false]
  constructor
  · rintro ⟨o, hmem, ho⟩
    cases o with
    | none => exact absurd rfl ho
    | some e => exact ⟨e, hmem, by simpa using ho⟩
  · rintro ⟨e, hmem, hlocked, hcovers⟩
    exact ⟨some e, hmem, by simp [hlocked, hcovers]⟩

end Operations

/-! ## A section in a locked entry -/

/-- Low bits of a value beside a base that has zeros there: the `or` of the two puts them side by side (21 R259). -/
theorem append_zero_or_lowBits {w n m : Nat} (base : BitVec w) (v : BitVec m) (hn : n ≤ m) :
    (base ++ 0#n) ||| (v &&& BitVec.ofNat m (2 ^ n - 1)).setWidth (w + n) = base ++ v.extractLsb' 0 n := by
  have hmask (i : Nat) : (BitVec.ofNat m (2 ^ n - 1)).getLsbD i = decide (i < n) := by
    rw [BitVec.getLsbD_ofNat, Nat.testBit_two_pow_sub_one, ← Bool.decide_and]
    exact decide_eq_decide.mpr (and_iff_right_of_imp fun hi => by omega)
  apply BitVec.eq_of_getLsbD_eq
  intro i hi
  by_cases hlow : i < n <;> simp [BitVec.getElem_append, hmask, hlow, hi]

theorem sectionEntry_pa {desc mva : Word} (h : desc.getLsbD 18 = false) :
    (sectionEntry desc mva).pa mva = 0#4 ++ desc.extractLsb' 20 12 ++ mva.extractLsb' 0 20 := by
  rw [← append_zero_or_lowBits _ mva (by decide)]
  simp only [TlbEntry.pa, sectionEntry, h, PageKind.bits, Bool.false_eq_true, if_false]

/-- What Translate and Lock makes of a TLB, for a section descriptor of an address: the section's translation in a locked
entry at the lock pointer, which moves on (21 R253, R291). -/
def Tlb.LocksSection (t t' : Tlb) (desc mva : Word) : Prop :=
  ∃ e : TlbEntry, e.locked = true ∧ e.kind = .sect ∧ e.covers mva = true ∧
    e.pa mva = 0#4 ++ desc.extractLsb' 20 12 ++ mva.extractLsb' 0 20 ∧ e.domain = desc.extractLsb' 5 4 ∧
    t' = ⟨t.entries.set t.lockptr (some e), 31, t.lockptr + 1⟩

theorem Tlb.lock_locksSection {t : Tlb} {desc mva : Word} (hptr : t.lockptr < 31) (hsection : desc.getLsbD 18 = false)
    (k : Cp15) : t.LocksSection (t.lock ((sectionEntry desc mva).withLlr k)) desc mva := by
  have hkind : (sectionEntry desc mva).kind = .sect := by simp only [sectionEntry, hsection, Bool.false_eq_true, if_false]
  exact ⟨{ (sectionEntry desc mva).withLlr k with locked := true }, rfl, hkind, beq_self_eq_true _, sectionEntry_pa hsection,
    (sectionEntry_fields (mva := mva) hsection).1, if_pos hptr⟩

/-! ## The walk of a lock -/

/-- A walk reads the first-level descriptor of an address straight from memory: no L2 in use, no bus error, no reserved or
product-defined setting of walks (21 R261), and no newer contents of the descriptor's line in a cache or buffer (93 U50). A lock
of the ITLB walks whatever the DTLB holds, so the miss of the DTLB that `State.WalksMemory` asks for is not part of it. -/
structure State.TableInMemory (s : State) (mva : Word) : Prop where
  noL2 : s.l2On = false
  noErrors : s.ext.busErrors = []
  defined : s.cp15.ttOC ≠ 1
  noMeaning : s.cfg.pBitUsed = false
  coherent : s.Coherent (lineOf (s.cp15.l1Address mva))

section Walk
variable {s : State} {mva : Word}

theorem walkRead_tableInMemory (h : s.TableInMemory mva) :
    walkRead (s.cp15.l1Address mva) s = .ok (some (s.l1Descriptor mva)) s := by
  have haccess : walkAccess (s.cp15.l1Address mva) s = .ok (some (s.l1Descriptor mva)) s := by
    have hpast : s.walkInL2 = false := by rw [State.walkInL2, h.noL2, Bool.false_and]
    simp [walkAccess, M.bind_apply, M.map_apply, hpast, busRead_direct h.noErrors, State.l1Descriptor]
  have hword : lineWord (s.memoryLine (lineOf (s.cp15.l1Address mva))) (wordIndex (s.cp15.l1Address mva)) =
      s.l1Descriptor mva := lineWord_memoryLine s (l1Address_aligned _ _)
  have hnewest : oldOrNewWord (s.cp15.l1Address mva) (s.l1Descriptor mva) s = .ok (some (s.l1Descriptor mva)) s := by
    have hline : s.newestLine (lineOf (s.cp15.l1Address mva)) = _ := h.coherent
    simp [oldOrNewWord, M.bind_apply, hline, hword]
  have hdefined : (s.cp15.ttOC != 1) = true := bne_iff_ne.mpr h.defined
  simp only [walkRead, M.bind_apply, M.state_apply, hdefined, h.noMeaning, Bool.false_and, Bool.not_false, M.require_true,
    haccess, hnewest]

/-- A descriptor of the fault type ends the walk with a fault (21 R276). -/
theorem tableWalk_of_faultDescriptor (h : s.TableInMemory mva) (hd : (s.l1Descriptor mva).extractLsb' 0 2 = 0) :
    tableWalk mva s = .ok (.error ⟨0b00101, none⟩) s := by
  have h0 : (s.l1Descriptor mva).getLsbD 0 = false := by simpa using congrArg (·.getLsbD 0) hd
  have h1 : (s.l1Descriptor mva).getLsbD 1 = false := by simpa using congrArg (·.getLsbD 1) hd
  simp only [tableWalk, tableWalkWith, M.bind_apply, M.state_apply, walkRead_tableInMemory h, h0, h1, M.pure_apply]

/-- A section descriptor ends it with the section's entry (21 R253). -/
theorem tableWalk_of_section (h : s.TableInMemory mva) (hd : (s.l1Descriptor mva).extractLsb' 0 2 = 2)
    (hsection : (s.l1Descriptor mva).getLsbD 18 = false) :
    tableWalk mva s = .ok (.ok ((sectionEntry (s.l1Descriptor mva) mva).withLlr s.cp15)) s := by
  have h0 : (s.l1Descriptor mva).getLsbD 0 = false := by simpa using congrArg (·.getLsbD 0) hd
  have h1 : (s.l1Descriptor mva).getLsbD 1 = true := by simpa using congrArg (·.getLsbD 1) hd
  simp only [tableWalk, tableWalkWith, M.bind_apply, M.state_apply, walkRead_tableInMemory h, h0, h1, hsection,
    Bool.not_false, Bool.true_or, M.require_true, M.pure_apply]

end Walk

/-! ## Translate and Lock -/

section Lock
variable {s : State} {t : Tlb} {mva : Word}

theorem tlbLockable_mmuOff (hmmu : s.cp15.ctrl.mmu = false) : tlbLockable s = .error (.refuse .tlbLockMmuOff) s := by
  rw [tlbLockable, M.bind_ok _ (M.state_apply s), hmmu, M.require_false]

theorem tlbLockable_mmuOn (hmmu : s.cp15.ctrl.mmu = true) : tlbLockable s = .ok () s := by
  rw [tlbLockable, M.bind_ok _ (M.state_apply s), hmmu, M.require_true]

theorem sharable_ok {e : TlbEntry} (h : e.s = false ∨ s.cfg.coherency = true) : sharable e s = .ok () s := by
  have hallowed : (!e.s || s.cfg.coherency) = true := by simpa using h
  rw [sharable, M.bind_ok _ (M.state_apply s), hallowed, M.require_true]

/-- S on a product without coherence support (93 U48). -/
theorem sharable_refused {e : TlbEntry} (he : e.s = true) (hc : s.cfg.coherency = false) :
    sharable e s = .error (.refuse .sharedWithoutCoherence) s := by
  rw [sharable, M.bind_ok _ (M.state_apply s), he, hc, Bool.not_true, Bool.or_false, M.require_false]

theorem walkToLock_mmuOff (hmmu : s.cp15.ctrl.mmu = false) :
    walkToLock t mva s = .error (.refuse .tlbLockMmuOff) s := M.bind_error _ (tlbLockable_mmuOff hmmu)

variable (hmmu : s.cp15.ctrl.mmu = true) (ht : t.lookup mva = none)
include hmmu ht

/-- Any fault of the walk is the lock abort (60 R846). -/
theorem walkToLock_fault {f : MmuFault} (hwalk : tableWalk mva s = .ok (.error f) s) :
    walkToLock t mva s = .error (.abort ⟨0b10100, none, none⟩) s := by
  simp only [walkToLock, M.bind_apply, tlbLockable_mmuOn hmmu, ht, Option.isNone_none, M.require_true, hwalk, lockAbort,
    M.stop_apply]

/-- Of an entry the walk found, only the S bit is checked (21 R282). -/
theorem walkToLock_walked {e : TlbEntry} (hwalk : tableWalk mva s = .ok (.ok e) s) :
    walkToLock t mva s = (do sharable e; pure e) s := by
  simp only [walkToLock, M.bind_apply, tlbLockable_mmuOn hmmu, ht, Option.isNone_none, M.require_true, hwalk]

end Lock

/-! ## The instructions -/

section Instructions
variable {s : State} {c : Cond} {rd : Reg}

/-- An effect that looks at the state, then stops in its first action. -/
theorem M.state_bind_error {α β : Type} {s' : State} {m : State → M α} {f : State → α → M β} {x : Stop}
    (e : m s s = .error x s') :
    (do let t ← M.state; let a ← m t; f t a : M β) s = .error x s' :=
  (M.bind_ok _ (M.state_apply s)).trans (M.bind_error _ e)

/-- An allowed MCR that changes the TLBs alone. -/
theorem systemWrite_setTlbs (h : s.RunsArm c) (hp : s.privileged = true) (h15 : rd ≠ 15) {effect : Word → M Unit}
    {tlbs : Tlbs} (e : effect (s.readReg rd) s = .ok () (s.setTlbs tlbs)) :
    systemWrite c rd effect s = .next { s with pc := s.pc + 4, tlbs := tlbs } := by
  rw [systemWrite_runs h hp h15 e, ← size_eq_four h]
  rfl

/-- An allowed MCR that takes a lock abort, with no debug: the entry, the status of the abort in the FSR, the TLBs as they were
(60 R846). -/
theorem systemWrite_lockAborts (h : s.RunsArm c) (hp : s.privileged = true) (h15 : rd ≠ 15) (hge : s.dbg.dcsr.ge = false)
    (hs : s.dbg.sds = false) {effect : Word → M Unit}
    (e : effect (s.readReg rd) s = .error (.abort ⟨0b10100, none, none⟩) s) :
    ∃ t, systemWrite c rd effect s = .next t ∧ s.Entered t modeAbt 3 (s.pc + 8) 0x10 false ∧
      t.cp15.fsr.x = true ∧ t.cp15.fsr.d = false ∧ t.cp15.fsr.status = 0b0100 ∧ t.tlbs = s.tlbs := by
  have hentered := dataAbort_entered s ⟨0b10100, none, none⟩ hge hs
  have hreports := dataAbort_reports (s := s) ⟨0b10100, none, none⟩ hge hs
  refine ⟨_, ?_, hentered, hreports.highBit, hreports.noDebug, hreports.status, by rw [hentered.rest]⟩
  rw [systemWrite, runIf_holds _ h.holds]
  apply finish_abort
  simp [M.bind_apply, privilegedOnly, hp, allowed_true _ (notPc_one h15), reg_ready h.ready, e]

end Instructions

end Sys2Proof.Machine

open Sys2Proof Sys2Proof.Machine

/-- Settles O37. Each function changes a TLB by one operation, stated above in the terms of the obligation; Translate and Lock is
the walk to the descriptor in memory (`tableWalk_of_section`, `tableWalk_of_faultDescriptor`), then the check of the S bit. The
two sides of the MMU share every step, so each fact is for any TLB. -/
theorem tlbFunctions : Obligations.TlbFunctions := by
  refine ⟨fun s c rd h h15 hp => ?invalidate, fun s c rd h h15 hp => ?lock⟩
  case invalidate =>
    intro v kept without done held
    have writes {effect : Word → M Unit} {i d : Tlb} (e : effect v s = .ok () (s.setTlbs ⟨i, d⟩)) :
        systemWrite c rd effect s = done i d := systemWrite_setTlbs h hp h15 e
    have refuses {effect : Word → M Unit} {r : Refusal} (e : effect v s = .error (.refuse r) s) :
        systemWrite c rd effect s = .refused r := systemWrite_refused h hp h15 e
    have hheld {t : Tlb} (ht : held t) :
        M.require (t.unlockedAt v) .lockedTlbEntryInvalidated s = .error (.refuse .lockedTlbEntryInvalidated) s := by
      rw [(t.unlockedAt_eq_false_iff v).mpr ht, M.require_false]
    have hfree {t : Tlb} (ht : ¬ held t) : M.require (t.unlockedAt v) .lockedTlbEntryInvalidated s = .ok () s := by
      rw [eq_true_of_ne_false (mt (t.unlockedAt_eq_false_iff v).mp ht), M.require_true]
    have hkept : kept = Tlb.invalidate := funext fun t => t.invalidate_eq_filter.symm
    have hwithout : without = (Tlb.invalidateAt · v) := funext fun t => (t.invalidateAt_eq_filter v).symm
    rw [hkept, hwithout]
    exact ⟨writes rfl, writes rfl, writes rfl,
      fun ht => refuses (M.state_bind_error (hheld ht)), fun ht => writes (M.bind_ok _ (hfree ht)),
      fun ht => refuses (M.state_bind_error (hheld ht)), fun ht => writes (M.bind_ok _ (hfree ht))⟩
  case lock =>
    intro v at1 desc done opened isLocked aborts walks
    have writes {effect : Word → M Unit} {tlbs : Tlbs} (e : effect v s = .ok () (s.setTlbs tlbs)) :
        systemWrite c rd effect s = done tlbs := systemWrite_setTlbs h hp h15 e
    have refuses {effect : Word → M Unit} {r : Refusal} (e : effect v s = .error (.refuse r) s) :
        systemWrite c rd effect s = .refused r := systemWrite_refused h hp h15 e
    have htable : walks → s.TableInMemory v := fun ⟨hl2, hb, hoc, hmeaning, hc⟩ => ⟨hl2, hb, hoc, hmeaning, hc⟩
    refine ⟨fun hmmu => ?mmuOff, fun hmmu => ⟨writes ?unlockI, writes ?unlockD, fun hw hd hsection hs hc => ?shared,
      fun hw hd hsection hs => ?locked, fun hw hd hge hsds => ?fault⟩⟩
    case mmuOff =>
      exact ⟨refuses (M.state_bind_error (walkToLock_mmuOff hmmu)), refuses (M.state_bind_error (walkToLock_mmuOff hmmu)),
        refuses (M.bind_error _ (tlbLockable_mmuOff hmmu)), refuses (M.bind_error _ (tlbLockable_mmuOff hmmu))⟩
    case unlockI => exact M.bind_ok _ (tlbLockable_mmuOn hmmu)
    case unlockD => exact M.bind_ok _ (tlbLockable_mmuOn hmmu)
    case shared =>
      have hshared {t : Tlb} (ht : t.lookup v = none) :
          walkToLock t v s = .error (.refuse .sharedWithoutCoherence) s :=
        (walkToLock_walked hmmu ht (tableWalk_of_section (htable hw) hd hsection)).trans
          (M.bind_error _ (sharable_refused hs hc))
      exact ⟨fun ht => refuses (M.state_bind_error (hshared ht)), fun ht => refuses (M.state_bind_error (hshared ht))⟩
    case locked =>
      have hwalked {t : Tlb} (ht : t.lookup v = none) :
          walkToLock t v s = .ok ((sectionEntry desc v).withLlr s.cp15) s :=
        (walkToLock_walked hmmu ht (tableWalk_of_section (htable hw) hd hsection)).trans (M.bind_ok _ (sharable_ok hs))
      exact ⟨fun ht hptr => ⟨_, writes (M.bind_ok _ (hwalked ht)), Tlb.lock_locksSection hptr hsection s.cp15⟩,
        fun ht hptr => ⟨_, writes (M.bind_ok _ (hwalked ht)), Tlb.lock_locksSection hptr hsection s.cp15⟩⟩
    case fault =>
      have hfault {t : Tlb} (ht : t.lookup v = none) : walkToLock t v s = .error (.abort ⟨0b10100, none, none⟩) s :=
        walkToLock_fault hmmu ht (tableWalk_of_faultDescriptor (htable hw) hd)
      have aborted {effect : Word → M Unit} (e : effect v s = .error (.abort ⟨0b10100, none, none⟩) s) :=
        systemWrite_lockAborts h hp h15 hge hsds e
      exact ⟨fun ht => aborted (M.state_bind_error (hfault ht)), fun ht => aborted (M.state_bind_error (hfault ht))⟩
end

section
/-! # The arithmetic of data processing: addition with carry, the rotated immediate, the shift tables (40 R431 to R433) -/

namespace Sys2Proof.Machine

/-! ## Addition with carry (R433) -/

section AddWithCarry
variable (x y : Word) (c : Bool)

theorem addWithCarry_value : (addWithCarry x y c).value = x + y + (if c then 1 else 0) := by
  apply BitVec.eq_of_toNat_eq
  cases c <;> simp [addWithCarry]

theorem addWithCarry_false_value : (addWithCarry x y false).value = x + y :=
  (addWithCarry_value x y false).trans (BitVec.add_zero _)

theorem addWithCarry_carry_iff : (addWithCarry x y c).carry = true ↔ 2 ^ 32 ≤ x.toNat + y.toNat + c.toNat :=
  decide_eq_true_iff

/-- The narrowed sum differs from the signed sum where that leaves the signed range. -/
theorem addWithCarry_overflow_iff : (addWithCarry x y c).overflow = true ↔
    x.toInt + y.toInt + c.toNat < -2 ^ 31 ∨ 2 ^ 31 ≤ x.toInt + y.toInt + c.toNat := by
  have hx := x.isLt
  have hy := y.isLt
  have hc : c.toNat ≤ 1 := c.toNat_le
  simp only [addWithCarry, decide_eq_true_iff, BitVec.toInt_eq_toNat_cond, BitVec.toNat_ofNat]
  omega

/-- The complement of a subtrahend, read as a signed word. -/
theorem toInt_not_eq : (~~~y).toInt = -1 - y.toInt := by
  have hy := y.isLt
  simp only [BitVec.toInt_eq_toNat_cond, BitVec.toNat_not]
  omega

theorem addWithCarry_not_value : (addWithCarry x (~~~y) true).value = x - y := by
  rw [addWithCarry_value, BitVec.sub_eq_add_neg, BitVec.neg_eq_not_add, if_pos rfl, BitVec.add_assoc]
  rfl

/-- The carry of a subtraction says that no borrow occurred. -/
theorem addWithCarry_not_carry_iff : (addWithCarry x (~~~y) true).carry = true ↔ y.toNat ≤ x.toNat := by
  have hy := y.isLt
  rw [addWithCarry_carry_iff, BitVec.toNat_not, Bool.toNat_true]
  omega

theorem addWithCarry_not_overflow_iff : (addWithCarry x (~~~y) true).overflow = true ↔
    x.toInt - y.toInt < -2 ^ 31 ∨ 2 ^ 31 ≤ x.toInt - y.toInt := by
  rw [addWithCarry_overflow_iff, toInt_not_eq, Bool.toNat_true]
  omega

/-- Subtraction with carry (R446, R447): one less where the carry says that a borrow occurred. -/
theorem addWithCarry_not_value_borrow :
    (addWithCarry x (~~~y) c).value = x - y - (1 - if c then 1 else 0) := by
  cases c
  · rw [addWithCarry_value]
    bv_omega
  · rw [addWithCarry_not_value]
    simp

end AddWithCarry

/-! ## The rotated immediate (R432) -/

theorem rotatedImm_getLsbD (rot : BitVec 4) (imm8 : BitVec 8) {i : Nat} (hi : i < 32) :
    (rotatedImm rot imm8).getLsbD i = (imm8.setWidth 32 : Word).getLsbD ((i + 2 * rot.toNat) % 32) := by
  have hrot := rot.isLt
  rw [rotatedImm, BitVec.getLsbD_rotateRight, Nat.mod_eq_of_lt (by omega : 2 * rot.toNat < 32)]
  by_cases hlow : i < 32 - 2 * rot.toNat
  · rw [decide_eq_true hlow, cond_true, Nat.mod_eq_of_lt (by omega), Nat.add_comm]
  · have hwrap : (i + 2 * rot.toNat) % 32 = i - (32 - 2 * rot.toNat) := by omega
    rw [decide_eq_false hlow, cond_false, decide_eq_true hi, Bool.true_and, hwrap]

/-! ## One shift by an amount that is not zero (R431) -/

section ShiftBy
variable (m : Word) {n : Nat}

theorem shiftBy_lsl_of_lt (h : n < 32) :
    shiftBy .lsl m n = (BitVec.ofNat 32 (m.toNat * 2 ^ n), m.getLsbD (32 - n)) := by
  have hvalue : m <<< n = BitVec.ofNat 32 (m.toNat * 2 ^ n) :=
    BitVec.eq_of_toNat_eq (by rw [BitVec.toNat_shiftLeft, Nat.shiftLeft_eq, BitVec.toNat_ofNat])
  rw [shiftBy, hvalue, decide_eq_true h.le, Bool.true_and]

theorem shiftBy_lsl_thirtyTwo : shiftBy .lsl m 32 = (0, m.getLsbD 0) := by
  simp [shiftBy]

theorem shiftBy_lsl_of_gt (h : 32 < n) : shiftBy .lsl m n = (0, false) := by
  rw [shiftBy, BitVec.shiftLeft_eq_zero h.le, decide_eq_false h.not_ge, Bool.false_and]
  rfl

theorem shiftBy_lsr (n : Nat) : shiftBy .lsr m n = (BitVec.ofNat 32 (m.toNat / 2 ^ n), m.getLsbD (n - 1)) := by
  have hvalue : m >>> n = BitVec.ofNat 32 (m.toNat / 2 ^ n) := by
    apply BitVec.eq_of_toNat_eq
    rw [BitVec.toNat_ushiftRight, Nat.shiftRight_eq_div_pow, BitVec.toNat_ofNat,
      Nat.mod_eq_of_lt ((Nat.div_le_self ..).trans_lt m.isLt)]
  rw [shiftBy, hvalue]

theorem shiftBy_lsr_of_ge (h : 32 ≤ n) : shiftBy .lsr m n = (0, m.getLsbD (n - 1)) := by
  rw [shiftBy, BitVec.ushiftRight_eq_zero h]
  rfl

theorem shiftBy_lsr_of_gt (h : 32 < n) : shiftBy .lsr m n = (0, false) := by
  rw [shiftBy_lsr_of_ge m h.le, BitVec.getLsbD_of_ge _ _ (by omega)]

/-- ASR below 32 is a floor division of the signed word. -/
theorem shiftBy_asr_of_lt (h : n < 32) :
    shiftBy .asr m n = (BitVec.ofInt 32 (m.toInt / 2 ^ n), m.getLsbD (n - 1)) := by
  have hvalue : m.sshiftRight n = BitVec.ofInt 32 (m.toInt / 2 ^ n) := by
    rw [BitVec.sshiftRight, Int.shiftRight_eq_div_pow]
    rfl
  rw [shiftBy, hvalue, if_pos h.le]

/-- ASR by 32 or more fills the word with the sign. -/
theorem shiftBy_asr_of_ge (h : 32 ≤ n) :
    shiftBy .asr m n = (if m.getLsbD 31 then 0xFFFFFFFF else 0, m.getLsbD 31) := by
  have hmsb : m.getLsbD 31 = m.msb := rfl
  have hvalue : m.sshiftRight n = if m.msb then 0xFFFFFFFF else 0 := by
    cases hsign : m.msb with
    | false => exact (BitVec.sshiftRight_eq_of_msb_false hsign).trans (BitVec.ushiftRight_eq_zero h)
    | true => exact (BitVec.sshiftRight_eq_of_msb_true hsign).trans (congrArg (~~~ ·) (BitVec.ushiftRight_eq_zero h))
  have hcarry : (if n ≤ 32 then m.getLsbD (n - 1) else m.msb) = m.msb := by
    split
    · next hle => rw [le_antisymm hle h, ← hmsb]
    · rfl
  rw [shiftBy, hvalue, hcarry, hmsb]

/-- A rotation by a multiple of 32 leaves the word. -/
theorem shiftBy_ror_of_mod_eq_zero (hn : n ≠ 0) (h : n % 32 = 0) : shiftBy .ror m n = (m, m.getLsbD 31) := by
  have hlast : (n - 1) % 32 = 31 := by omega
  have hvalue : m.rotateRight 0 = m := by simp [BitVec.rotateRight_def]
  rw [shiftBy, hlast, h, hvalue]

theorem shiftBy_ror_of_mod_ne_zero (h : n % 32 ≠ 0) :
    shiftBy .ror m n = ((m >>> (n % 32)) ||| (m <<< (32 - n % 32)), m.getLsbD (n % 32 - 1)) := by
  have hlast : (n - 1) % 32 = n % 32 - 1 := by omega
  rw [shiftBy, hlast, BitVec.rotateRight_def, Nat.mod_mod]

end ShiftBy

/-! ## The two forms of a shift (R431) -/

section Forms
variable (sh : ShiftType) (m : Word) (c : Bool)

theorem shiftImm_of_ne_zero {amount : BitVec 5} (h : amount.toNat ≠ 0) :
    shiftImm sh m amount c = shiftBy sh m amount.toNat :=
  if_pos fun h0 => h (by rw [h0]; rfl)

/-- RRX (R431): the carry comes in at the top. -/
theorem shiftImm_ror_zero :
    shiftImm .ror m 0 c = (BitVec.ofBool c ++ m.extractLsb' 1 31, m.getLsbD 0) := by
  have htop : (0x80000000 : Word) = BitVec.twoPow 32 31 := rfl
  have hvalue : (m >>> 1 ||| if c then 0x80000000 else 0) = BitVec.ofBool c ++ m.extractLsb' 1 31 := by
    apply BitVec.eq_of_getLsbD_eq
    intro i hi
    rw [BitVec.getLsbD_append]
    by_cases hlow : i < 31
    · cases c <;> simp [htop, hlow, hlow.ne', BitVec.getLsbD_twoPow]
    · obtain rfl : i = 31 := by omega
      cases c <;> simp [htop]
  exact congrArg (·, m.getLsbD 0) hvalue

/-- The low byte of the amount register. -/
theorem shiftReg_setWidth (v : Word) : shiftReg sh m (v.setWidth 8) c =
    if v.toNat % 256 = 0 then (m, c) else shiftBy sh m (v.toNat % 256) := by
  have hbyte : (v.setWidth 8 : Byte).toNat = v.toNat % 256 := BitVec.toNat_setWidth ..
  have hzero : (v.setWidth 8 : Byte) = 0 ↔ v.toNat % 256 = 0 := by rw [← hbyte]; exact BitVec.toNat_eq
  rw [shiftReg, hbyte, if_congr hzero rfl rfl]

theorem shifterOperand_eq {s : State} (h : s.Ready) {so : ShifterOperand} {o : Word × Bool} (ho : s.operand so = o) :
    shifterOperand so s = .ok o s := by rw [shifterOperand_ready h, ho]

end Forms

end Sys2Proof.Machine

open Sys2Proof Sys2Proof.Machine

/-- Settles O1. A rotate field of 0 and no rotation are the same; the bits are those of `rotatedImm_getLsbD`. -/
theorem immediateOperandIsRotated : Obligations.ImmediateOperandIsRotated := by
  intro s rot imm8
  have hzero : rot = 0 ↔ rot.toNat = 0 := BitVec.toNat_eq
  exact ⟨rotatedImm rot imm8, _, rfl, fun _ hi => rotatedImm_getLsbD rot imm8 hi, if_congr hzero rfl rfl⟩

/-- Settles O3. The subtraction is the addition of the complement with a carry of 1. -/
theorem addWithCarryMeansExactSum : Obligations.AddWithCarryMeansExactSum := fun x y c =>
  ⟨addWithCarry_value x y c, addWithCarry_carry_iff x y c, addWithCarry_overflow_iff x y c,
    addWithCarry_not_value x y, addWithCarry_not_carry_iff x y, addWithCarry_not_overflow_iff x y⟩

/-- Settles O2. Each row is one case of the amount: none, 1 to 31, 32, more than 32 (`shiftBy_lsl_of_lt` and the others). -/
theorem shiftTables : Obligations.ShiftTables := by
  refine ⟨fun s amount rm h => ?immediate, fun s rs rm h => ?register⟩
  case immediate =>
    intro m n
    have hlt : n < 32 := amount.isLt
    by_cases hn : n = 0
    · obtain rfl : amount = 0 := BitVec.eq_of_toNat_eq hn
      simp only [if_pos hn]
      exact ⟨shifterOperand_eq h rfl, shifterOperand_eq h (shiftBy_lsr_of_ge m le_rfl),
        shifterOperand_eq h (shiftBy_asr_of_ge m le_rfl), shifterOperand_eq h (shiftImm_ror_zero m s.cpsr.c)⟩
    · have hby (sh : ShiftType) : s.operand (.shiftImm amount sh rm) = shiftBy sh m n := shiftImm_of_ne_zero sh m _ hn
      have hmod : n % 32 = n := Nat.mod_eq_of_lt hlt
      have hror := shiftBy_ror_of_mod_ne_zero m (n := n) (by rwa [hmod])
      rw [hmod] at hror
      simp only [if_neg hn]
      exact ⟨shifterOperand_eq h ((hby .lsl).trans (shiftBy_lsl_of_lt m hlt)),
        shifterOperand_eq h ((hby .lsr).trans (shiftBy_lsr m n)),
        shifterOperand_eq h ((hby .asr).trans (shiftBy_asr_of_lt m hlt)), shifterOperand_eq h ((hby .ror).trans hror)⟩
  case register =>
    intro m n
    have hforms (sh : ShiftType) : shifterOperand (.shiftReg rs sh rm) s =
        .ok (if n = 0 then (m, s.cpsr.c) else shiftBy sh m n) s := by
      rw [shifterOperand_ready h, State.operand, shiftReg_setWidth]
    simp only [hforms]
    by_cases hn : n = 0
    · simp only [if_pos hn, and_self]
    simp only [if_neg hn]
    refine ⟨?lsl, ?lsr, ?asr, ?ror⟩
    case lsl =>
      rcases lt_trichotomy n 32 with hlt | heq | hgt
      · rw [if_pos hlt, shiftBy_lsl_of_lt m hlt]
      · rw [if_neg heq.not_lt, if_pos heq, heq, shiftBy_lsl_thirtyTwo]
      · rw [if_neg hgt.not_gt, if_neg hgt.ne', shiftBy_lsl_of_gt m hgt]
    case lsr =>
      rcases lt_trichotomy n 32 with hlt | heq | hgt
      · rw [if_pos hlt, shiftBy_lsr]
      · rw [if_neg heq.not_lt, if_pos heq, heq, shiftBy_lsr_of_ge m le_rfl]
      · rw [if_neg hgt.not_gt, if_neg hgt.ne', shiftBy_lsr_of_gt m hgt]
    case asr =>
      by_cases hlt : n < 32
      · rw [if_pos hlt, shiftBy_asr_of_lt m hlt]
      · rw [if_neg hlt, shiftBy_asr_of_ge m (le_of_not_gt hlt)]
    case ror =>
      by_cases hmod : n % 32 = 0
      · rw [if_pos hmod, shiftBy_ror_of_mod_eq_zero m hn hmod]
      · rw [if_neg hmod, shiftBy_ror_of_mod_ne_zero m hmod]
end

section
/-! # Data processing and CLZ: the result, or the write of the pc (40 R430, R434, R440 to R456) -/

namespace Sys2Proof.Machine

/-! ## The body of a data-processing instruction -/

section Body
variable {s : State} {c : Cond} {op : DpOp} {ok sf : Bool} {a : M Word} {x b : Word} {k : Bool} {rd : Reg} {so : ShifterOperand}

/-- The CPSR after an instruction whose S bit is `sf`. -/
def State.cpsrAfter (s : State) (sf : Bool) (r : AluResult) : Psr :=
  if sf then s.cpsr.withNZCV r.value r.carry r.overflow else s.cpsr

/-- An allowed instruction has its operands, and goes on with its result. -/
theorem dataProcess_ready (h : s.Ready) (hok : ok = true) (ha : a s = .ok x s) (ho : s.operand so = (b, k)) :
    dataProcess op ok sf a rd so s = (do
      let r := dpResult op s.cpsr x b k
      if rd = 15 then
        if sf then returnTo r.value else writePc r.value
      else do
        if sf then M.update (·.mapCpsr fun p => p.withNZCV r.value r.carry r.overflow) else pure ()
        setReg rd r.value
        next : M Unit) s := by
  rw [dataProcess, M.bind_ok _ (allowed_true s hok), M.bind_ok _ ha, M.bind_ok _ (shifterOperand_eq h ho)]
  rfl

/-- A destination other than R15: the register, the flags with S, the pc. -/
theorem dataProcess_register (h : s.RunsArm c) (hok : ok = true) (ha : a s = .ok x s) (ho : s.operand so = (b, k))
    (hrd : rd ≠ 15) : runToPc (rd == 15) c (dataProcess op ok sf a rd so) s = .next { s with
      regs := s.regs.set (s.bank rd) (dpResult op s.cpsr x b k).value
      pc := s.pc + 4
      cpsr := s.cpsrAfter sf (dpResult op s.cpsr x b k) } := by
  have hbranch : (rd == 15) = false := beq_eq_false_iff_ne.mpr hrd
  rw [hbranch, runToPc, if_neg Bool.false_ne_true, runIf_holds _ h.holds, ← size_eq_four h]
  refine finish_ok (u := ()) ?_
  rw [dataProcess_ready h.ready hok ha ho, if_neg hrd]
  cases sf <;> rfl

/-- Rd = R15: a write of the pc, with S a return from an exception. -/
theorem dataProcess_pc (h : s.RunsArm c) (hok : ok = true) (ha : a s = .ok x s) (ho : s.operand so = (b, k)) :
    runToPc true c (dataProcess op ok sf a 15 so) s =
      finish (if sf then returnTo (dpResult op s.cpsr x b k).value else writePc (dpResult op s.cpsr x b k).value) s := by
  rw [runToPc, if_pos rfl, runBranch_holds _ _ h.holds, finish, dataProcess_ready h.ready hok ha ho, if_pos rfl, finish]

/-- TST, TEQ, CMP and CMN: the flags and the pc. -/
theorem dataCompare_flags {rn : Reg} (h : s.RunsArm c) (hok : shifterAllowed [rn] so = true) (ho : s.operand so = (b, k)) :
    runIf c (dataCompare op rn 0 so) s = .next { s with
      pc := s.pc + 4
      cpsr := s.cpsrAfter true (dpResult op s.cpsr (s.readReg rn) b k) } := by
  have hallowed : (isZero (0 : BitVec 4) && shifterAllowed [rn] so) = true := hok
  rw [dataCompare, runIf_allowed h hallowed, ← size_eq_four h]
  refine finish_ok (u := ()) ?_
  rw [M.bind_ok _ (reg_ready h.ready rn), M.bind_ok _ (shifterOperand_eq h.ready ho)]
  rfl

/-- The operands of an instruction that also names Rn are allowed for one that does not. -/
theorem shifterAllowed_tail {rn : Reg} {others : List Reg} (h : shifterAllowed (rn :: others) so = true) :
    shifterAllowed others so = true := by
  cases so with
  | imm | shiftImm => rfl
  | shiftReg => exact (Bool.and_eq_true_iff.mp h).2

end Body

/-! ## The write of the pc (R434) -/

section WritePc
variable {s : State} (v : Word)

theorem low_bits_zero_iff : (v.extractLsb' 0 2 == 0) = true ↔ v.toNat % 4 = 0 := by
  rw [toNat_mod_four, beq_iff_eq]
  exact BitVec.toNat_eq

/-- The low bits of a return: 0 for the instruction set of the restored state. -/
theorem return_aligned_eq (thumb : Bool) : (if thumb then !v.getLsbD 0 else v.extractLsb' 0 2 == 0) =
    !(v.getLsbD 0 || (!thumb && v.getLsbD 1)) := by
  cases thumb with
  | true => simp
  | false =>
    have hbits : v.getLsbD 0 = decide (v.toNat % 2 = 1) ∧ v.getLsbD 1 = decide (v.toNat / 2 % 2 = 1) := by
      simp [BitVec.getLsbD, Nat.testBit_eq_decide_div_mod_eq]
    obtain ⟨hzero, hone⟩ := hbits
    rw [if_neg Bool.false_ne_true, Bool.eq_iff_iff, low_bits_zero_iff, hzero, hone]
    simp only [Bool.not_false, Bool.true_and, Bool.not_eq_true', Bool.or_eq_false_iff, decide_eq_false_iff_not]
    omega

/-- Without S: a branch to an aligned result. -/
theorem finish_writePc : finish (writePc v) s =
    if v.toNat % 4 = 0 then .next { s with pc := v, run := { s.run with flow := .indirect true } }
    else .refused .misalignedPc := by
  by_cases hv : v.toNat % 4 = 0
  · rw [if_pos hv, finish, writePc, (low_bits_zero_iff v).mpr hv]
    rfl
  · rw [if_neg hv, finish, writePc, eq_false_of_ne_true (mt (low_bits_zero_iff v).mp hv)]
    rfl

/-- With S in a mode that has no SPSR (93 U13). -/
theorem finish_returnTo_noSpsr (h : s.Ready) (hm : spsrOf s.cpsr.m = none) : finish (returnTo v) s = .refused .noSpsr := by
  have hread : readSpsr s = .error (.refuse .noSpsr) s := by rw [readSpsr_ready h, hm]
  exact finish_refuse (M.bind_error s (M.bind_error s hread))

/-- With S in a mode that has an SPSR: its mode must be legal (93 U12) and the low bits of the result 0 for its instruction
set (93 U62). -/
theorem finish_returnTo (h : s.Ready) {k : Fin 6} (hm : spsrOf s.cpsr.m = some k) : finish (returnTo v) s =
    if legalMode s.spsr[k].m = false then .refused .illegalMode
    else if v.getLsbD 0 || (!s.spsr[k].t && v.getLsbD 1) then .refused .misalignedPc
    else .next { s with
      pc := v, cpsr := s.spsr[k], dbg := { s.dbg with sds := false, fromSram := false }
      run := { s.run with flow := .indirect true } } := by
  have hread : readSpsr s = .ok s.spsr[k] s := by rw [readSpsr_ready h, hm]
  cases hlegal : legalMode s.spsr[k].m with
  | false =>
    have hrestore : restoreCpsr s = .error (.refuse .illegalMode) s := by
      rw [restoreCpsr, M.bind_ok _ hread, hlegal]
      rfl
    exact finish_refuse (M.bind_error s hrestore)
  | true =>
    have hrestore : restoreCpsr s =
        .ok () ((s.setCpsr s.spsr[k]).setDebug { s.dbg with sds := false, fromSram := false }) := by
      rw [restoreCpsr, M.bind_ok _ hread, hlegal]
      rfl
    rw [if_neg (by decide), finish, returnTo, M.bind_ok _ hrestore, M.bind_ok _ (M.state_apply _),
      State.setDebug_cpsr, State.setCpsr_cpsr, return_aligned_eq]
    cases v.getLsbD 0 || (!s.spsr[k].t && v.getLsbD 1) <;> rfl

end WritePc

/-! ## CLZ (R456) -/

section LeadingZeros

/-- The zeros above the highest 1 bit, 32 for zero. -/
def leadingZeros (x : Word) : Nat := if x = 0 then 32 else 31 - x.toNat.log2

theorem countLeadingZeros_eq (x : Word) : countLeadingZeros x = BitVec.ofNat 32 (leadingZeros x) := rfl

theorem leadingZeros_le (x : Word) : leadingZeros x ≤ 32 := by
  unfold leadingZeros
  split <;> omega

/-- The place of the highest 1 bit. -/
theorem log2_add_leadingZeros {x : Word} (hx : x ≠ 0) : x.toNat.log2 + leadingZeros x = 31 := by
  have hlog : x.toNat.log2 < 32 := (Nat.log2_lt (mt (BitVec.toNat_eq (y := 0)).mpr hx)).mpr x.isLt
  rw [leadingZeros, if_neg hx]
  omega

/-- Nothing but zeros above. -/
theorem toNat_lt_two_pow_leadingZeros (x : Word) : x.toNat < 2 ^ (32 - leadingZeros x) := by
  by_cases hx : x = 0
  · subst hx
    decide
  · have hplace : 32 - leadingZeros x = x.toNat.log2 + 1 := by have := log2_add_leadingZeros hx; omega
    rw [hplace]
    exact Nat.lt_log2_self

theorem getLsbD_of_leadingZeros_lt {x : Word} (h : leadingZeros x < 32) : x.getLsbD (31 - leadingZeros x) = true := by
  have hx : x ≠ 0 := by
    rintro rfl
    exact absurd h (by decide)
  have hplace : 31 - leadingZeros x = x.toNat.log2 := by have := log2_add_leadingZeros hx; omega
  rw [hplace]
  exact Nat.testBit_log2 (mt (BitVec.toNat_eq (y := 0)).mpr hx)

variable {s : State} {c : Cond} {rd rm : Reg}

theorem execClz_pc (h : s.RunsArm c) (hpc : rd = 15 ∨ rm = 15) : execClz c 15 rd 15 rm s = .refused .operandRestriction := by
  have hnot : notPc [rd, rm] = false := by rcases hpc with rfl | rfl <;> simp [notPc]
  have hallowed : allowed (isOnes (15 : BitVec 4) && isOnes (15 : BitVec 4) && notPc [rd, rm]) s =
      .error (.refuse .operandRestriction) s := by rw [hnot]; rfl
  rw [execClz, runIf_holds _ h.holds]
  exact finish_refuse (M.bind_error s hallowed)

theorem execClz_counts (h : s.RunsArm c) (hrd : rd ≠ 15) (hrm : rm ≠ 15) : execClz c 15 rd 15 rm s = .next { s with
    regs := s.regs.set (s.bank rd) (BitVec.ofNat 32 (leadingZeros (s.readReg rm)))
    pc := s.pc + 4 } := by
  have hnot : notPc [rd, rm] = true := by
    rw [notPc, List.all_cons, bne_iff_ne.mpr hrd]
    exact notPc_one hrm
  rw [execClz, runIf_allowed h (by rw [hnot]; rfl)]
  refine finish_ok (u := ()) ?_
  rw [M.bind_ok _ (reg_ready h.ready rm), ← size_eq_four h, ← countLeadingZeros_eq]
  rfl

end LeadingZeros

end Sys2Proof.Machine

open Sys2Proof Sys2Proof.Machine

/-- Settles O6. The count is `leadingZeros`: the highest 1 bit stands at its base-2 logarithm. -/
theorem countLeadingZerosResult : Obligations.CountLeadingZerosResult := by
  intro s c rd rm h
  split
  · next hpc => exact execClz_pc h hpc
  · next hpc =>
    obtain ⟨hrd, hrm⟩ := not_or.mp hpc
    exact ⟨leadingZeros (s.readReg rm), leadingZeros_le _, execClz_counts h hrd hrm, toNat_lt_two_pow_leadingZeros _,
      getLsbD_of_leadingZeros_lt⟩

/-- Settles O4. One lemma for the destination (`dataProcess_register`), one for the comparisons (`dataCompare_flags`); the
instructions differ in `dpResult` alone. -/
theorem dataProcessingResult : Obligations.DataProcessingResult := by
  refine ⟨fun s c sf rn rd so h hrd hok => ?logical, fun s c sf rn rd so h hrd hok => ?arithmetic,
    fun s c rn so h hok => ?compare⟩
  case logical =>
    intro a
    rcases ho : s.operand so with ⟨b, k⟩
    have two (op : DpOp) := dataProcess_register (op := op) (sf := sf) h hok (reg_ready h.ready rn) ho hrd
    have move (op : DpOp) :=
      dataProcess_register (op := op) (sf := sf) h (shifterAllowed_tail hok) (M.pure_apply s (0 : Word)) ho hrd
    exact ⟨two .and, two .eor, two .orr, two .bic, move .mov, move .mvn⟩
  case arithmetic =>
    intro a b done
    have ho : s.operand so = (b, (s.operand so).2) := rfl
    have two (op : DpOp) := dataProcess_register (op := op) (sf := sf) h hok (reg_ready h.ready rn) ho hrd
    exact ⟨two .sub, two .rsb, two .add, two .adc, two .sbc, two .rsc⟩
  case compare =>
    intro a
    rcases ho : s.operand so with ⟨b, k⟩
    have flags (op : DpOp) := dataCompare_flags (op := op) h hok ho
    exact ⟨flags .tst, flags .teq, flags .cmp, flags .cmn⟩

/-- Settles O5. Each instruction ends in one write of the pc (`dataProcess_pc`): without S `finish_writePc`, with S
`finish_returnTo`. -/
theorem dataProcessingToPc : Obligations.DataProcessingToPc := by
  intro s c sf rn so h hok done a b carry
  have hdone (v : Word) : finish (if sf then returnTo v else writePc v) s = done v := by
    cases sf with
    | false => exact finish_writePc v
    | true =>
      cases hm : spsrOf s.cpsr.m with
      | none => simpa only [done, hm, if_true] using finish_returnTo_noSpsr v h.ready hm
      | some k => simpa only [done, hm, if_true] using finish_returnTo v h.ready hm
  have ho : s.operand so = (b, (s.operand so).2) := rfl
  have two (op : DpOp) := (dataProcess_pc (op := op) (sf := sf) h hok (reg_ready h.ready rn) ho).trans (hdone _)
  have move (op : DpOp) :=
    (dataProcess_pc (op := op) (sf := sf) h (shifterAllowed_tail hok) (M.pure_apply s (0 : Word)) ho).trans (hdone _)
  have sum {op : DpOp} {v : Word} (e : (dpResult op s.cpsr a b (s.operand so).2).value = v) := (two op).trans (congrArg done e)
  exact ⟨two .and, two .eor, sum (op := .sub) (addWithCarry_not_value a b), sum (op := .rsb) (addWithCarry_not_value b a),
    sum (op := .add) (addWithCarry_false_value a b), sum (op := .adc) (addWithCarry_value a b _),
    sum (op := .sbc) (addWithCarry_not_value_borrow a b _), sum (op := .rsc) (addWithCarry_not_value_borrow b a _),
    two .orr, move .mov, two .bic, move .mvn⟩
end

section
/-! # Multiplies: the word and the long forms (41 R481, R485 to R490) -/

namespace Sys2Proof.Machine

/-! ## The operands -/

theorem notPc_cons {r : Reg} {rs : List Reg} (hr : r ≠ 15) (h : notPc rs = true) : notPc (r :: rs) = true :=
  Bool.and_eq_true_iff.mpr ⟨bne_iff_ne.mpr hr, h⟩

/-! ## The exact products, and the word or doubleword that is kept of them -/

section Products
variable (a b : Word)

/-- The low word of the product is that of the exact one. -/
theorem mul_eq_ofNat : a * b = BitVec.ofNat 32 (a.toNat * b.toNat) := by
  rw [BitVec.ofNat_mul, BitVec.ofNat_toNat, BitVec.ofNat_toNat, BitVec.setWidth_eq, BitVec.setWidth_eq]

theorem mul_add_eq_ofNat (n : Word) : a * b + n = BitVec.ofNat 32 (a.toNat * b.toNat + n.toNat) := by
  rw [BitVec.ofNat_add, ← mul_eq_ofNat, BitVec.ofNat_toNat, BitVec.setWidth_eq]

theorem unsignedProduct_add (acc : BitVec 64) :
    unsignedProduct a b + acc = BitVec.ofNat 64 (a.toNat * b.toNat + acc.toNat) := by
  rw [BitVec.ofNat_add, BitVec.ofNat_toNat, BitVec.setWidth_eq, unsignedProduct]

theorem signedProduct_add (acc : BitVec 64) :
    signedProduct a b + acc = BitVec.ofInt 64 (a.toInt * b.toInt + acc.toInt) := by
  rw [BitVec.ofInt_add, BitVec.ofInt_toInt, signedProduct]

end Products

/-! ## What a multiply leaves -/

section Multiplies
variable {s : State} {c : Cond} {sf : Bool}

/-- The state after a word multiply: the register, N and Z with S, the pc. -/
def State.afterMultiply (s : State) (sf : Bool) (rd : Reg) (v : Word) : State := { s with
  regs := s.regs.set (s.bank rd) v
  pc := s.pc + 4
  cpsr := if sf then { s.cpsr with n := v.getLsbD 31, z := v == 0 } else s.cpsr }

/-- The state after a long multiply: both registers, N and Z of the doubleword with S, the pc. -/
def State.afterMultiplyLong (s : State) (sf : Bool) (rdHi rdLo : Reg) (v : BitVec 64) : State := { s with
  regs := (s.regs.set (s.bank rdLo) (v.extractLsb' 0 32)).set (s.bank rdHi) (v.extractLsb' 32 32)
  pc := s.pc + 4
  cpsr := if sf then { s.cpsr with n := v.getLsbD 63, z := v == 0 } else s.cpsr }

/-- The flags that a multiply writes leave the mode, so the destination is found in the same bank. -/
theorem multiplyWord_apply (h : s.RunsArm c) (rd : Reg) (v : Word) :
    multiplyWord sf rd v s = .ok () (s.afterMultiply sf rd v) := by
  rw [State.afterMultiply, ← size_eq_four h]
  cases sf <;> rfl

theorem multiplyLong_apply (h : s.RunsArm c) (rdHi rdLo : Reg) (v : BitVec 64) :
    multiplyLong sf rdHi rdLo v s = .ok () (s.afterMultiplyLong sf rdHi rdLo v) := by
  rw [State.afterMultiplyLong, ← size_eq_four h]
  cases sf <;> rfl

section WordForms
variable {rd rn rs rm : Reg}

theorem execMul_eq (h : s.RunsArm c) (hrd : rd ≠ 15) (hrs : rs ≠ 15) (hrm : rm ≠ 15) :
    execMul c sf rd 0 rs rm s = .next (s.afterMultiply sf rd (s.readReg rm * s.readReg rs)) := by
  have hok : (isZero (0 : BitVec 4) && notPc [rd, rs, rm]) = true := notPc_cons hrd (notPc_cons hrs (notPc_one hrm))
  rw [execMul, runIf_allowed h hok]
  refine finish_ok (u := ()) ?_
  rw [M.bind_ok _ (reg_ready h.ready rm), M.bind_ok _ (reg_ready h.ready rs), multiplyWord_apply h]

theorem execMla_eq (h : s.RunsArm c) (hrd : rd ≠ 15) (hrn : rn ≠ 15) (hrs : rs ≠ 15) (hrm : rm ≠ 15) :
    execMla c sf rd rn rs rm s = .next (s.afterMultiply sf rd (s.readReg rm * s.readReg rs + s.readReg rn)) := by
  have hok : notPc [rd, rn, rs, rm] = true := notPc_cons hrd (notPc_cons hrn (notPc_cons hrs (notPc_one hrm)))
  rw [execMla, runIf_allowed h hok]
  refine finish_ok (u := ()) ?_
  rw [M.bind_ok _ (reg_ready h.ready rm), M.bind_ok _ (reg_ready h.ready rs), M.bind_ok _ (reg_ready h.ready rn),
    multiplyWord_apply h]

end WordForms

section LongForms
variable {rdHi rdLo rs rm : Reg} (product : Word → Word → BitVec 64)

/-- The operands of a long multiply are allowed: no R15, and two destinations. -/
theorem longMultiply_operandsAllowed (hhi : rdHi ≠ 15) (hlo : rdLo ≠ 15) (hrs : rs ≠ 15) (hrm : rm ≠ 15)
    (hne : rdHi ≠ rdLo) : (notPc [rdHi, rdLo, rs, rm] && rdHi != rdLo) = true :=
  Bool.and_eq_true_iff.mpr
    ⟨notPc_cons hhi (notPc_cons hlo (notPc_cons hrs (notPc_one hrm))), bne_iff_ne.mpr hne⟩

/-- All sources are those of the state before: Rm, Rs, and RdHi and RdLo where the product is added to them (R481). -/
theorem longMultiply_runs (h : s.RunsArm c) (hok : (notPc [rdHi, rdLo, rs, rm] && rdHi != rdLo) = true)
    (accumulate : Bool) : runIf c (longMultiply product accumulate sf rdHi rdLo rs rm) s =
      .next (s.afterMultiplyLong sf rdHi rdLo
        (if accumulate then product (s.readReg rm) (s.readReg rs) + (s.readReg rdHi ++ s.readReg rdLo)
        else product (s.readReg rm) (s.readReg rs))) := by
  rw [longMultiply, runIf_allowed h hok]
  refine finish_ok (u := ()) ?_
  rw [M.bind_ok _ (reg_ready h.ready rm), M.bind_ok _ (reg_ready h.ready rs)]
  cases accumulate with
  | false => exact multiplyLong_apply h rdHi rdLo _
  | true =>
    rw [if_pos rfl, M.bind_ok _ (reg_ready h.ready rdHi), M.bind_ok _ (reg_ready h.ready rdLo)]
    exact multiplyLong_apply h rdHi rdLo _

end LongForms

end Multiplies

end Sys2Proof.Machine

open Sys2Proof Sys2Proof.Machine

/-- Settles O8. A word multiply is `execMul_eq` or `execMla_eq`; the four long ones are one body (`longMultiply_runs`), in which
the product and the accumulation differ. The wrapped sums are those of the exact products. -/
theorem multiplyResult : Obligations.MultiplyResult := by
  refine ⟨fun s c sf rd rn rs rm h hrd hrn hrs hrm => ?word,
    fun s c sf rdHi rdLo rs rm h hhi hlo hrs hrm hne => ?long⟩
  case word =>
    intro m x n done
    exact ⟨(execMul_eq h hrd hrs hrm).trans (congrArg done (mul_eq_ofNat _ _)),
      (execMla_eq h hrd hrn hrs hrm).trans (congrArg done (mul_add_eq_ofNat _ _ _))⟩
  case long =>
    intro m x acc done
    have hok := longMultiply_operandsAllowed hhi hlo hrs hrm hne
    have product (f : Word → Word → BitVec 64) :
        runIf c (longMultiply f false sf rdHi rdLo rs rm) s = done (f m x) := longMultiply_runs f h hok false
    have sum {f : Word → Word → BitVec 64} {v : BitVec 64} (e : f m x + acc = v) :
        runIf c (longMultiply f true sf rdHi rdLo rs rm) s = done v :=
      (longMultiply_runs f h hok true).trans (congrArg done e)
    exact ⟨product unsignedProduct, sum (unsignedProduct_add m x acc), product signedProduct,
      sum (signedProduct_add m x acc)⟩
end

section
/-! # A load of R15: an interworking branch, or the alignment abort (42 R534; 20 R193) -/

namespace Sys2Proof.Machine

/-! ## Running a body -/

section Running
variable {s t : State} {c : Cond}

theorem finish_congr {m n : M Unit} (h : m s = n t) : finish m s = finish n t := by rw [finish, finish, h]

/-- An instruction that may write the pc runs its body where its condition holds and its operands are allowed. -/
theorem runToPc_allowed (h : s.RunsArm c) (toPc : Bool) {ok : Bool} (hok : ok = true) (body : M Unit) :
    runToPc toPc c (do allowed ok; body) s = finish body s := by
  cases toPc with
  | true => exact (runBranch_holds _ _ h.holds).trans (finish_congr (M.bind_ok s (allowed_true s hok)))
  | false => exact runIf_allowed h hok body

/-- The notes of a load of R15 (61 R943) leave accesses straight to memory. -/
theorem State.Direct.setRun (h : s.Direct) (run : Run) : (s.setRun run).Direct :=
  ⟨h.mmu, h.lines, h.buffer, h.settled, h.noErrors, h.noDebug, h.canonical⟩

end Running

/-! ## The interworking branch (42 R534) -/

section Interworking
variable {v : Word} (t : State)

/-- A word that ends in 0b10 refuses (93 U62). -/
theorem writePcInterworking_refuses (hv : v.toNat % 4 = 2) :
    writePcInterworking v t = .error (.refuse .misalignedPc) t := by
  have hlow : v.extractLsb' 0 2 = 2 := BitVec.eq_of_toNat_eq ((toNat_mod_four v).symm.trans hv)
  rw [writePcInterworking, hlow]
  rfl

/-- Any other word gives the pc and, in its bit 0, the T bit. -/
theorem writePcInterworking_branches (hv : v.toNat % 4 ≠ 2) : writePcInterworking v t = .ok () { t with
    pc := v &&& 0xFFFFFFFE
    cpsr := { t.cpsr with t := v.getLsbD 0 }
    run := { t.run with flow := .indirect true } } := by
  have hlow : (v.extractLsb' 0 2 != 2) = true :=
    bne_iff_ne.mpr fun h => hv ((toNat_mod_four v).trans (congrArg BitVec.toNat h))
  rw [writePcInterworking, hlow]
  rfl

end Interworking

/-! ## The load -/

section LoadPc
variable {s : State} {c : Cond} {p u w : Bool} {rn : Reg} {off : Offset2}

theorem exec_ldr_pc (h : s.RunsArm c) (hok : (Instr.ldr c p u w rn 15 off).operandsAllowed = true) :
    exec (.ldr c p u w rn 15 off) s = finish (loadPc p u (writesBack p w) rn (offsetTwo off)) s := by
  change execLdr c p u w rn 15 off s = _
  rw [execLdr, if_pos rfl]
  exact runToPc_allowed h _ (by cases off <;> simpa [Instr.operandsAllowed, offsetTwoAllowed] using hok) _

/-- The state that notes a load of R15, for the trace of an abort (61 R943). -/
def State.loadsPc (s : State) : State := s.setRun { s.run with pcLoad := true }

/-- A word is aligned just where the low bits of its address are 0: the remapping leaves them. -/
theorem aligned_word_iff {a : Word} : s.Aligned a 4 ↔ (a.extractLsb' 0 2 == 0) = true := by
  rw [State.Aligned, remap_mod_four, toNat_mod_four, beq_iff_eq]
  exact (BitVec.toNat_eq (y := 0#2)).symm

/-- An aligned word is loaded as it stands: there is nothing to rotate (20 R193). -/
theorem loadWord_aligned (h : s.Direct) {a : Word} (ha : s.Aligned a 4) (user : Bool) :
    loadWord a user s = .ok (s.mem.readBytes (s.physical a 4) 4) s.accessed := by
  have hlow : a.extractLsb' 0 2 = 0 := eq_of_beq (aligned_word_iff.mp ha)
  have hrotate (v : Word) : rotateLoad a v = v := by
    rw [rotateLoad, hlow]
    exact BitVec.eq_of_getLsbD_eq fun i hi => by simp [hi]
  rw [loadWord, M.bind_ok _ (memRead_aligned h ha user), M.pure_apply, hrotate]

section Body
variable (h : s.Ready) {wb : Bool} {ofs : M Word} {o : Word} (ho : ofs s = .ok o s)
include h ho

/-- The load notes that it is one of R15, and then looks at its address. -/
theorem loadPc_begins : loadPc p u wb rn ofs s = (do
    if (s.addressOf p u rn o).extractLsb' 0 2 == 0 then do
      let usr ← asUser
      let v ← loadWord (s.addressOf p u rn o) usr
      writeBack wb rn (s.indexedBy u rn o)
      writePcInterworking v
    else alignmentAbort (s.remap (s.addressOf p u rn o)) : M Unit) s.loadsPc :=
  have hnote : markPcLoad 15 s = .ok () s.loadsPc := rfl
  (M.bind_ok _ (singleAddress_ready h ho p u rn)).trans (M.bind_ok _ hnote)

/-- From an aligned address: the access, the base, and the branch. -/
theorem loadPc_aligned (hd : s.Direct) (ha : s.Aligned (s.addressOf p u rn o) 4) :
    loadPc p u wb rn ofs s =
      writePcInterworking (s.mem.readBytes (s.physical (s.addressOf p u rn o) 4) 4)
        (s.loadsPc.accessed.setRegs (s.basedRegs wb rn (s.indexedBy u rn o))) := by
  have hload := loadWord_aligned (s := s.loadsPc) (hd.setRun _) ha s.loadsPc.userMode
  rw [loadPc_begins h ho, if_pos (aligned_word_iff.mp ha), M.bind_ok _ (asUser_apply _), M.bind_ok _ hload]
  cases wb <;> rfl

/-- From any other address: the alignment abort, whatever CTRL.A is (93 U42, log 46). -/
theorem loadPc_misaligned (ha : ¬ s.Aligned (s.addressOf p u rn o) 4) :
    loadPc p u wb rn ofs s = (alignmentAbort (s.remap (s.addressOf p u rn o)) : M Unit) s.loadsPc := by
  rw [loadPc_begins h ho, if_neg (mt aligned_word_iff.mpr ha)]

end Body
end LoadPc
end Sys2Proof.Machine

open Sys2Proof Sys2Proof.Machine

/-- Settles O12. The load ends in the interworking branch of the word (`loadPc_aligned`), or in the alignment abort
(`loadPc_misaligned`), which `finish_misaligned` follows from the state that notes the load of R15. -/
theorem loadToPcInterworks : Obligations.LoadToPcInterworks := by
  intro s c p u w rn off h hd hok o a v
  have hoff := offsetTwo_ready h.ready off
  rw [exec_ldr_pc h hok]
  refine ⟨fun ha hv => ?refused, fun ha hv => ⟨s.accessed.run.events, ?branches⟩, fun ha hge hs => ?aborts⟩
  case refused => exact finish_refuse ((loadPc_aligned h.ready hoff hd ha).trans (writePcInterworking_refuses _ hv))
  case branches =>
    exact finish_ok (u := ()) ((loadPc_aligned h.ready hoff hd ha).trans (writePcInterworking_branches _ hv))
  case aborts =>
    obtain ⟨t, hnext, ⟨hcpsr, hpc, hregs, hsaved, hrest⟩, hreport⟩ :=
      finish_misaligned (s := s.loadsPc) (va := a) hge hs (body := alignmentAbort (s.remap a)) rfl
    exact ⟨t, (finish_congr (loadPc_misaligned h.ready hoff ha)).trans hnext, ⟨hcpsr, hpc, hregs, hsaved, hrest⟩, hreport⟩
end

section
/-! # Multiple transfers straight to memory (42 R533, R560 to R564) -/

namespace Sys2Proof.Machine

/-! ## Register lists -/

section Lists
variable {regs : BitVec 16} {r : Reg}

theorem mem_registersOf : r ∈ registersOf regs ↔ regs.getLsbD r.toNat = true := by
  have hr : BitVec.ofNat 4 r.toNat = r := (BitVec.ofNat_toNat 4 r).trans (BitVec.setWidth_eq r)
  simp only [registersOf, List.mem_map, List.mem_filter, List.mem_range]
  constructor
  · rintro ⟨i, ⟨hi, hbit⟩, rfl⟩
    rwa [BitVec.toNat_ofNat, Nat.mod_eq_of_lt hi]
  · exact fun hbit => ⟨r.toNat, ⟨r.isLt, hbit⟩, hr⟩

theorem registersOf_nodup (regs : BitVec 16) : (registersOf regs).Nodup := by
  refine (List.nodup_range.filter _).map_on fun i hi j hj h => ?_
  have hlt {k : Nat} (hk : k ∈ (List.range 16).filter fun i => regs.getLsbD i) : k < 16 :=
    List.mem_range.mp (List.mem_filter.mp hk).1
  have hmod := congrArg BitVec.toNat h
  rwa [BitVec.toNat_ofNat, BitVec.toNat_ofNat, Nat.mod_eq_of_lt (hlt hi), Nat.mod_eq_of_lt (hlt hj)] at hmod

theorem registersOf_length_le (regs : BitVec 16) : (registersOf regs).length ≤ 16 := by
  rw [registersOf, List.length_map]
  exact (List.length_filter_le _ _).trans_eq List.length_range

/-- R15 is the last register of a list that has it. -/
theorem registersOf_last (h : regs.getLsbD 15 = true) :
    ∃ hlast : (registersOf regs).length - 1 < (registersOf regs).length,
      (registersOf regs)[(registersOf regs).length - 1] = 15 := by
  obtain ⟨lower, hl⟩ : ∃ lower, registersOf regs = lower ++ [15] := by
    refine ⟨((List.range 15).filter fun i => regs.getLsbD i).map fun i => BitVec.ofNat 4 i, ?_⟩
    rw [registersOf, List.range_succ, List.filter_append, List.map_append, List.filter_singleton, h]
    rfl
  simp [hl]

end Lists

/-! ## Places of registers -/

/-- Two registers of one mode share no place. -/
theorem bankedRegister_injective {b : Bool} {m : BitVec 5} {r q : Reg} (hr : r ≠ 15) (hq : q ≠ 15)
    (h : bankedRegister b m r = bankedRegister b m q) : r = q := by
  have hr' : r.toNat ≠ 15 := fun e => hr (BitVec.eq_of_toNat_eq e)
  have hq' : q.toNat ≠ 15 := fun e => hq (BitVec.eq_of_toNat_eq e)
  have hrlt := r.isLt
  have hqlt := q.isLt
  apply BitVec.eq_of_toNat_eq
  have hval := congrArg Fin.val h
  simp only [bankedRegister] at hval
  generalize r.toNat = i at *
  generalize q.toNat = j at *
  split_ifs at hval <;> simp only [Fin.ofNat] at hval <;> omega

/-- The place of a register that a transfer names: the current mode's, or User mode's for the form with `^`. -/
def State.placeOf (s : State) (user : Bool) (r : Reg) : Fin 32 :=
  if user then bankedRegister s.cfg.debugBanksR13 modeUsr r else s.bank r

theorem State.placeOf_injective (s : State) (user : Bool) {r q : Reg} (hr : r ≠ 15) (hq : q ≠ 15)
    (h : s.placeOf user r = s.placeOf user q) : r = q := by
  cases user with
  | true => exact bankedRegister_injective hr hq h
  | false => exact bankedRegister_injective hr hq h

/-- The registers after writes in turn, each at its place. -/
def placed (place : Reg → Fin 32) (g : Vector Word 32) (l : List (Reg × Word)) : Vector Word 32 :=
  l.foldl (fun g x => g.set (place x.1) x.2) g

section Placed
variable {place : Reg → Fin 32} {l : List (Reg × Word)}

/-- A place that no write names holds what it held. -/
theorem placed_elsewhere {k : Fin 32} (hk : ∀ x ∈ l, place x.1 ≠ k) (g : Vector Word 32) : (placed place g l)[k] = g[k] := by
  induction l generalizing g with
  | nil => rfl
  | cons x t ih =>
    have hx : (place x.1 : Nat) ≠ k := fun e => hk x List.mem_cons_self (Fin.ext e)
    exact (ih (fun y hy => hk y (List.mem_cons_of_mem _ hy)) _).trans (Vector.getElem_set_ne _ _ hx)

/-- A place that one write names holds its value. -/
theorem placed_at (hp : l.Pairwise fun x y => place x.1 ≠ place y.1) (g : Vector Word 32) :
    ∀ x ∈ l, (placed place g l)[place x.1] = x.2 := by
  induction l generalizing g with
  | nil => exact fun x hx => absurd hx List.not_mem_nil
  | cons y t ih =>
    obtain ⟨hy, ht⟩ := List.pairwise_cons.mp hp
    intro x hx
    rcases List.mem_cons.mp hx with rfl | hx
    · exact (placed_elsewhere (fun z hz => (hy z hz).symm) _).trans (Vector.getElem_set_self _)
    · exact ih ht _ x hx

end Placed

theorem writeRegisters_placed {s : State} {place : Reg → Fin 32} {write : Reg → Word → M Unit}
    (hw : ∀ r v g, write r v (s.setRegs g) = .ok () (s.setRegs (g.set (place r) v))) (l : List (Reg × Word)) :
    ∀ g, writeRegisters write l (s.setRegs g) = .ok () (s.setRegs (placed place g l)) := by
  induction l with
  | nil => exact fun _ => rfl
  | cons x t ih => exact fun g => (M.bind_ok _ (hw x.1 x.2 g)).trans (ih _)

/-! ## The words of a transfer -/

section Words
variable {s : State} {start : Word} {n : Nat}

/-- The start address of a transfer of `n` words, as CTRL.A allows it, and with no word past the end of the address space
(20 R192, R193, R211). -/
structure State.Fits (s : State) (start : Word) (n : Nat) : Prop where
  usable : s.Usable start
  noWrap : (start &&& 0xFFFFFFFC).toNat + 4 * n ≤ 2 ^ 32

/-- The place in memory of a word of a transfer. -/
def State.wordPlace (s : State) (start : Word) (i : Nat) : PAddr :=
  s.physical ((start + BitVec.ofNat 32 (4 * i)) &&& 0xFFFFFFFC) 4

/-- The words of a transfer as memory holds them. -/
def State.wordsFrom (s : State) (start : Word) (n : Nat) : List Word :=
  (List.range n).map fun i => s.mem.readBytes (s.wordPlace start i) 4

theorem wordsFrom_length : (s.wordsFrom start n).length = n := by simp [State.wordsFrom]

theorem wordsFrom_getElem {i : Nat} (h : i < (s.wordsFrom start n).length) :
    (s.wordsFrom start n)[i] = s.mem.readBytes (s.wordPlace start i) 4 := by simp [State.wordsFrom]

theorem noWrap_fits (h : s.Fits start n) (t : State) : noWrap start (4 * n) t = .ok () t := by
  rw [Machine.noWrap, decide_eq_true (.inr h.noWrap)]
  rfl

/-- Each word of a transfer has an address as CTRL.A allows it. -/
theorem usable_wordAddresses (h : s.Usable start) : ∀ a ∈ wordAddresses start n, s.Usable a := by
  intro a ha
  obtain ⟨i, -, rfl⟩ := List.mem_map.mp ha
  refine h.imp_left fun haligned => ?_
  rw [State.Aligned, remap_mod_four] at haligned ⊢
  rw [BitVec.toNat_add, BitVec.toNat_ofNat]
  omega

end Words

/-! ## Loads -/

section Loads
variable {s : State} {c : Cond} {p u w : Bool} {rn : Reg} {ea : Word}

/-- The words of a transfer that fits, in register order. -/
theorem loadMultiple_direct (h : s.Ready) (hd : s.Direct) (hq : s.run.env = []) {l : List Reg}
    (hf : s.Fits (multipleStart p u (s.readReg rn) l.length) l.length) (write : Reg → Word → M Unit) (keep : Reg → Bool) :
    ∃ ev, loadMultiple write keep p u rn l s =
      .ok (l.zip (s.wordsFrom (multipleStart p u (s.readReg rn) l.length) l.length)) (s.noted ev) := by
  obtain ⟨ev, hload⟩ := loadWords_direct s.userMode (wordAddresses _ l.length) hd hq (usable_wordAddresses hf.usable)
  refine ⟨ev, (M.bind_ok _ (reg_ready h rn)).trans ((M.bind_ok _ (noWrap_fits hf s)).trans
    ((M.bind_ok _ (asUser_apply s)).trans ((M.bind_ok _ hload).trans ?_)))⟩
  rw [wordAddresses, List.map_map]
  rfl

/-- The registers after an LDM that loads these values: each at its place, R15 apart, and then the base where it is written
back. -/
def State.loadedRegs (s : State) (user wb : Bool) (rn : Reg) (ea : Word) (vs : List (Reg × Word)) : Vector Word 32 :=
  let g := placed (s.placeOf user) s.regs (vs.filter (·.1 != 15))
  if wb then g.set (s.bank rn) ea else g

/-- The loads of an LDM into registers of the current mode, and the base; the pc is still to come. -/
theorem loads_writeBack (h : s.Ready) (hd : s.Direct) (hq : s.run.env = []) {l : List Reg}
    (hf : s.Fits (multipleStart p u (s.readReg rn) l.length) l.length) (keep : Reg → Bool)
    (rest : List (Reg × Word) → M Unit) :
    let vs := l.zip (s.wordsFrom (multipleStart p u (s.readReg rn) l.length) l.length)
    ∃ ev, (do
      let vs ← loadMultiple setReg keep p u rn l
      writeRegisters setReg (vs.filter (·.1 != 15))
      writeBack w rn ea
      rest vs : M Unit) s = rest vs ((s.noted ev).setRegs (s.loadedRegs false w rn ea vs)) := by
  intro vs
  obtain ⟨ev, hload⟩ := loadMultiple_direct h hd hq hf setReg keep
  have hwrite := writeRegisters_placed (s := s.noted ev) (place := s.bank) (write := setReg) (fun _ _ _ => rfl)
    (vs.filter (·.1 != 15)) s.regs
  refine ⟨ev, (M.bind_ok _ hload).trans ((M.bind_ok _ hwrite).trans ?_)⟩
  cases w <;> rfl

/-- The write of a User register by the form with `^` (42 R561). -/
def writeUser (r : Reg) (v : Word) : M Unit := M.update (·.writeBank modeUsr r v)

/-- The loads of an LDM into User registers. -/
theorem loads_user (h : s.Ready) (hd : s.Direct) (hq : s.run.env = []) {l : List Reg} (hl : 15 ∉ l)
    (hf : s.Fits (multipleStart p u (s.readReg rn) l.length) l.length) (keep : Reg → Bool) (rest : M Unit) :
    let vs := l.zip (s.wordsFrom (multipleStart p u (s.readReg rn) l.length) l.length)
    ∃ ev, (do
      let vs ← loadMultiple writeUser keep p u rn l
      writeRegisters writeUser vs
      rest : M Unit) s = rest ((s.noted ev).setRegs (s.loadedRegs true false rn 0 vs)) := by
  intro vs
  obtain ⟨ev, hload⟩ := loadMultiple_direct h hd hq hf writeUser keep
  have hall : vs.filter (·.1 != 15) = vs :=
    List.filter_eq_self.mpr fun x hx => bne_iff_ne.mpr fun e => hl (e ▸ (List.of_mem_zip hx).1)
  have hwrite := writeRegisters_placed (s := s.noted ev) (place := s.placeOf true) (write := writeUser) (fun _ _ _ => rfl)
    vs s.regs
  refine ⟨ev, (M.bind_ok _ hload).trans ((M.bind_ok _ hwrite).trans ?_)⟩
  rw [State.loadedRegs, hall]
  rfl

/-- The base may be written back: a register of the current mode that the list does not have. -/
def BaseFree (user wb : Bool) (rn : Reg) (rs : List Reg) : Prop := wb = true → user = false ∧ rn ≠ 15 ∧ rn ∉ rs

section LoadedRegs
variable {user : Bool} {vs : List (Reg × Word)}

/-- A register of the list, R15 apart, holds its value: no other one of the list shares its place, nor the base. -/
theorem loadedRegs_at (hvs : (vs.map Prod.fst).Nodup) (hbase : BaseFree user w rn (vs.map Prod.fst)) {x : Reg × Word}
    (hx : x ∈ vs) (hpc : x.1 ≠ 15) : (s.loadedRegs user w rn ea vs)[s.placeOf user x.1] = x.2 := by
  have hplaces : (vs.filter (·.1 != 15)).Pairwise fun x y => s.placeOf user x.1 ≠ s.placeOf user y.1 := by
    refine ((List.pairwise_map.mp hvs).filter _).imp_of_mem fun hy hz hyz e => hyz ?_
    exact s.placeOf_injective user (bne_iff_ne.mp (List.mem_filter.mp hy).2) (bne_iff_ne.mp (List.mem_filter.mp hz).2) e
  have hat := placed_at hplaces s.regs x (List.mem_filter.mpr ⟨hx, bne_iff_ne.mpr hpc⟩)
  cases w with
  | false => exact hat
  | true =>
    obtain ⟨rfl, hrn, hnot⟩ := hbase rfl
    have hapart : (s.bank rn : Nat) ≠ s.placeOf false x.1 := fun e =>
      hnot (s.placeOf_injective false hrn hpc (Fin.ext e) ▸ List.mem_map_of_mem hx)
    exact (Vector.getElem_set_ne (s.bank rn).isLt _ hapart).trans hat

/-- A register that neither the list nor the base names is as before. -/
theorem loadedRegs_elsewhere {k : Fin 32} (hk : ∀ r ∈ vs.map Prod.fst, r ≠ 15 → s.placeOf user r ≠ k)
    (hbase : w = true → k ≠ s.bank rn) : (s.loadedRegs user w rn ea vs)[k] = s.regs[k] := by
  have helse := placed_elsewhere (place := s.placeOf user) (l := vs.filter (·.1 != 15)) (k := k)
    (fun x hx => hk _ (List.mem_map_of_mem (List.mem_filter.mp hx).1) (bne_iff_ne.mp (List.mem_filter.mp hx).2)) s.regs
  cases w with
  | false => exact helse
  | true =>
    have hapart : (s.bank rn : Nat) ≠ k := fun e => hbase rfl (Fin.ext e).symm
    exact (Vector.getElem_set_ne (s.bank rn).isLt _ hapart).trans helse

end LoadedRegs

/-- What an LDM leaves but for the pc, the status register and the debug unit: the listed registers, R15 apart, hold the
words; the base holds its new value where it is written back; every other register is as before. -/
def State.Loaded (s t : State) (user wb : Bool) (rn : Reg) (start ea : Word) (rs : List Reg) : Prop :=
  t = { s with regs := t.regs, pc := t.pc, cpsr := t.cpsr, dbg := t.dbg, run := t.run } ∧
  (∀ i (h : i < rs.length), rs[i] ≠ 15 → t.regs[s.placeOf user rs[i]] = s.mem.readBytes (s.wordPlace start i) 4) ∧
  (wb = true → t.regs[s.bank rn] = ea) ∧
  (∀ k : Fin 32, (∀ r ∈ rs, r ≠ 15 → s.placeOf user r ≠ k) → (wb = true → k ≠ s.bank rn) → t.regs[k] = s.regs[k])

/-- The words of a transfer with their registers. -/
theorem mem_zip_wordsFrom {start : Word} {rs : List Reg} {i : Nat} (h : i < rs.length) :
    (rs[i], s.mem.readBytes (s.wordPlace start i) 4) ∈ rs.zip (s.wordsFrom start rs.length) := by
  have hlen : i < (rs.zip (s.wordsFrom start rs.length)).length := by
    rw [List.length_zip, wordsFrom_length, min_self]
    exact h
  refine List.mem_iff_getElem.mpr ⟨i, hlen, ?_⟩
  rw [List.getElem_zip, wordsFrom_getElem]

theorem loaded_of_loadedRegs {t : State} {user : Bool} {start : Word} {rs : List Reg} (hrs : rs.Nodup)
    (hbase : BaseFree user w rn rs)
    (ht : t = { s with regs := t.regs, pc := t.pc, cpsr := t.cpsr, dbg := t.dbg, run := t.run })
    (hregs : t.regs = s.loadedRegs user w rn ea (rs.zip (s.wordsFrom start rs.length))) :
    s.Loaded t user w rn start ea rs := by
  have hfst : (rs.zip (s.wordsFrom start rs.length)).map Prod.fst = rs := List.map_fst_zip (by rw [wordsFrom_length])
  refine ⟨ht, fun i hi hpc => ?listed, fun hw => ?base, fun k hk hb => ?others⟩
  case listed =>
    rw [hregs]
    exact loadedRegs_at (by rwa [hfst]) (by rwa [hfst]) (mem_zip_wordsFrom hi) hpc
  case base =>
    subst hw
    rw [hregs]
    exact Vector.getElem_set_self _
  case others =>
    rw [hregs]
    exact loadedRegs_elsewhere (by rwa [hfst]) hb

/-- The value loaded for R15 is the one that stands beside it. -/
theorem pcValue_eq {vs : List (Reg × Word)} (hvs : (vs.map Prod.fst).Nodup) {x : Reg × Word} (hx : x ∈ vs) (hpc : x.1 = 15) :
    pcValue vs = x.2 := by
  induction vs with
  | nil => exact absurd hx List.not_mem_nil
  | cons y t ih =>
    obtain ⟨hy, ht⟩ := List.nodup_cons.mp hvs
    rcases List.mem_cons.mp hx with rfl | hx
    · simp [pcValue, hpc]
    · have hne : y.1 ≠ 15 := fun e => hy (e.trans hpc.symm ▸ List.mem_map_of_mem hx)
      rw [← ih ht hx, pcValue, List.find?_cons_of_neg (by simpa using hne)]
      rfl

/-- R15 is loaded with the last word. -/
theorem pcValue_wordsFrom {regs : BitVec 16} (hpc : regs.getLsbD 15 = true) (start : Word) :
    pcValue ((registersOf regs).zip (s.wordsFrom start (registersOf regs).length)) =
      s.mem.readBytes (s.wordPlace start ((registersOf regs).length - 1)) 4 := by
  obtain ⟨hlast, h15⟩ := registersOf_last hpc
  refine pcValue_eq ?_ (mem_zip_wordsFrom hlast) h15
  rw [List.map_fst_zip (by rw [wordsFrom_length])]
  exact registersOf_nodup regs

end Loads

/-! ## LDM (R560 to R562) -/

section LoadMultiple
variable {s : State} {c : Cond} {p u w : Bool} {rn : Reg} {regs : BitVec 16} {low : BitVec 15}

theorem exec_ldm (h : s.RunsArm c) (hok : (Instr.ldm c p u w rn regs).operandsAllowed = true) :
    exec (.ldm c p u w rn regs) s = finish (loadMany p u w rn regs) s := runToPc_allowed h _ hok _

theorem exec_ldmUser (h : s.RunsArm c) (hok : (Instr.ldmUser c p u false rn low).operandsAllowed = true) :
    exec (.ldmUser c p u false rn low) s = finish (loadUser p u rn low) s := runIf_allowed h hok _

theorem exec_ldmReturn (h : s.RunsArm c) (hok : (Instr.ldmReturn c p u w rn low).operandsAllowed = true) :
    exec (.ldmReturn c p u w rn low) s = finish (loadReturn p u w rn low) s := runToPc_allowed h true hok _

/-- The base of an LDM whose operands are allowed may be written back (42 R560). -/
theorem baseFree_of_allowed (hok : (listAllowed rn regs && ldmBaseAllowed w rn regs) = true) :
    BaseFree false w rn (registersOf regs) := by
  rintro rfl
  obtain ⟨hlist, hbase⟩ := Bool.and_eq_true_iff.mp hok
  refine ⟨rfl, bne_iff_ne.mp (Bool.and_eq_true_iff.mp hlist).2, fun hmem => ?_⟩
  rw [ldmBaseAllowed, mem_registersOf.mp hmem] at hbase
  exact absurd hbase (by decide)

/-- The start address of the transfer of a register list (42 R533). -/
def State.listedStart (s : State) (p u : Bool) (rn : Reg) (regs : BitVec 16) : Word :=
  multipleStart p u (s.readReg rn) (registersOf regs).length

/-- The registers of a list and the words that an LDM loads for them. -/
def State.listedWords (s : State) (p u : Bool) (rn : Reg) (regs : BitVec 16) : List (Reg × Word) :=
  (registersOf regs).zip (s.wordsFrom (s.listedStart p u rn regs) (registersOf regs).length)

/-- The base after it (42 R533). -/
def State.listedEnd (s : State) (u : Bool) (rn : Reg) (regs : BitVec 16) : Word :=
  multipleEnd u (s.readReg rn) (registersOf regs).length

/-- An LDM or STM whose words go straight to memory, and with nothing from outside between them. -/
structure State.TransfersList (s : State) (p u : Bool) (rn : Reg) (regs : BitVec 16) : Prop where
  ready : s.Ready
  direct : s.Direct
  alone : s.run.env = []
  fits : s.Fits (s.listedStart p u rn regs) (registersOf regs).length

/-- The note of a load of R15 leaves the words where they are. -/
theorem State.TransfersList.loadsPc (h : s.TransfersList p u rn regs) : s.loadsPc.TransfersList p u rn regs :=
  ⟨h.ready, h.direct.setRun _, h.alone, h.fits.usable, h.fits.noWrap⟩

/-- The ordinary form loads the registers, writes the base, and leaves by the interworking branch or in sequence. -/
theorem loadMany_loads (h : s.TransfersList p u rn regs) : ∃ run, loadMany p u w rn regs s =
    (if regs.getLsbD 15 then writePcInterworking (pcValue (s.listedWords p u rn regs)) else next)
      ((s.setRun run).setRegs (s.loadedRegs false w rn (s.listedEnd u rn regs) (s.listedWords p u rn regs))) := by
  cases hpc : regs.getLsbD 15 with
  | true =>
    obtain ⟨ev, e⟩ := loads_writeBack (w := w) (ea := s.listedEnd u rn regs) h.loadsPc.ready h.loadsPc.direct h.loadsPc.alone
      h.loadsPc.fits (keepsBase rn) fun vs => writePcInterworking (pcValue vs)
    rw [loadMany, hpc]
    exact ⟨_, e⟩
  | false =>
    obtain ⟨ev, e⟩ := loads_writeBack (w := w) (ea := s.listedEnd u rn regs) h.ready h.direct h.alone h.fits (keepsBase rn)
      fun _ => next
    rw [loadMany, hpc]
    exact ⟨_, e⟩

/-- User and System mode have no SPSR (10 R33). -/
theorem noSpsr_iff : s.noSpsr = true ↔ s.cpsr.m = modeUsr ∨ s.cpsr.m = modeSys := by
  rw [State.noSpsr, Bool.or_eq_true, beq_iff_eq, beq_iff_eq]

theorem noSpsr_of_spsrOf {k : Fin 6} (hk : spsrOf s.cpsr.m = some k) : s.noSpsr = false := by
  refine eq_false_of_ne_true fun h => ?_
  rcases noSpsr_iff.mp h with hm | hm
  · rw [hm, show spsrOf modeUsr = none by decide] at hk
    cases hk
  · rw [hm, show spsrOf modeSys = none by decide] at hk
    cases hk

/-- A form with `^` refuses in a mode that has no SPSR (93 U13). -/
theorem spsrNeeded_refuses (hm : s.noSpsr = true) (body : State → M Unit) :
    (do let s ← M.state; M.require (!s.noSpsr) .noSpsr; body s : M Unit) s = .error (.refuse .noSpsr) s := by
  have hrequire : M.require (!s.noSpsr) .noSpsr s = .error (.refuse .noSpsr) s := by rw [hm]; rfl
  exact (M.bind_ok _ (M.state_apply s)).trans (M.bind_error _ hrequire)

theorem spsrNeeded_goes_on (hm : s.noSpsr = false) (body : State → M Unit) :
    (do let s ← M.state; M.require (!s.noSpsr) .noSpsr; body s : M Unit) s = body s s := by
  have hrequire : M.require (!s.noSpsr) .noSpsr s = .ok () s := by rw [hm]; rfl
  exact (M.bind_ok _ (M.state_apply s)).trans (M.bind_ok _ hrequire)

/-- The CPSR from the SPSR of the mode, where the mode in it is one; Special Debug State ends (60 R827, 61 R894). -/
theorem restoreCpsr_legal (h : s.Ready) {k : Fin 6} (hk : spsrOf s.cpsr.m = some k)
    (hlegal : legalMode (s.spsr[k]).m = true) :
    restoreCpsr s = .ok () ((s.setCpsr s.spsr[k]).setDebug { s.dbg with sds := false, fromSram := false }) := by
  have hread : readSpsr s = .ok s.spsr[k] s := by rw [readSpsr_ready h, hk]
  rw [restoreCpsr, M.bind_ok _ hread, hlegal]
  rfl

/-- The User form loads User registers and marks the hazard (93 U63). -/
theorem loadUser_loads (h : s.TransfersList p u rn (0#1 ++ low)) (hm : s.noSpsr = false) : ∃ ev, loadUser p u rn low s =
    .ok () (((s.setRun { s.run with events := ev, userTransfer := 2 }).setRegs
      (s.loadedRegs true false rn 0 (s.listedWords p u rn (0#1 ++ low)))).setPc (s.pc + s.size)) := by
  have hbit : (0#1 ++ low : BitVec 16).getLsbD 15 = false := by rw [BitVec.getLsbD_append]; rfl
  have hpc : (15 : Reg) ∉ registersOf (0#1 ++ low) := fun hmem =>
    absurd (mem_registersOf.mp hmem) (ne_true_of_eq_false hbit)
  obtain ⟨ev, e⟩ := loads_user h.ready h.direct h.alone hpc h.fits
    (fun r => bankedRegister s.cfg.debugBanksR13 modeUsr r == s.bank rn) (do markUserTransfer; next)
  exact ⟨ev, (spsrNeeded_goes_on hm _).trans e⟩

/-- The return form loads the registers and writes the base, and then the CPSR from the SPSR and the pc (42 R562). -/
theorem loadReturn_loads (h : s.TransfersList p u rn (1#1 ++ low)) {k : Fin 6} (hk : spsrOf s.cpsr.m = some k)
    (hlegal : legalMode (s.spsr[k]).m = true) : ∃ run, loadReturn p u w rn low s = .ok () { s with
      regs := s.loadedRegs false w rn (s.listedEnd u rn (1#1 ++ low)) (s.listedWords p u rn (1#1 ++ low))
      pc := pcValue (s.listedWords p u rn (1#1 ++ low)) &&& (if (s.spsr[k]).t then 0xFFFFFFFE else 0xFFFFFFFC)
      cpsr := s.spsr[k]
      dbg := { s.dbg with sds := false, fromSram := false }
      run := run } := by
  have hnote : markPcLoad 15 s = .ok () s.loadsPc := rfl
  obtain ⟨ev, e⟩ := loads_writeBack (w := w) (ea := s.listedEnd u rn (1#1 ++ low)) h.loadsPc.ready h.loadsPc.direct
    h.loadsPc.alone h.loadsPc.fits (keepsBase rn) fun vs => do
      restoreCpsr
      M.update fun s => s.jump (pcValue vs &&& (if s.cpsr.t then 0xFFFFFFFE else 0xFFFFFFFC)) (.indirect true)
  have hrestore := restoreCpsr_legal (s := (s.loadsPc.noted ev).setRegs
    (s.loadedRegs false w rn (s.listedEnd u rn (1#1 ++ low)) (s.listedWords p u rn (1#1 ++ low)))) h.ready hk hlegal
  exact ⟨_, (spsrNeeded_goes_on (noSpsr_of_spsrOf hk) _).trans ((M.bind_ok _ hnote).trans
    (e.trans (M.bind_ok _ hrestore)))⟩

end LoadMultiple

end Sys2Proof.Machine

open Sys2Proof Sys2Proof.Machine

/-- Settles O14. Each form ends in a state whose registers are `State.loadedRegs` of the list with its words
(`loadMany_loads`, `loadUser_loads`, `loadReturn_loads`); `loaded_of_loadedRegs` reads them one by one. -/
theorem loadMultipleResult : Obligations.LoadMultipleResult := by
  intro s c p u w rn regs low h hd hq base start word fits place loaded rs ls ps
  have loads {regs : BitVec 16} (hf : fits (registersOf regs).length) : s.TransfersList p u rn regs :=
    ⟨h.ready, hd, hq, hf.1, hf.2⟩
  have hnext : s.pc + s.size = s.pc + 4 := congrArg (s.pc + ·) (size_eq_four h)
  refine ⟨fun hok hf => ?ordinary, fun hok hf => ?user, fun hok hf k hk hlegal => ?exceptionReturn⟩
  case ordinary =>
    have hloaded {t : State} := loaded_of_loadedRegs (s := s) (t := t) (start := start rs.length)
      (ea := s.listedEnd u rn regs)
      (registersOf_nodup regs) (baseFree_of_allowed hok)
    obtain ⟨run, e⟩ := loadMany_loads (w := w) (loads hf)
    rw [exec_ldm h hok]
    by_cases hpc : regs.getLsbD 15 = true
    · rw [if_pos hpc] at e ⊢
      rw [State.listedWords, pcValue_wordsFrom hpc] at e
      intro v
      by_cases hv : v.toNat % 4 = 2
      · rw [if_pos hv]
        exact finish_refuse (e.trans (writePcInterworking_refuses _ hv))
      · rw [if_neg hv]
        exact ⟨_, finish_ok (e.trans (writePcInterworking_branches _ hv)), hloaded rfl rfl, rfl, rfl, rfl⟩
    · rw [if_neg hpc] at e ⊢
      exact ⟨_, finish_ok e, hloaded rfl rfl, hnext, rfl, rfl⟩
  case user =>
    rw [exec_ldmUser h hok]
    by_cases hm : s.cpsr.m = modeUsr ∨ s.cpsr.m = modeSys
    · rw [if_pos hm]
      exact finish_refuse (spsrNeeded_refuses (noSpsr_iff.mpr hm) _)
    · rw [if_neg hm]
      obtain ⟨ev, e⟩ := loadUser_loads (loads hf) (eq_false_of_ne_true (mt noSpsr_iff.mp hm))
      exact ⟨_, finish_ok e, loaded_of_loadedRegs (registersOf_nodup _) (fun hw => absurd hw (by decide)) rfl rfl,
        hnext, rfl, rfl, rfl⟩
  case exceptionReturn =>
    rw [exec_ldmReturn h hok]
    obtain ⟨run, e⟩ := loadReturn_loads (w := w) (loads hf) hk hlegal
    have hlast : (1#1 ++ low).getLsbD 15 = true := by rw [BitVec.getLsbD_append]; rfl
    refine ⟨_, finish_ok e, loaded_of_loadedRegs (registersOf_nodup _) (baseFree_of_allowed hok) rfl rfl, rfl, rfl, ?_⟩
    exact congrArg (· &&& _) (pcValue_wordsFrom hlast _)
end

section
/-! # Stores of register lists (42 R533, R563, R564) -/

namespace Sys2Proof.Machine

/-! ## Words that share no byte -/

section Apart
variable {s : State} {start : Word} {n : Nat}

theorem clearLow_toNat (a : Word) : (a &&& 0xFFFFFFFC).toNat = a.toNat / 4 * 4 := by
  have hmask : a &&& (0xFFFFFFFC : Word) = (a >>> 2) <<< 2 := by
    apply BitVec.eq_of_getLsbD_eq
    intro i hi
    rw [aligned_bit, BitVec.getLsbD_shiftLeft, BitVec.getLsbD_ushiftRight]
    by_cases h : 2 ≤ i
    · simp [h, hi, show 1 < i from h]
    · simp [h, Nat.lt_of_not_le h]
  have ha := a.isLt
  rw [hmask, BitVec.toNat_shiftLeft, BitVec.toNat_ushiftRight, Nat.shiftLeft_eq, Nat.shiftRight_eq_div_pow]
  omega

/-- The words of a transfer that does not wrap lie 4 apart, from the start address rounded down. -/
theorem wordAddress_toNat (h : (start &&& 0xFFFFFFFC).toNat + 4 * n ≤ 2 ^ 32) {i : Nat} (hi : i < n) :
    ((start + BitVec.ofNat 32 (4 * i)) &&& 0xFFFFFFFC).toNat = (start &&& 0xFFFFFFFC).toNat + 4 * i := by
  rw [clearLow_toNat] at h ⊢
  rw [clearLow_toNat, BitVec.toNat_add, BitVec.toNat_ofNat]
  have := start.isLt
  omega

/-- The remapping of an address: below 32 MB the process number is its top bits (20 R191). -/
theorem remap_toNat (s : State) (a : Word) :
    (s.remap a).toNat = if a.toNat < 2 ^ 25 then s.cp15.pid.toNat * 2 ^ 25 + a.toNat else a.toNat := by
  have htop : a.extractLsb' 25 7 = 0 ↔ a.toNat < 2 ^ 25 := by
    have := a.isLt
    rw [← BitVec.toNat_inj, BitVec.extractLsb'_toNat, Nat.shiftRight_eq_div_pow]
    change _ = 0 ↔ _
    omega
  rw [State.remap]
  by_cases h : a.toNat < 2 ^ 25
  · rw [if_pos (htop.mpr h), if_pos h, BitVec.toNat_append, BitVec.extractLsb'_toNat, Nat.shiftRight_zero,
      Nat.mod_eq_of_lt h, ← Nat.shiftLeft_add_eq_or_of_lt h, Nat.shiftLeft_eq]
  · rw [if_neg (mt htop.mp h), if_neg h]

theorem wordPlace_toNat (s : State) (start : Word) (i : Nat) :
    (s.wordPlace start i).toNat = (s.remap ((start + BitVec.ofNat 32 (4 * i)) &&& 0xFFFFFFFC)).toNat := by
  rw [State.wordPlace, State.physical, lane_word, BitVec.toNat_setWidth]
  have := (s.remap ((start + BitVec.ofNat 32 (4 * i)) &&& 0xFFFFFFFC)).isLt
  omega

theorem apart_of_ne {x y : PAddr} (hx : x.toNat % 4 = 0) (hy : y.toNat % 4 = 0) (h : x.toNat ≠ y.toNat) : Apart x y := by
  intro a hax hay
  rw [BitVec.toNat_sub] at hax hay
  have := a.isLt
  have := x.isLt
  have := y.isLt
  omega

/-- The words of one transfer share no byte, also where it crosses from the remapped addresses to those that are not. -/
theorem wordPlace_apart (h : (start &&& 0xFFFFFFFC).toNat + 4 * n ≤ 2 ^ 32) (hn : n ≤ 16) {i j : Nat} (hi : i < j)
    (hj : j < n) : Apart (s.wordPlace start i) (s.wordPlace start j) := by
  have haligned (k : Nat) : (s.wordPlace start k).toNat % 4 = 0 := by
    rw [wordPlace_toNat, remap_mod_four]
    exact clearLow_mod_four _
  refine apart_of_ne (haligned i) (haligned j) ?_
  rw [wordPlace_toNat, wordPlace_toNat, remap_toNat, remap_toNat, wordAddress_toNat h (hi.trans hj), wordAddress_toNat h hj]
  split_ifs <;> omega

end Apart

/-! ## Stores of a list of registers -/

/-- A list of reads that leave the state as it is. -/
theorem each_reads {α β : Type} {s : State} {f : α → M β} {g : α → β} (h : ∀ a, f a s = .ok (g a) s) (l : List α) :
    M.each f l s = .ok (l.map g) s := by
  induction l with
  | nil => rfl
  | cons a t ih => exact (M.bind_ok _ (h a)).trans (M.bind_ok _ ih)

section Stores
variable {s : State} {c : Cond} {p u w : Bool} {rn : Reg} {regs : BitVec 16}

/-- The memory after the stores of some values in the words of a transfer: each word holds its value, and every other byte is
as before. -/
def State.StoredFrom (s : State) (start : Word) (rs : List Reg) (value : Reg → Word) (m : Memory) : Prop :=
  (∀ i (h : i < rs.length), m.readBytes (s.wordPlace start i) 4 = value rs[i]) ∧
  (∀ a : PAddr, (∀ i < rs.length, ¬ (a - s.wordPlace start i).toNat < 4) → m.read a = s.mem.read a)

/-- The words of a transfer with what is stored there. -/
def State.storesFrom (s : State) (start : Word) (rs : List Reg) (value : Reg → Word) : List (PAddr × Word) :=
  ((List.range rs.length).map (s.wordPlace start)).zip (rs.map value)

theorem storesFrom_length (start : Word) (rs : List Reg) (value : Reg → Word) :
    (s.storesFrom start rs value).length = rs.length := by simp [State.storesFrom]

theorem storesFrom_getElem {start : Word} {rs : List Reg} {value : Reg → Word} {i : Nat}
    (h : i < (s.storesFrom start rs value).length) :
    (s.storesFrom start rs value)[i] = (s.wordPlace start i, value (rs[i]'(storesFrom_length start rs value ▸ h))) := by
  simp [State.storesFrom]

theorem storesFrom_eq (start : Word) (rs : List Reg) (value : Reg → Word) : s.storesFrom start rs value =
    ((wordAddresses start rs.length).zip (rs.map value)).map fun x => (s.physical (x.1 &&& 0xFFFFFFFC) 4, x.2) := by
  have hplaces : (List.range rs.length).map (s.wordPlace start) =
      (wordAddresses start rs.length).map fun a => s.physical (a &&& 0xFFFFFFFC) 4 := by
    rw [wordAddresses, List.map_map]
    rfl
  rw [State.storesFrom, hplaces, List.zip_map_left]
  rfl

theorem StoredWords.storedFrom {start : Word} {rs : List Reg} {value : Reg → Word} {m : Memory}
    (h : StoredWords s.mem (s.storesFrom start rs value) m) (hlen : rs.length ≤ 16) (hf : s.Fits start rs.length) :
    s.StoredFrom start rs value m := by
  have hplace {x : PAddr × Word} (hx : x ∈ s.storesFrom start rs value) : ∃ i < rs.length, x.1 = s.wordPlace start i := by
    obtain ⟨i, hi, rfl⟩ := List.mem_iff_getElem.mp hx
    exact ⟨i, storesFrom_length start rs value ▸ hi, by rw [storesFrom_getElem]⟩
  have happart : (s.storesFrom start rs value).Pairwise fun x y => Apart x.1 y.1 := by
    refine List.pairwise_iff_getElem.mpr fun i j hi hj hij => ?_
    rw [storesFrom_getElem, storesFrom_getElem]
    exact wordPlace_apart hf.noWrap hlen hij (storesFrom_length start rs value ▸ hj)
  refine ⟨fun i hi => ?_, fun a ha => h.elsewhere fun x hx => ?_⟩
  · have hi' : i < (s.storesFrom start rs value).length := (storesFrom_length start rs value).symm ▸ hi
    have hread := h.reads happart _ (List.getElem_mem hi')
    rwa [storesFrom_getElem] at hread
  · obtain ⟨i, hi, e⟩ := hplace hx
    exact e ▸ ha i hi

/-- The stores of a transfer that fits. -/
theorem storeMultiple_direct (h : s.Ready) (hd : s.Direct) (hq : s.run.env = []) {rs : List Reg} (hlen : rs.length ≤ 16)
    (hf : s.Fits (multipleStart p u (s.readReg rn) rs.length) rs.length) (value : Reg → Word) :
    ∃ ev m, storeMultiple p u rn rs (rs.map value) s = .ok () ((s.noted ev).setMem m) ∧
      s.StoredFrom (multipleStart p u (s.readReg rn) rs.length) rs value m := by
  obtain ⟨ev, m, hstore, -, hstored⟩ := storeWords_direct s.userMode
    ((wordAddresses (multipleStart p u (s.readReg rn) rs.length) rs.length).zip (rs.map value)) hd hq
    fun x hx => usable_wordAddresses hf.usable _ (List.of_mem_zip hx).1
  refine ⟨ev, m, (M.bind_ok _ (reg_ready h rn)).trans ((M.bind_ok _ (noWrap_fits hf s)).trans
    ((M.bind_ok _ (asUser_apply s)).trans hstore)), StoredWords.storedFrom ?_ hlen hf⟩
  rwa [storesFrom_eq]

theorem exec_stm (h : s.RunsArm c) (hok : (Instr.stm c p u w rn regs).operandsAllowed = true) :
    exec (.stm c p u w rn regs) s = finish (storeMany p u w rn regs) s := runIf_allowed h hok _

theorem exec_stmUser (h : s.RunsArm c) (hok : (Instr.stmUser c p u false rn regs).operandsAllowed = true) :
    exec (.stmUser c p u false rn regs) s = finish (storeUser p u rn regs) s := runIf_allowed h hok _

/-- What a transfer stores of a register: R15 as any store stores it (92 D9, log 14), another one of the current mode, or
of User mode for the form with `^`. -/
def State.transferValue (s : State) (user : Bool) (r : Reg) : Word :=
  if r = 15 then s.pc + 12 else if user then s.regs[bankedRegister s.cfg.debugBanksR13 modeUsr r] else s.readReg r

/-- The ordinary form stores the registers, writes the base, and goes on in sequence. -/
theorem storeMany_stores (h : s.TransfersList p u rn regs) : ∃ (m : Memory) (ev : List (BitVec 8)),
    storeMany p u w rn regs s = .ok () { s with
      regs := s.basedRegs w rn (s.listedEnd u rn regs), pc := s.pc + s.size, mem := m, run := { s.run with events := ev } } ∧
    s.StoredFrom (s.listedStart p u rn regs) (registersOf regs) (s.transferValue false) m := by
  have hvalues := each_reads (g := s.transferValue false) (fun r => storedReg_ready h.ready r) (registersOf regs)
  obtain ⟨ev, m, hstore, hstored⟩ := storeMultiple_direct h.ready h.direct h.alone (registersOf_length_le regs) h.fits
    (s.transferValue false)
  refine ⟨m, ev, ?_, hstored⟩
  exact (M.bind_ok _ (M.state_apply s)).trans ((M.bind_ok _ hvalues).trans ((M.bind_ok _ hstore).trans
    (writeBack_next s w rn _ s.clk s.dbg s.trace m { s.run with events := ev })))

/-- The User form stores User registers and marks the hazard (93 U63). -/
theorem storeUser_stores (h : s.TransfersList p u rn regs) (hm : s.noSpsr = false) : ∃ (m : Memory) (ev : List (BitVec 8)),
    storeUser p u rn regs s = .ok () { s with
      pc := s.pc + s.size, mem := m, run := { s.run with events := ev, userTransfer := 2 } } ∧
    s.StoredFrom (s.listedStart p u rn regs) (registersOf regs) (s.transferValue true) m := by
  have hvalues := each_reads (g := s.transferValue true) (fun r => storedUser_ready h.ready r) (registersOf regs)
  obtain ⟨ev, m, hstore, hstored⟩ := storeMultiple_direct h.ready h.direct h.alone (registersOf_length_le regs) h.fits
    (s.transferValue true)
  refine ⟨m, ev, ?_, hstored⟩
  exact (spsrNeeded_goes_on hm _).trans ((M.bind_ok _ hvalues).trans (M.bind_ok _ hstore))

end Stores
end Sys2Proof.Machine

open Sys2Proof Sys2Proof.Machine

/-- Settles O15. Each form stores its values in turn (`storeMany_stores`, `storeUser_stores`), in words that share no byte
(`wordPlace_apart`), so that each reads back at the end. -/
theorem storeMultipleResult : Obligations.StoreMultipleResult := by
  intro s c p u w rn regs h hd hq rs base start place value stored husable hwrap
  have hlist : s.TransfersList p u rn regs := ⟨h.ready, hd, hq, husable, hwrap⟩
  have hnext : s.pc + s.size = s.pc + 4 := congrArg (s.pc + ·) (size_eq_four h)
  refine ⟨fun hok => ?ordinary, fun hok => ?user⟩
  case ordinary =>
    obtain ⟨m, ev, e, hstored⟩ := storeMany_stores (w := w) hlist
    rw [hnext] at e
    rw [exec_stm h hok]
    exact ⟨m, ev, finish_ok e, hstored⟩
  case user =>
    rw [exec_stmUser h hok]
    by_cases hm : s.cpsr.m = modeUsr ∨ s.cpsr.m = modeSys
    · rw [if_pos hm]
      exact finish_refuse (spsrNeeded_refuses (noSpsr_iff.mpr hm) _)
    · rw [if_neg hm]
      obtain ⟨m, ev, e, hstored⟩ := storeUser_stores hlist (eq_false_of_ne_true (mt noSpsr_iff.mp hm))
      rw [hnext] at e
      exact ⟨m, ev, finish_ok e, hstored⟩
end

section
/-! # SWP, SWPB and PLD (42 R554, R570, R571) -/

namespace Sys2Proof.Machine

/-! ## Bodies that never raise an exception

A PLD reports nothing (20 R199). Its walk and its fill go through the bus, the L2, the memory buffer and the L1D, none of
which ends an instruction other than by a refusal: an error there is logged, and is at most a pending abort. -/

/-- However it ends early, it refuses: it takes no data abort, no Undefined Instruction and no reset. -/
def M.OnlyRefuses {α : Type} (m : M α) : Prop := ∀ s x t, m s = .error x t → ∃ r, x = .refuse r

namespace OnlyRefuses

section Combinators
variable {α β : Type}

theorem succeeds {m : M α} (h : ∀ s, ∃ a t, m s = .ok a t) : M.OnlyRefuses m := by
  intro s x t e
  obtain ⟨a, t', ok⟩ := h s
  cases ok.symm.trans e

theorem pure (a : α) : M.OnlyRefuses (Pure.pure a : M α) := succeeds fun s => ⟨a, s, rfl⟩
theorem state : M.OnlyRefuses M.state := succeeds fun s => ⟨s, s, rfl⟩
theorem update (f : State → State) : M.OnlyRefuses (M.update f) := succeeds fun s => ⟨(), f s, rfl⟩
theorem draw (w : Nat) : M.OnlyRefuses (M.draw w) := succeeds fun s => ⟨_, _, M.draw_apply s w⟩

theorem refuse (r : Refusal) : M.OnlyRefuses (M.refuse r : M α) := by
  intro s x t e
  cases e
  exact ⟨r, rfl⟩

theorem bind {m : M α} {f : α → M β} (h : M.OnlyRefuses m) (k : ∀ a, M.OnlyRefuses (f a)) : M.OnlyRefuses (m >>= f) := by
  intro s x t e
  rw [M.bind_apply] at e
  cases hm : m s with
  | ok a t' =>
    rw [hm] at e
    exact k a t' x t e
  | error y t' =>
    rw [hm] at e
    cases e
    exact h s _ _ hm

theorem ite {c : Prop} [Decidable c] {m n : M α} (h : M.OnlyRefuses m) (k : M.OnlyRefuses n) :
    M.OnlyRefuses (if c then m else n) := by
  split
  · exact h
  · exact k

/-- An action that is made on a condition, and what follows it either way. -/
theorem optional {c : Prop} [Decidable c] {m : M Unit} {f : Unit → M β} (h : M.OnlyRefuses m)
    (k : ∀ u, M.OnlyRefuses (f u)) : M.OnlyRefuses (if c then m >>= f else f ()) := ite (bind h k) (k ())

/-- Either of two actions, and what follows it. -/
theorem either {c : Prop} [Decidable c] {m n : M α} {f : α → M β} (h : M.OnlyRefuses m) (k : M.OnlyRefuses n)
    (l : ∀ a, M.OnlyRefuses (f a)) : M.OnlyRefuses (if c then m >>= f else n >>= f) := ite (bind h l) (bind k l)

theorem require (c : Bool) (r : Refusal) : M.OnlyRefuses (M.require c r) := ite (pure _) (refuse r)

theorem each {f : α → M β} (h : ∀ a, M.OnlyRefuses (f a)) (l : List α) : M.OnlyRefuses (M.each f l) := by
  induction l with
  | nil => exact pure _
  | cons a t ih => exact bind (h a) fun _ => bind ih fun _ => pure _

theorem uncounted {m : M α} (h : M.OnlyRefuses m) : M.OnlyRefuses (Machine.uncounted m) := by
  intro s x t e
  rw [Machine.uncounted] at e
  cases hm : m s with
  | ok a t' =>
    rw [hm] at e
    cases e
  | error y t' =>
    rw [hm] at e
    cases e
    exact h s _ _ hm

end Combinators

/-! ### The bus and the L2 -/

theorem transactionAddress (pline : BitVec 31) (origin : Option PAddr) :
    M.OnlyRefuses (Machine.transactionAddress pline origin) := by
  cases origin with
  | some a => exact pure _
  | none => exact bind (draw _) fun _ => pure _

theorem busAnswer (pline : BitVec 31) (origin : Option PAddr) : M.OnlyRefuses (Machine.busAnswer pline origin) := by
  refine bind state fun s => ?_
  cases s.ext.busErrors with
  | nil => exact pure _
  | cons kinds t =>
    exact bind (update _) fun _ => ite (bind (transactionAddress _ _) fun _ => bind (update _) fun _ => pure _)
      (bind (update _) fun _ => pure _)

theorem busRead (pa : PAddr) (n : Nat) : M.OnlyRefuses (Machine.busRead pa n) :=
  bind state fun _ => bind (busAnswer _ _) fun _ => ite (bind (draw _) fun _ => pure _) (pure _)

theorem busPut (origin : Option PAddr) (pa : PAddr) (n : Nat) (v : BitVec (8 * n)) (mask : BitVec n) :
    M.OnlyRefuses (Machine.busPut origin pa n v mask) :=
  bind (busAnswer _ _) fun _ => ite (bind (update _) fun _ => bind (draw _) fun _ => ite (update _) (pure _)) (update _)

theorem settle (data : BitVec 256) (known : BitVec 32) : M.OnlyRefuses (Machine.settle data known) :=
  ite (pure _) (bind (draw _) fun _ => pure _)

theorem settleLeaving : M.OnlyRefuses Machine.settleLeaving :=
  bind state fun _ => ite (pure _) (bind (update _) fun _ => bind (each (fun _ => busPut _ _ _ _ _) _) fun _ => pure _)

theorem settleFor (pline : BitVec 31) : M.OnlyRefuses (Machine.settleFor pline) :=
  bind state fun _ => ite settleLeaving (pure _)

theorem busWrite (origin : Option PAddr) (pa : PAddr) (n : Nat) (v : BitVec (8 * n)) (mask : BitVec n) :
    M.OnlyRefuses (Machine.busWrite origin pa n v mask) :=
  bind (settleFor _) fun _ => busPut _ _ _ _ _

theorem l2Correct (set way : Nat) (x : L2Line) : M.OnlyRefuses (Machine.l2Correct set way x) :=
  ite (bind (update _) fun _ => pure _) (pure _)

theorem l2Check (set way : Nat) (x : L2Line) (data : Bool) : M.OnlyRefuses (Machine.l2Check set way x data) :=
  either (l2Correct _ _ _) (pure _) fun _ => bind (update _) fun _ => pure _

theorem l2CheckTags (set : Nat) : M.OnlyRefuses (Machine.l2CheckTags set) :=
  bind state fun _ => bind (update _) fun _ => pure _

theorem l2ReadOut (set way : Nat) (x : L2Line) : M.OnlyRefuses (Machine.l2ReadOut set way x) :=
  bind (l2Check _ _ _ _) fun _ => ite (bind (update _) fun _ => bind (draw _) fun _ => bind (draw _) fun _ => pure _)
    (bind (settle _ _) fun _ => pure _)

theorem l2WriteBack (set way : Nat) (x : L2Line) : M.OnlyRefuses (Machine.l2WriteBack set way x) := by
  refine bind (l2ReadOut _ _ _) fun v => ?_
  cases v with
  | some v => exact busWrite _ _ _ _ _
  | none => exact pure _

theorem l2Allocate (x : L2Line) : M.OnlyRefuses (Machine.l2Allocate x) := by
  refine bind state fun s => ?_
  dsimp only
  split
  · exact optional (l2WriteBack _ _ _) fun _ => update _
  · exact update _

theorem l2Claim (x : L2Line) : M.OnlyRefuses (Machine.l2Claim x) :=
  ite (bind (update _) fun _ => bind (busAnswer _ _) fun _ => pure _) (pure _)

theorem fillState (shared : Bool) : M.OnlyRefuses (Machine.fillState shared) :=
  ite (bind (draw _) fun _ => pure _) (pure _)

theorem l2Read (pline : BitVec 31) (shared swap : Bool) (mvas : List (BitVec 27)) :
    M.OnlyRefuses (Machine.l2Read pline shared swap mvas) := by
  refine bind (update _) fun _ => bind state fun s => ?_
  dsimp only
  split
  · exact bind (l2Check _ _ _ _) fun _ => either (l2Claim _) (pure _) fun _ => bind (update _) fun _ =>
      ite (bind (draw _) fun _ => pure _) (pure _)
  · refine bind (update _) fun _ => bind (l2CheckTags _) fun _ => ite (bind (draw _) fun _ => pure _)
      (bind (busRead _ _) fun _ => ite (pure _) (bind (fillState _) fun st => ?_))
    cases st with
    | some st => exact bind (l2Allocate _) fun _ => pure _
    | none => exact pure _

theorem l2Write (pline : BitVec 31) (data : BitVec 256) (mask : BitVec 32) (mvas : List (BitVec 27)) :
    M.OnlyRefuses (Machine.l2Write pline data mask mvas) := by
  refine bind (update _) fun _ => bind state fun s => ?_
  dsimp only
  split
  · exact bind (l2Check _ _ _ _) fun _ => bind (l2Claim _) fun _ => optional (update _) fun _ => update _
  · exact bind (update _) fun _ => bind (l2CheckTags _) fun _ => either (pure _) (busRead _ _) fun _ =>
      optional (update _) fun _ => l2Allocate _

/-! ### The memory buffer and the next level -/

theorem l2Bypass (pline : BitVec 31) (mvas : List (BitVec 27)) : M.OnlyRefuses (Machine.l2Bypass pline mvas) :=
  bind state fun _ => require _ _

theorem mayPass (e : BufEntry) : M.OnlyRefuses e.mayPass := ite (pure _) (l2Bypass _ _)

theorem writeNext (e : BufEntry) : M.OnlyRefuses (Machine.writeNext e) :=
  bind state fun _ => ite (l2Write _ _ _ _) (busWrite _ _ _ _ _)

theorem drainAll : M.OnlyRefuses Machine.drainAll :=
  bind state fun _ => ite (pure _) (bind (update _) fun _ => bind (each writeNext _) fun _ => pure _)

theorem drainFor (pline : BitVec 31) : M.OnlyRefuses (Machine.drainFor pline) :=
  bind state fun _ => ite drainAll (pure _)

theorem drainOldest : M.OnlyRefuses Machine.drainOldest := by
  refine bind state fun s => ?_
  cases s.caches.buf.entries with
  | nil => exact pure _
  | cons e t => exact bind (update _) fun _ => writeNext _

theorem storeNext (coalesce : Bool) (e : BufEntry) : M.OnlyRefuses (Machine.storeNext coalesce e) := by
  refine ite (bind state fun s => ?_) (bind (drainFor _) fun _ => bind (mayPass _) fun _ => writeNext _)
  cases coalesceInto e s.caches.buf.entries with
  | some l => exact bind (mayPass _) fun _ => update _
  | none =>
    exact bind (drainFor _) fun _ => bind (mayPass _) fun _ => bind (update _) fun _ => bind state fun _ =>
      ite drainOldest (pure _)

theorem readNext (line : BitVec 27) (pline : BitVec 31) (outer shared swap : Bool) :
    M.OnlyRefuses (Machine.readNext line pline outer shared swap) :=
  bind state fun _ => ite (l2Read _ _ _ _) (bind (l2Bypass _ _) fun _ => bind (busRead _ _) fun _ => pure _)

/-! ### Table walks and translation -/

theorem newestWord (pa : PAddr) : M.OnlyRefuses (Machine.newestWord pa) :=
  bind state fun _ => bind (settle _ _) fun _ => pure _

theorem oldOrNewWord (pa : PAddr) (w : Word) : M.OnlyRefuses (Machine.oldOrNewWord pa w) :=
  bind state fun _ => ite (pure _) (bind (draw _) fun _ => ite (newestWord _) (pure _))

theorem walkAccess (pa : PAddr) : M.OnlyRefuses (Machine.walkAccess pa) :=
  bind state fun _ => ite (bind (l2Read _ _ _ _) fun _ => bind (settle _ _) fun _ => pure _)
    (bind (busRead _ _) fun _ => pure _)

theorem walkRead (pa : PAddr) : M.OnlyRefuses (Machine.walkRead pa) := by
  refine bind state fun _ => bind (require _ _) fun _ => bind (require _ _) fun _ => bind (walkAccess _) fun w => ?_
  cases w with
  | none => exact pure _
  | some w => exact oldOrNewWord _ _

theorem tableWalkWith {read : PAddr → M (Option Word)} (h : ∀ pa, M.OnlyRefuses (read pa)) (mva : Word) :
    M.OnlyRefuses (Machine.tableWalkWith read mva) := by
  refine bind state fun _ => bind (h _) fun l1 => ?_
  cases l1 with
  | none => exact pure _
  | some l1 =>
    dsimp only
    split
    · exact pure _
    · exact bind (require _ _) fun _ => pure _
    · refine bind (h _) fun l2 => ?_
      cases l2 with
      | none => exact pure _
      | some l2 =>
        dsimp only
        split
        · exact pure _
        · exact pure _

theorem heldEntry (e : TlbEntry) (mva : Word) : M.OnlyRefuses (Machine.heldEntry e mva) :=
  bind state fun _ => ite (pure _) (bind (draw _) fun _ => ite (tableWalkWith newestWord _) (pure _))

theorem findEntry (mva : Word) (kind : AccessKind) : M.OnlyRefuses (Machine.findEntry mva kind) := by
  refine bind state fun s => ?_
  cases (s.tlbFor kind).lookup mva with
  | some e => exact heldEntry _ _
  | none =>
    refine bind (update _) fun _ => bind (tableWalkWith walkRead _) fun r => ?_
    cases r with
    | error f => exact pure _
    | ok e => exact bind (update _) fun _ => pure _

theorem checkEntry (e : TlbEntry) (mva : Word) (kind : AccessKind) (user : Bool) :
    M.OnlyRefuses (Machine.checkEntry e mva kind user) := by
  refine bind state fun s => ?_
  split
  · cases permission (e.apAt mva) user s.cp15.ctrl.system s.cp15.ctrl.rom with
    | none => exact refuse _
    | some p => exact ite (pure _) (pure _)
  · exact pure _
  · exact pure _

theorem translate (mva : Word) (kind : AccessKind) (user : Bool) : M.OnlyRefuses (Machine.translate mva kind user) := by
  refine bind (findEntry _ _) fun r => ?_
  cases r with
  | error f => exact pure _
  | ok e =>
    refine bind (checkEntry _ _ _ _) fun r => ?_
    cases r with
    | error f => exact pure _
    | ok _ => exact pure _

theorem attributes (e : TlbEntry) : M.OnlyRefuses (Machine.attributes e) := by
  refine bind (bind state fun _ => require _ _) fun _ => bind state fun s => bind (require _ _) fun _ => ?_
  cases s.attr e with
  | some a => exact pure _
  | none => exact refuse _

/-! ### The fill of the L1D, and the preload -/

theorem dWriteBack (x : DLine) (counted : Bool) : M.OnlyRefuses (Machine.dWriteBack x counted) :=
  ite (update _) (bind (update _) fun _ => bind (settle _ _) fun _ => ite (storeNext _ _)
    (bind (drainFor _) fun _ => bind (mayPass _) fun _ => uncounted (writeNext _)))

theorem dAllocate (line : BitVec 27) (pline : BitVec 31) (a : Attr) (data : BitVec 256) (known : BitVec 32) :
    M.OnlyRefuses (Machine.dAllocate line pline a data known) := by
  refine bind state fun s => ?_
  dsimp only
  split
  · exact optional (dWriteBack _ _) fun _ => ite (bind (draw _) fun _ => update _) (update _)
  · exact ite (bind (draw _) fun _ => update _) (update _)

theorem dFill (line : BitVec 27) (pline : BitVec 31) (a : Attr) (swap report : Bool) (held : BitVec 32) :
    M.OnlyRefuses (Machine.dFill line pline a swap report held) :=
  bind (drainFor _) fun _ => bind (readNext _ _ _ _ _) fun _ =>
    ite (either (pure _) (draw _) fun _ => optional (update _) fun _ => pure _) (bind (dAllocate _ _ _ _ _) fun _ => settle _ _)

theorem preload (va : Word) : M.OnlyRefuses (Machine.preload va) := by
  refine bind state fun s => ite (bind (translate _ _ _) fun r => ?_) (pure _)
  cases r with
  | error f => exact pure _
  | ok x =>
    obtain ⟨pa, e⟩ := x
    exact bind (attributes _) fun _ => bind (update _) fun _ => bind state fun _ => ite (pure _)
      (bind (update _) fun _ => ite (bind (dFill _ _ _ _ _ _) fun _ => pure _) (pure _))

end OnlyRefuses

/-! ## PLD (R554) -/

section Preload
variable {s t : State} {u : Bool} {rn : Reg} {off : Offset2}

/-- What a quiet body leaves open, as one equation. -/
theorem SameCore.eq_update (h : SameCore s t) : t = { s with
    mem := t.mem, tlbs := t.tlbs, caches := t.caches, ext := t.ext, errlog := t.errlog, run := t.run } := by
  obtain ⟨hregs, hpc, hcpsr, hspsr, hacc0, hcp15, hpmu, hclk, hdbg, htrace, hjtag, hcfg, -⟩ := h
  rw [← hregs, ← hpc, ← hcpsr, ← hspsr, ← hacc0, ← hcp15, ← hpmu, ← hclk, ← hdbg, ← htrace, ← hjtag, ← hcfg]

/-- A PLD whose operands are allowed makes its preload and goes on in sequence. -/
theorem exec_pld (h : s.Ready) (hok : (Instr.pld u rn off).operandsAllowed = true) :
    exec (.pld u rn off) s = finish (do preload (s.indexedBy u rn (s.offsetWord off)); next) s := by
  refine finish_congr ((M.bind_ok s (allowed_true s ?_)).trans ((M.bind_ok s (reg_ready h rn)).trans
    (M.bind_ok s (offsetTwo_ready h off))))
  cases off <;> exact hok

/-- With the MMU off it does nothing (log 27). -/
theorem preload_mmuOff (hm : s.cp15.ctrl.mmu = false) (va : Word) : preload va s = .ok () s := by
  rw [preload, M.bind_ok s (M.state_apply s), hm]
  rfl

/-- An instruction of a body that can only refuse answers a next state just where the body ends of itself. -/
theorem finish_eq_next {m : M Unit} (h : M.OnlyRefuses m) (e : finish m s = .next t) : m s = .ok () t := by
  cases hm : m s with
  | ok a t' =>
    rw [finish_ok hm] at e
    cases e
    rfl
  | error x t' =>
    obtain ⟨r, rfl⟩ := h s x t' hm
    rw [finish_refuse hm] at e
    cases e

end Preload

/-! ## SWP and SWPB (R570, R571) -/

section Swap
variable {s : State} {c : Cond} {rn rd rm : Reg}

/-- The read and the write of a swap at a located address, one after the other (20 R200). -/
theorem memSwap_direct (h : s.Direct) {va mva : Word} {n : Nat} (hn : n = 1 ∨ n = 2 ∨ n = 4)
    (ha : checkAlign (s.remap va) n s = .ok mva s) (hm : mva.toNat % n = 0) (v : BitVec (8 * n)) :
    ∃ (m : Memory) (ev : List (BitVec 8)),
      memSwap va n v s = .ok (s.mem.readBytes (s.lane (mva.setWidth 36) n) n) ((s.noted ev).setMem m) ∧
      Stored s.mem m (s.lane (mva.setWidth 36) n) n v := by
  have hlocate := locate_direct h .swap s.userMode ha
  have hread := dRead_direct h mva (s.lane (mva.setWidth 36) n) n true
  have hwrite := dWrite_direct (s := s.accessed) (noted_direct h _) mva (s.lane (mva.setWidth 36) n) n v
  refine ⟨_, s.accessed.accessed.run.events, (M.bind_ok _ (asUser_apply s)).trans ((M.bind_ok _ hlocate).trans
    ((M.bind_ok _ (M.state_apply s)).trans ((M.bind_ok _ hread).trans ((M.bind_ok _ hwrite).trans
      (M.bind_ok _ (barrier_direct h.buffer h.settled)))))), stored_line h.canonical _ _ (by omega) (lane_inLine hn hm) v⟩

/-- A swap of registers other than R15: the old value in Rd, and what the swap leaves in memory. -/
theorem swapBody_swaps (h : s.RunsArm c) (hrn : rn ≠ 15) (hrd : rd ≠ 15) (hrm : rm ≠ 15) (hnm : rn ≠ rm) (hnd : rn ≠ rd)
    {n : Nat} {pa : PAddr} (extend : Word → BitVec (8 * n) → Word)
    (hswap : ∃ (m : Memory) (ev : List (BitVec 8)), memSwap (s.readReg rn) n ((s.readReg rm).setWidth (8 * n)) s =
      .ok (s.mem.readBytes pa n) ((s.noted ev).setMem m) ∧ Stored s.mem m pa n ((s.readReg rm).setWidth (8 * n))) :
    ∃ (m : Memory) (ev : List (BitVec 8)), runIf c (swapBody n extend rn rd 0 rm) s = .next { s with
        regs := s.regs.set (s.bank rd) (extend (s.readReg rn) (s.mem.readBytes pa n)), pc := s.pc + 4, mem := m
        run := { s.run with events := ev } } ∧
      Stored s.mem m pa n ((s.readReg rm).setWidth (8 * n)) := by
  obtain ⟨m, ev, hmem, hstored⟩ := hswap
  have hregs : notPc [rn, rd, rm] = true := notPc_cons hrn (notPc_cons hrd (notPc_cons (rs := []) hrm rfl))
  have hok : (isZero (0 : BitVec 4) && notPc [rn, rd, rm] && rn != rm && rn != rd) = true := by
    simp [isZero, hregs, hnm, hnd]
  refine ⟨m, ev, (runIf_allowed h hok _).trans (finish_ok (u := ()) ?_), hstored⟩
  rw [M.bind_ok _ (reg_ready h.ready rn), M.bind_ok _ (reg_ready h.ready rm), M.bind_ok _ hmem, ← size_eq_four h]
  rfl

end Swap
end Sys2Proof.Machine

open Sys2Proof Sys2Proof.Machine

/-- Settles O16. A swap is its access (`memSwap_direct`) between the reads of its registers and the write of Rd. A preload can
only refuse (`OnlyRefuses.preload`), so that a PLD with a next state is a quiet body that has ended, and the pc. -/
theorem swapAndPreloadResult : Obligations.SwapAndPreloadResult := by
  refine ⟨fun s c rn rd rm h hd hrn hrd hrm hnm hnd => ?swaps, fun s u rn off h hok => ⟨fun hm => ?mmuOff, fun t e => ?hint⟩⟩
  case swaps =>
    intro a word byte swaps
    refine ⟨fun ha => ?swp, ?swpb⟩
    case swp =>
      have hmva : (s.remap (a &&& 0xFFFFFFFC)).toNat % 4 = 0 := (remap_mod_four s _).trans (clearLow_mod_four a)
      have hswap := memSwap_direct hd (.inr (.inr rfl)) (checkAlign_usable ha) hmva ((s.readReg rm).setWidth (8 * 4))
      have hruns := swapBody_swaps h hrn hrd hrm hnm hnd (fun a v => rotateLoad a v) hswap
      rw [BitVec.setWidth_eq] at hruns
      exact hruns
    case swpb =>
      have hswap := memSwap_direct (va := a) hd (.inl rfl) (checkAlign_aligned (Nat.mod_one _)) (Nat.mod_one _)
        ((s.readReg rm).setWidth (8 * 1))
      exact swapBody_swaps h hrn hrd hrm hnm hnd (fun _ v => v.setWidth 32) hswap
  case mmuOff =>
    rw [exec_pld h hok]
    exact finish_ok (u := ()) (M.bind_ok s (preload_mmuOff hm _))
  case hint =>
    rw [exec_pld h hok] at e
    have hpreload := OnlyRefuses.preload (s.indexedBy u rn (s.offsetWord off))
    have hend := finish_eq_next (OnlyRefuses.bind hpreload fun _ => OnlyRefuses.update _) e
    cases hp : preload (s.indexedBy u rn (s.offsetWord off)) s with
    | error x t' =>
      rw [M.bind_error s hp] at hend
      cases hend
    | ok a t' =>
      have hsame := (Quiet.preload _).ok hp
      rw [M.bind_ok s hp] at hend
      cases hend
      rw [hsame.eq_update]
      rfl
end

section
/-! # MRC of the registers of CP15, CP14 and CP7 (11 R71 to R133; 12 R141 to R174; 43 R626) -/

namespace Sys2Proof.Machine

/-! ## What a read of a register answers -/

/-- A read of a register that changes nothing but the count of free values, and what holds of its word. -/
abbrev State.OnlyReads (s : State) (value : M Word) (p : Word → Prop) : Prop := s.ReadsDebug value s.dbg s.trace p

section Reads
variable {s : State} {value : M Word} {p : Word → Prop}

theorem plainRead_apply (f : State → Word) : plainRead f s = .ok (f s) s := rfl

theorem plainRead_reads (f : State → Word) : s.OnlyReads (plainRead f) (fun v => v = f s) :=
  ⟨f s, s.run.free, plainRead_apply f, rfl⟩

/-- A register with reserved bits: what holds of its word whatever they read as. -/
theorem onlyReads_anyBits {w mask : Word} (hvalue : value s = anyBits w mask s)
    (hp : ∀ free : Word, p ((w &&& ~~~mask) ||| (free &&& mask))) : s.OnlyReads value p :=
  ⟨_, s.run.free + 1, hvalue.trans (anyBits_apply w mask), hp _⟩

end Reads

/-! ## The registers of CP15 -/

section SystemReads
variable {s : State}

theorem mainId_reads : s.OnlyReads (plainRead fun s => Config.mainId s.cfg) (fun v =>
    v.extractLsb' 24 8 = 0x69 ∧ v.extractLsb' 16 8 = 0x05 ∧ v.extractLsb' 13 3 = 3 ∧
      v.extractLsb' 10 3 = s.cfg.uarchRevision ∧ v.extractLsb' 4 6 = s.cfg.productNumber ∧
      v.extractLsb' 0 4 = s.cfg.productRevision) := by
  refine ⟨_, s.run.free, rfl, ?_⟩
  simp (disch := decide) only [Config.mainId, BitVec.extractLsb'_append_eq_of_le, BitVec.extractLsb'_append_eq_of_add_le]
  simp

theorem l2Id_reads : s.OnlyReads (anyBits 0x69000000 0x00FFFFFF) (fun v => v.extractLsb' 24 8 = 0x69) :=
  onlyReads_anyBits rfl fun _ => (extractLsb'_anyBits (by decide) (by decide)).trans (by decide)

/-- With no L2 both way-size fields read as one free value; with one the word is that of its size (11 R74). -/
theorem readL2CacheType_reads : s.OnlyReads readL2CacheType (fun v => v.extractLsb' 24 8 = 0x0A ∧
    (s.cfg.l2 = .absent → v.extractLsb' 12 8 = 0 ∧ v.extractLsb' 0 8 = 0) ∧
    (s.cfg.l2 = .kb256 → v = 0x0A240240) ∧ (s.cfg.l2 = .kb512 → v = 0x0A340340) ∧
    v.extractLsb' 20 4 = v.extractLsb' 8 4) := by
  rw [State.OnlyReads, State.ReadsDebug, readL2CacheType, M.bind_ok _ (M.state_apply s)]
  cases s.cfg.l2 with
  | kb256 => exact ⟨_, s.run.free, rfl, by decide, nofun, fun _ => rfl, nofun, by decide⟩
  | kb512 => exact ⟨_, s.run.free, rfl, by decide, nofun, nofun, fun _ => rfl, by decide⟩
  | absent =>
    refine ⟨_, s.run.free + 1, rfl, ?_⟩
    simp (disch := decide) only [BitVec.extractLsb'_append_eq_of_le, BitVec.extractLsb'_append_eq_of_add_le]
    simp

/-- The bits of the Control Register that every product reads as they are held (11 R78). -/
def Ctrl.Shown (k : Ctrl) (v : Word) : Prop :=
  v.getLsbD 0 = k.mmu ∧ v.getLsbD 1 = k.align ∧ v.getLsbD 2 = k.dcache ∧ v.getLsbD 7 = k.bigEndian ∧
    v.getLsbD 8 = k.system ∧ v.getLsbD 9 = k.rom ∧ v.getLsbD 11 = k.btb ∧ v.getLsbD 12 = k.icache ∧
    v.getLsbD 13 = k.highVectors

/-- The Control Register with the product's value of its reserved bits. -/
theorem ctrl_shown (k : Ctrl) (reserved : Word) :
    k.Shown (k.toWord ||| (reserved &&& ~~~ctrlMask)) ∧ (k.toWord ||| (reserved &&& ~~~ctrlMask)).getLsbD 26 = k.l2 := by
  simp only [Ctrl.Shown, Ctrl.toWord, ctrlMask, BitVec.getLsbD_or, BitVec.getLsbD_and, BitVec.getLsbD_append]
  simp

theorem readControl_reads : s.OnlyReads readControl (fun v => s.cp15.ctrl.Shown v ∧
    (s.cfg.l2 ≠ .absent ∨ s.cp15.ctrl.l2 = false → v.getLsbD 26 = s.cp15.ctrl.l2)) := by
  obtain ⟨hshown, hl2⟩ := ctrl_shown s.cp15.ctrl s.cfg.ctrlReservedRead
  rw [State.OnlyReads, State.ReadsDebug, readControl, M.bind_ok _ (M.state_apply s), M.ite_apply]
  by_cases hread : (s.l2Present || !s.cp15.ctrl.l2) = true
  · rw [if_pos hread]
    exact ⟨_, s.run.free, rfl, hshown, fun _ => hl2⟩
  · rw [if_neg hread]
    have hfree : ¬ (s.cfg.l2 ≠ .absent ∨ s.cp15.ctrl.l2 = false) := by simpa [State.l2Present] using hread
    refine onlyReads_anyBits rfl fun free => ⟨?_, fun h => absurd h hfree⟩
    simpa (disch := decide) only [Ctrl.Shown, getLsbD_anyBits] using hshown

theorem readAuxControl_reads : s.OnlyReads readAuxControl (fun v =>
    v.extractLsb' 10 2 = s.cp15.auxOC ∧ v.extractLsb' 4 2 = s.cp15.auxIC ∧ v.getLsbD 1 = s.cp15.auxP) := by
  refine onlyReads_anyBits rfl fun free => ?_
  simp (disch := decide) only [getLsbD_anyBits, extractLsb'_anyBits, BitVec.getLsbD_append,
    BitVec.extractLsb'_append_eq_of_le, BitVec.extractLsb'_append_eq_of_add_le]
  simp

theorem readTtBase_reads : s.OnlyReads readTtBase (fun v =>
    v.extractLsb' 14 18 = s.cp15.ttBase ∧ v.extractLsb' 3 2 = s.cp15.ttOC ∧ v.getLsbD 2 = s.cp15.ttP) := by
  refine onlyReads_anyBits rfl fun free => ?_
  simp (disch := decide) only [getLsbD_anyBits, extractLsb'_anyBits, BitVec.getLsbD_append,
    BitVec.extractLsb'_append_eq_of_le, BitVec.extractLsb'_append_eq_of_add_le]
  simp

theorem readFsr_reads : s.OnlyReads readFsr (fun v => v.getLsbD 10 = s.cp15.fsr.x ∧ v.getLsbD 9 = s.cp15.fsr.d ∧
    v.getLsbD 8 = false ∧ v.extractLsb' 4 4 = s.cp15.fsr.domain ∧ v.extractLsb' 0 4 = s.cp15.fsr.status) := by
  refine onlyReads_anyBits rfl fun free => ?_
  simp (disch := decide) only [getLsbD_anyBits, extractLsb'_anyBits, BitVec.getLsbD_append,
    BitVec.extractLsb'_append_eq_of_le, BitVec.extractLsb'_append_eq_of_add_le]
  simp

theorem readDcLock_reads : s.OnlyReads readDcLock (fun v => v.getLsbD 0 = s.cp15.dcLock) :=
  onlyReads_anyBits rfl fun _ => (getLsbD_anyBits (by decide) (by decide)).trans (by rw [BitVec.getLsbD_append]; simp)

theorem pid_reads : s.OnlyReads (plainRead fun s => s.cp15.pid ++ 0#25) (fun v =>
    v.extractLsb' 25 7 = s.cp15.pid ∧ v.extractLsb' 0 25 = 0) :=
  ⟨_, s.run.free, rfl, BitVec.extractLsb'_append_eq_left, BitVec.extractLsb'_append_eq_right⟩

theorem readDbcon_reads : s.OnlyReads readDbcon (fun v => v.getLsbD 8 = s.cp15.dbcon.mask ∧
    v.extractLsb' 2 2 = s.cp15.dbcon.e1 ∧ v.extractLsb' 0 2 = s.cp15.dbcon.e0) := by
  refine onlyReads_anyBits rfl fun free => ?_
  simp (disch := decide) only [getLsbD_anyBits, extractLsb'_anyBits, BitVec.getLsbD_append,
    BitVec.extractLsb'_append_eq_of_le, BitVec.extractLsb'_append_eq_of_add_le]
  simp

theorem readCpar_reads : s.OnlyReads readCpar (fun v => v.extractLsb' 0 14 = s.cp15.cpar) :=
  onlyReads_anyBits rfl fun _ =>
    (extractLsb'_anyBits (by decide) (by decide)).trans BitVec.extractLsb'_append_eq_right

end SystemReads

/-! ## MRC of CP15 -/

section SystemRead
variable {s : State} {c : Cond} {rd : Reg} {value : M Word} {p : Word → Prop}

/-- To a register other than R15: the word that the register reads as, and the pc. -/
theorem systemRead_reads (h : s.RunsArm c) (hp : s.privileged = true) (h15 : rd ≠ 15) (hread : s.OnlyReads value p) :
    ∃ (v : Word) (n : Nat), systemRead c rd value s = .next { s with
      regs := s.regs.set (s.bank rd) v, pc := s.pc + 4, run := { s.run with free := n } } ∧ p v := by
  obtain ⟨v, n, hv, hpv⟩ := hread
  refine ⟨v, n, ?_, hpv⟩
  rw [systemRead_runs h hp h15 hv, ← size_eq_four h]
  rfl

/-- To R15 it refuses, whatever the register (93 U61, log 12). -/
theorem systemRead_pc (h : s.RunsArm c) (hp : s.privileged = true) (value : M Word) :
    systemRead c 15 value s = .refused .operandRestriction := by
  have hmode : privilegedOnly s = .ok () s := by simp [privilegedOnly, M.bind_apply, hp]
  rw [systemRead, runIf_holds _ h.holds]
  exact finish_refuse ((M.bind_ok _ hmode).trans (M.bind_error _ rfl))

end SystemRead

/-! ## The registers of CP14 and CP7 -/

section DebugReads
variable {s : State}

theorem readPmnc_reads : s.OnlyReads readPmnc (fun v => v.extractLsb' 24 8 = 0x24 ∧ v.getLsbD 4 = s.pmu.disable ∧
    v.getLsbD 3 = s.pmu.divide ∧ v.extractLsb' 1 2 = 0 ∧ v.getLsbD 0 = s.pmu.enable) := by
  refine onlyReads_anyBits rfl fun free => ?_
  simp (disch := decide) only [getLsbD_anyBits, extractLsb'_anyBits, BitVec.getLsbD_append,
    BitVec.extractLsb'_append_eq_of_le, BitVec.extractLsb'_append_eq_of_add_le]
  simp

theorem readFive_reads (f : State → BitVec 5) : s.OnlyReads (readFive f) (fun v => v.extractLsb' 0 5 = f s) :=
  onlyReads_anyBits rfl fun _ =>
    (extractLsb'_anyBits (by decide) (by decide)).trans BitVec.extractLsb'_append_eq_right

theorem readErrlog_reads : s.OnlyReads readErrlog (fun v => v.extractLsb' 0 8 = s.errlog.log) :=
  onlyReads_anyBits rfl fun _ =>
    (extractLsb'_anyBits (by decide) (by decide)).trans BitVec.extractLsb'_append_eq_right

/-- With no trace being made a checkpoint register reads as it is held (12 R160). -/
theorem readChkpt_idle (ht : s.tracing = false) (f : Debug → Word) : readChkpt f s = .ok (f s.dbg) s := by
  rw [readChkpt, M.bind_ok _ (M.state_apply s), ht]
  rfl

theorem readChkpt_idle_reads (ht : s.tracing = false) (f : Debug → Word) :
    s.OnlyReads (readChkpt f) (fun v => v = f s.dbg) :=
  ⟨_, s.run.free, readChkpt_idle ht f, rfl⟩

/-- The trace buffer after a read of TBREG: the oldest entry is cleared and passed, its checkpoint places are forgotten. -/
def Trace.popped (t : Trace) : Trace := { t with
  buffer := t.buffer.set t.tp.toNat 0 t.tp.isLt
  tp := t.tp + 1
  ckptDue := t.ckptDue || t.passes
  ckptAt0 := forgetSlot t.tp t.ckptAt0
  ckptAt1 := forgetSlot t.tp t.ckptAt1 }

/-- With no trace being made TBREG reads the entry at the trace pointer under 24 free bits, and moves the pointer on (12 R159). -/
theorem readTbreg_idle (ht : s.tracing = false) :
    readTbreg s = .ok ((s.draw 24).1 ++ s.trace.buffer[s.trace.tp.toNat]'s.trace.tp.isLt)
      ((s.setTrace s.trace.popped).setRun { s.run with free := s.run.free + 1 }) := by
  rw [readTbreg, M.bind_ok _ (M.state_apply s), M.bind_ok _ (M.draw_apply s 24), ht]
  rfl

end DebugReads

/-! ## MRC of CP14 and CP7 -/

section FlagRead
variable {s : State} {c : Cond} {value : M Word} {v : Word} {p : Word → Prop}

/-- The word goes to the register, or its top bits to the flags (43 R626); what the read changed before stays. -/
theorem flagRead_changes (h : s.RunsArm c) (hp : s.privileged = true) (rd : Reg) {dbg : Debug} {trace : Trace} {run : Run}
    (e : value s = .ok v (((s.setDebug dbg).setTrace trace).setRun run)) : flagRead c rd value s =
      .next (if rd = 15 then
          { s with cpsr := s.cpsr.withTop v, pc := s.pc + 4, dbg := dbg, trace := trace, run := run }
        else { s with regs := s.regs.set (s.bank rd) v, pc := s.pc + 4, dbg := dbg, trace := trace, run := run }) := by
  rw [flagRead_runs h hp e, ← size_eq_four h]
  split <;> rfl

theorem flagRead_reads (h : s.RunsArm c) (hp : s.privileged = true) (hread : s.OnlyReads value p) (rd : Reg) :
    ∃ (v : Word) (n : Nat), p v ∧ flagRead c rd value s = .next (if rd = 15 then
        { s with cpsr := s.cpsr.withTop v, pc := s.pc + 4, run := { s.run with free := n } }
      else { s with regs := s.regs.set (s.bank rd) v, pc := s.pc + 4, run := { s.run with free := n } }) := by
  obtain ⟨v, n, hv, hpv⟩ := hread
  exact ⟨v, n, hpv, flagRead_changes h hp rd hv⟩

/-- To R15, of a register that holds no reserved bit: its top bits are the flags, and nothing else changes. -/
theorem flagRead_flags (h : s.RunsArm c) (hp : s.privileged = true) (e : value s = .ok v s) :
    flagRead c 15 value s = .next { s with cpsr := s.cpsr.withTop v, pc := s.pc + 4 } :=
  flagRead_changes h hp 15 e

end FlagRead

end Sys2Proof.Machine

open Sys2Proof Sys2Proof.Machine

/-- Settles O27. What each register reads as is a lemma of its own (`readFsr_reads` and the others); an MRC of it writes that
word to Rd (`systemRead_reads`), and refuses R15 before it reads the register (`systemRead_pc`). -/
theorem systemRegisterRead : Obligations.SystemRegisterRead := by
  refine ⟨fun s c rd h hp h15 => ?identification, fun s c rd h hp h15 => ?registers, fun s c h hp => ?pc⟩
  case identification =>
    have read {value : M Word} {p : Word → Prop} := systemRead_reads (value := value) (p := p) h hp h15
    refine ⟨read mainId_reads, read l2Id_reads, read ⟨_, s.run.free, rfl, rfl⟩, read readL2CacheType_reads, ?control⟩
    case control =>
      obtain ⟨v, n, e, ⟨h0, h1, h2, h7, h8, h9, h11, h12, h13⟩, h26⟩ := read readControl_reads
      exact ⟨v, n, e, h0, h1, h2, h7, h8, h9, h11, h12, h13, h26⟩
  case registers =>
    have read {value : M Word} {p : Word → Prop} := systemRead_reads (value := value) (p := p) h hp h15
    exact ⟨read readAuxControl_reads, read readTtBase_reads, read (plainRead_reads _), read readFsr_reads,
      read (plainRead_reads _), read readDcLock_reads, read readDcLock_reads, read pid_reads, read (plainRead_reads _),
      read (plainRead_reads _), read (plainRead_reads _), read (plainRead_reads _), read readDbcon_reads,
      read readCpar_reads⟩
  case pc =>
    have refused := systemRead_pc h hp
    simp only [List.forall_mem_cons]
    exact ⟨refused _, refused _, refused _, refused _, refused _, refused _, refused _, refused _, refused _, refused _,
      refused _, refused _, refused _, refused _, refused _, refused _, refused _, refused _, refused _, List.forall_mem_nil _⟩

/-- Settles O38. What each register reads as is a lemma of its own (`readPmnc_reads` and the others), and so is what the reads of
RX and TBREG change; an MRC writes the word to Rd, or its top bits to the flags (`flagRead_changes`). -/
theorem debugRegisterRead : Obligations.DebugRegisterRead := by
  refine ⟨fun s c h hp => ?registers, fun s c h hp => ?flags, fun s c rd h hp => ⟨?rx, fun ht => ?tbreg⟩⟩
  case registers =>
    have read {value : M Word} {p : Word → Prop} := flagRead_reads (value := value) (p := p) h hp
    exact ⟨read readPmnc_reads, read (plainRead_reads _), read (readFive_reads _), read (readFive_reads _),
      read (plainRead_reads _), read (plainRead_reads _), read (plainRead_reads _), read (plainRead_reads _),
      read (plainRead_reads _), read readCclkcfg_reads, read (readFour_reads _), read readDcsr_reads,
      read readTxrxctrl_reads, fun ht => ⟨read (readChkpt_idle_reads ht _), read (readChkpt_idle_reads ht _)⟩,
      read readErrlog_reads, read (plainRead_reads _), read (readFour_reads _)⟩
  case flags =>
    have flags {value : M Word} {v : Word} := flagRead_flags (value := value) (v := v) h hp
    have plain (f : State → Word) := flags (plainRead_apply f)
    refine ⟨plain _, plain _, plain _, plain _, plain _, plain _, plain _,
      fun ht => ⟨flags (readChkpt_idle ht _), flags (readChkpt_idle ht _)⟩, ?txrxctrl⟩
    case txrxctrl =>
      obtain ⟨v, n, ⟨hrr, hov, hdl, htxr⟩, e⟩ := flagRead_reads h hp readTxrxctrl_reads 15
      rw [if_pos rfl, Psr.withTop, hrr, hov, hdl, htxr] at e
      exact ⟨n, e⟩
  case rx => exact flagRead_changes (run := s.run) h hp rd rfl
  case tbreg =>
    exact ⟨_, _, _, _, _, BitVec.extractLsb'_append_eq_right, flagRead_changes h hp rd (readTbreg_idle ht)⟩
end

section
/-! # Instructions of coprocessors that are not the core's (43 R620 to R630; 60 R847) -/

namespace Sys2Proof.Machine

/-! ## Undefined Instruction, and the data abort of a coprocessor -/

/-- What a coprocessor of the ASSP aborts an instruction with (60 R847). -/
def coprocFault : DataAbort := ⟨0b11010, none, none⟩

section Ends
variable {s : State} {body : M Unit} {run : Run}

/-- Undefined Instruction of an ARM instruction, with no debug (60 R825). -/
theorem undefinedInstruction_entered (harm : s.cpsr.t = false) (hge : s.dbg.dcsr.ge = false) :
    s.Entered s.undefinedInstruction modeUnd 4 (s.pc + 4) 0x04 false := by
  have hlink : s.pc + s.size = s.pc + 4 := by simp [State.size, harm]
  rw [← hlink]
  exact takeException_entered s .undefined (s.pc + s.size) hge

/-- An instruction that is undefined after it has changed the model's own fields alone. -/
theorem finish_undefined_entered (harm : s.cpsr.t = false) (hge : s.dbg.dcsr.ge = false) (hs : s.dbg.sds = false)
    (e : body s = .error .undefined (s.setRun run)) :
    ∃ t, finish body s = .next t ∧ s.Entered t modeUnd 4 (s.pc + 4) 0x04 false := by
  obtain ⟨hcpsr, hpc, hregs, hsaved, hrest⟩ := undefinedInstruction_entered (s := s.setRun run) harm hge
  exact ⟨_, finish_undefined e hs, hcpsr, hpc, hregs, hsaved, hrest⟩

/-- An instruction that a coprocessor aborts: the entry, and the report in the fault registers. -/
theorem finish_coprocFault (hge : s.dbg.dcsr.ge = false) (hs : s.dbg.sds = false)
    (e : body s = .error (.abort coprocFault) (s.setRun run)) :
    ∃ t, finish body s = .next t ∧ s.Entered t modeAbt 3 (s.pc + 8) 0x10 false ∧ t.cp15.fsr.x = true ∧
      t.cp15.fsr.status = 0b1010 := by
  obtain ⟨hcpsr, hpc, hregs, hsaved, hrest⟩ := dataAbort_entered (s.setRun run) coprocFault hge hs
  have hreports := dataAbort_reports (s := s.setRun run) coprocFault hge hs
  exact ⟨_, finish_abort e, ⟨hcpsr, hpc, hregs, hsaved, hrest⟩, hreports.highBit, hreports.status⟩

end Ends

/-! ## Coprocessors that are absent or denied -/

/-- No coprocessor of the ASSP answers: CPAR or the mode denies it, or the product has it not (43 R620, R628). -/
def State.CoprocAbsent (s : State) (cp : BitVec 4) : Prop := (s.coprocRight cp && s.asspCoproc cp) = false

section Absent
variable {s : State} {c : Cond} {cp : BitVec 4}

/-- The coprocessors of the core are none of the ASSP's. -/
theorem coprocAbsent_core (hcp : cp = 0 ∨ cp = 14 ∨ cp = 15) : s.CoprocAbsent cp := by
  rcases hcp with rfl | rfl | rfl <;> simp [State.CoprocAbsent, State.asspCoproc]

theorem coprocAbsent_of_denied (h : s.coprocRight cp = false) : s.CoprocAbsent cp := by
  rw [State.CoprocAbsent, h, Bool.false_and]

theorem coprocAbsent_of_bits (h : (s.cfg.coprocessors.getLsbD cp.toNat && s.cp15.cpar.getLsbD cp.toNat) = false) :
    s.CoprocAbsent cp := by
  rcases Bool.and_eq_false_iff.mp h with h | h <;> simp [State.CoprocAbsent, State.coprocRight, State.asspCoproc, h]

/-- CP7 needs a privileged mode (60 R858). -/
theorem coprocRight_user (hp : s.privileged = false) : s.coprocRight 7 = false := by simp [State.coprocRight, hp]

theorem asspAccess_absent (ha : s.CoprocAbsent cp) : asspAccess cp s = .error .undefined s := by
  have hdefined : M.defined (s.coprocRight cp && s.asspCoproc cp) s = .error .undefined s := by rw [ha]; rfl
  exact (M.bind_ok _ (M.state_apply s)).trans (M.bind_error _ hdefined)

/-- The access of MCR and MRC: CP7, whose register is none of the error log, needs a privileged mode first (43 R620). -/
theorem sevenOrAccess_absent {crm : BitVec 4} {r : Refusal} (hcrm : cp = 7 → s.privileged = true → crm ≠ 2)
    (ha : s.CoprocAbsent cp) (restSeven rest : M Unit) :
    (if cp = 7 then do privilegedOnly; M.require (crm != 2) r; asspAccess cp; restSeven
      else do asspAccess cp; rest : M Unit) s = .error .undefined s := by
  by_cases h7 : cp = 7
  · rw [if_pos h7]
    cases hp : s.privileged with
    | false => exact M.bind_error _ (privilegedOnly_user hp)
    | true =>
      have hmode : privilegedOnly s = .ok () s := by simp [privilegedOnly, M.bind_apply, hp]
      have hrequire : M.require (crm != 2) r s = .ok () s := by rw [bne_iff_ne.mpr (hcrm h7 hp)]; rfl
      exact (M.bind_ok _ hmode).trans ((M.bind_ok _ hrequire).trans (M.bind_error _ (asspAccess_absent ha)))
  · rw [if_neg h7]
    exact M.bind_error _ (asspAccess_absent ha)

variable (h : s.RunsArm c) (hs : s.dbg.sds = false)
include h hs

theorem runIf_undefined {body : M Unit} (e : body s = .error .undefined s) :
    runIf c body s = .next s.undefinedInstruction :=
  (runIf_holds _ h.holds).trans (finish_undefined e hs)

/-- CDP of CP7 is undefined whatever the product has (43 R621). -/
theorem exec_cdp_absent (h0 : cp ≠ 0) (ha : cp ≠ 7 → s.CoprocAbsent cp) {opc1 crn crd : BitVec 4} {opc2 : BitVec 3}
    {crm : BitVec 4} : exec (.cdp c opc1 crn crd cp opc2 crm) s = .next s.undefinedInstruction := by
  refine runIf_undefined h hs ?_
  rw [if_neg h0]
  by_cases h7 : cp = 7
  · rw [if_pos h7]
    rfl
  · rw [if_neg h7]
    exact M.bind_error _ (asspAccess_absent (ha h7))

theorem exec_mcrr_absent (h0 : cp ≠ 0) (ha : s.CoprocAbsent cp) {rn rd : Reg} {opc crm : BitVec 4} :
    exec (.mcrr c rn rd cp opc crm) s = .next s.undefinedInstruction := by
  refine runIf_undefined h hs ?_
  rw [if_neg h0]
  exact M.bind_error _ (asspAccess_absent ha)

theorem exec_mrrc_absent (h0 : cp ≠ 0) (ha : s.CoprocAbsent cp) {rn rd : Reg} {opc crm : BitVec 4} :
    exec (.mrrc c rn rd cp opc crm) s = .next s.undefinedInstruction := by
  refine runIf_undefined h hs ?_
  rw [if_neg h0]
  exact M.bind_error _ (asspAccess_absent ha)

theorem exec_mcr_absent (hcore : cp ≠ 0 ∧ cp ≠ 14 ∧ cp ≠ 15) {crm : BitVec 4}
    (hcrm : cp = 7 → s.privileged = true → crm ≠ 2) (ha : s.CoprocAbsent cp) {opc1 : BitVec 3} {crn : BitVec 4} {rd : Reg}
    {opc2 : BitVec 3} : exec (.mcr c opc1 crn rd cp opc2 crm) s = .next s.undefinedInstruction := by
  obtain ⟨h0, h14, h15⟩ := hcore
  refine runIf_undefined h hs ?_
  rw [if_neg h0, if_neg h15, if_neg h14]
  exact sevenOrAccess_absent hcrm ha _ _

theorem exec_mrc_absent (hcore : cp ≠ 0 ∧ cp ≠ 14 ∧ cp ≠ 15) {crm : BitVec 4}
    (hcrm : cp = 7 → s.privileged = true → crm ≠ 2) (ha : s.CoprocAbsent cp) {opc1 : BitVec 3} {crn : BitVec 4} {rd : Reg}
    {opc2 : BitVec 3} : exec (.mrc c opc1 crn rd cp opc2 crm) s = .next s.undefinedInstruction := by
  obtain ⟨h0, h14, h15⟩ := hcore
  refine runIf_undefined h hs ?_
  rw [if_neg h0, if_neg h15, if_neg h14]
  exact sevenOrAccess_absent hcrm ha _ _

end Absent

/-! ## LDC and STC of coprocessors that are absent or denied -/

section AbsentTransfers
variable {s : State} {cp : BitVec 4}

theorem foreignStore_absent (ha : s.CoprocAbsent cp) (p u w : Bool) (rn : Reg) (off8 : BitVec 8) :
    foreignStore cp p u w rn off8 s = .error .undefined s := by
  have hdefined : M.defined (s.coprocRight cp && s.asspCoproc cp) s = .error .undefined s := by rw [ha]; rfl
  exact (M.bind_ok _ (M.state_apply s)).trans (M.bind_error _ hdefined)

/-- Loads of CP0, CP14 and CP15, and of a coprocessor that CPAR or the mode denies, make no access. -/
theorem foreignLoad_denied (hcp : cp = 0 ∨ cp = 14 ∨ cp = 15 ∨ s.coprocRight cp = false) (p u w : Bool) (rn : Reg)
    (off8 : BitVec 8) : foreignLoad cp p u w rn off8 s = .error .undefined s := by
  have hright : (cp != 15 && cp != 14 && cp != 0 && s.coprocRight cp) = false := by
    rcases hcp with rfl | rfl | rfl | hdenied
    · rfl
    · rfl
    · rfl
    · rw [hdenied, Bool.and_false]
  have hdefined : M.defined (cp != 15 && cp != 14 && cp != 0 && s.coprocRight cp) s = .error .undefined s := by
    rw [hright]; rfl
  exact (M.bind_ok _ (M.state_apply s)).trans (M.bind_error _ hdefined)

/-- A load of a coprocessor that CPAR permits goes on: the ASSP's transfer, or the implicit load. -/
theorem foreignLoad_permitted (hcore : cp ≠ 0 ∧ cp ≠ 14 ∧ cp ≠ 15) (hright : s.coprocRight cp = true) (p u w : Bool)
    (rn : Reg) (off8 : BitVec 8) : foreignLoad cp p u w rn off8 s =
      (if s.asspCoproc cp then asspTransfer true p u w rn off8 else implicitLoad p u rn off8) s := by
  obtain ⟨h0, h14, h15⟩ := hcore
  have hdefined : M.defined (cp != 15 && cp != 14 && cp != 0 && s.coprocRight cp) s = .ok () s := by
    rw [bne_iff_ne.mpr h15, bne_iff_ne.mpr h14, bne_iff_ne.mpr h0, hright]; rfl
  exact (M.bind_ok _ (M.state_apply s)).trans (M.bind_ok _ hdefined)

/-- The implicit load (43 R628), straight to memory and with no data breakpoint: the access, then Undefined Instruction. -/
theorem implicitLoad_undefined (h : s.Ready) (hd : s.Direct) (hbreak : s.run.dataBreak = false) {p u : Bool} {rn : Reg}
    {off8 : BitVec 8} (ha : s.Usable (s.debugAddress p u rn off8)) :
    implicitLoad p u rn off8 s = .error .undefined s.accessed := by
  refine (M.bind_ok _ (coprocAddress_ready h p u rn off8)).trans ((M.bind_ok _ (asUser_apply s)).trans
    ((M.bind_ok _ (memRead_word hd ha _)).trans ((M.bind_ok _ (M.state_apply _)).trans ?_)))
  have hquiet : s.accessed.run.dataBreak ≠ true := ne_true_of_eq_false hbreak
  exact congrFun (if_neg hquiet) _

/-- An absent coprocessor's load is undefined at once, or after its implicit load (43 R628). -/
theorem foreignLoad_absent (h : s.Ready) (hd : s.Direct) (hbreak : s.run.dataBreak = false)
    (hcore : cp ≠ 0 ∧ cp ≠ 14 ∧ cp ≠ 15) (ha : s.CoprocAbsent cp) {p u : Bool} {rn : Reg} {off8 : BitVec 8}
    (haddr : s.cp15.cpar.getLsbD cp.toNat = false ∨ s.Usable (s.debugAddress p u rn off8)) (w : Bool) :
    ∃ run, foreignLoad cp p u w rn off8 s = .error .undefined (s.setRun run) := by
  cases hright : s.coprocRight cp with
  | false => exact ⟨s.run, foreignLoad_denied (.inr (.inr (.inr hright))) p u w rn off8⟩
  | true =>
    have habsent : s.asspCoproc cp ≠ true := by simpa [State.CoprocAbsent, hright] using ha
    have hpermits : s.cp15.cpar.getLsbD cp.toNat = true := (Bool.and_eq_true_iff.mp hright).1
    have husable : s.Usable (s.debugAddress p u rn off8) :=
      haddr.resolve_left fun hdenied => Bool.false_ne_true (hdenied.symm.trans hpermits)
    rw [foreignLoad_permitted hcore hright, if_neg habsent]
    exact ⟨s.accessed.run, implicitLoad_undefined h hd hbreak husable⟩

end AbsentTransfers

/-! ## The answer of a coprocessor of the ASSP -/

/-- A coprocessor of the ASSP that the product has and CPAR permits, and an instruction that may take its exceptions: with no
debug, and outside Special Debug State. -/
structure State.CoprocAnswers (s : State) (cp : BitVec 4) : Prop where
  noDebug : s.dbg.dcsr.ge = false
  outside : s.dbg.sds = false
  core : cp ≠ 0 ∧ cp ≠ 14 ∧ cp ≠ 15
  notErrors : cp ≠ 7
  present : s.cfg.coprocessors.getLsbD cp.toNat = true
  permitted : s.cp15.cpar.getLsbD cp.toNat = true

/-- The state with another count of free values. -/
def State.withFree (s : State) (n : Nat) : State := s.setRun { s.run with free := n }

/-- A body goes on to the next instruction and leaves all but the registers, the flags, memory and the model's own fields. -/
def State.Accepts (s : State) (o : EStateM.Result Stop State Unit) (accepted : State → Prop) : Prop :=
  ∃ t, o = .ok () t ∧ t = { s with regs := t.regs, pc := s.pc + 4, cpsr := t.cpsr, mem := t.mem, run := t.run } ∧ accepted t

/-- A body ends as a coprocessor lets it: bounced, aborted where the product says that it may (60 R847), or accepted. -/
def State.Answers (s : State) (o : EStateM.Result Stop State Unit) (accepted : State → Prop) : Prop :=
  (∃ run, o = .error .undefined (s.setRun run)) ∨
  (s.cfg.coprocAborts = true ∧ ∃ run, o = .error (.abort coprocFault) (s.setRun run)) ∨
  s.Accepts o accepted

/-- The outcome of such an instruction. -/
def State.Answered (s : State) (o : Outcome) (accepted : State → Prop) : Prop :=
  ∃ t, o = .next t ∧
    (s.Entered t modeUnd 4 (s.pc + 4) 0x04 false ∨
      (s.cfg.coprocAborts = true ∧ s.Entered t modeAbt 3 (s.pc + 8) 0x10 false ∧ t.cp15.fsr.x = true ∧
        t.cp15.fsr.status = 0b1010) ∨
      (t = { s with regs := t.regs, pc := s.pc + 4, cpsr := t.cpsr, mem := t.mem, run := t.run } ∧ accepted t))

section Answers
variable {s : State} {body : M Unit} {accepted : State → Prop}

/-- The instruction of such a body takes one of the exceptions, or ends in the state accepted. -/
theorem finish_answers (harm : s.cpsr.t = false) (hge : s.dbg.dcsr.ge = false) (hs : s.dbg.sds = false)
    (h : s.Answers (body s) accepted) : s.Answered (finish body s) accepted := by
  rcases h with ⟨run, e⟩ | ⟨hmay, run, e⟩ | ⟨t, e, hframe, haccepted⟩
  · obtain ⟨t, hnext, hentered⟩ := finish_undefined_entered harm hge hs e
    exact ⟨t, hnext, .inl hentered⟩
  · obtain ⟨t, hnext, hentered, hx, hstatus⟩ := finish_coprocFault hge hs e
    exact ⟨t, hnext, .inr (.inl ⟨hmay, hentered, hx, hstatus⟩)⟩
  · exact ⟨t, finish_ok e, .inr (.inr ⟨hframe, haccepted⟩)⟩

/-- The reply of a coprocessor, and what the body does with it. -/
theorem answers_reply {rest : Bool → M Unit} (e : body s = (do let aborts ← asspReply; rest aborts : M Unit) s)
    (habort : ∃ run, rest true (s.withFree (s.run.free + 1)) = .error (.abort coprocFault) (s.setRun run))
    (haccept : s.Accepts (rest false (s.withFree (s.run.free + 1))) accepted) : s.Answers (body s) accepted := by
  have hreply : asspReply s = if (s.draw 2).1 = 0 then .error .undefined (s.withFree (s.run.free + 1))
      else .ok (decide ((s.draw 2).1 = 1) && s.coprocAborts) (s.withFree (s.run.free + 1)) := by
    rw [asspReply, M.bind_ok _ (M.draw_apply s 2), M.bind_ok _ (M.state_apply _), M.ite_apply]
    rfl
  rw [e]
  split at hreply
  · exact .inl ⟨_, M.bind_error _ hreply⟩
  · rw [M.bind_ok _ hreply]
    cases hmay : decide ((s.draw 2).1 = 1) && s.coprocAborts with
    | true =>
      have hproduct : s.coprocAborts = true := (Bool.and_eq_true_iff.mp hmay).2
      exact .inr (.inl ⟨(Bool.and_eq_true_iff.mp hproduct).1, habort⟩)
    | false => exact .inr (.inr haccept)

/-- An instruction with no data access that is accepted goes on with its own work. -/
theorem answers_asspAnswer {rest : M Unit} (e : body s = (do asspAnswer; rest : M Unit) s)
    (haccept : s.Accepts (rest (s.withFree (s.run.free + 1))) accepted) : s.Answers (body s) accepted := by
  rw [asspAnswer, bind_assoc] at e
  exact answers_reply e ⟨_, rfl⟩ haccept

end Answers

section Access
variable {s : State} {cp : BitVec 4}

theorem State.CoprocAnswers.right (h : s.CoprocAnswers cp) : s.coprocRight cp = true := by
  rw [State.coprocRight, h.permitted, bne_iff_ne.mpr h.notErrors]
  rfl

theorem State.CoprocAnswers.assp (h : s.CoprocAnswers cp) : s.asspCoproc cp = true := by
  obtain ⟨h0, h14, h15⟩ := h.core
  rw [State.asspCoproc, h.present, bne_iff_ne.mpr h0, bne_iff_ne.mpr h14, bne_iff_ne.mpr h15]
  rfl

theorem asspAccess_answers (h : s.CoprocAnswers cp) : asspAccess cp s = asspAnswer s := by
  have hdefined : M.defined (s.coprocRight cp && s.asspCoproc cp) s = .ok () s := by rw [h.right, h.assp]; rfl
  exact (M.bind_ok _ (M.state_apply s)).trans (M.bind_ok _ hdefined)

/-- The forms with cond = 1111 ask for the same, but of CP7 (43 R630). -/
theorem secondAccess_answers (h : s.CoprocAnswers cp) : secondAccess cp s = asspAnswer s := by
  have hdefined : M.defined (cp != 7) s = .ok () s := by rw [bne_iff_ne.mpr h.notErrors]; rfl
  exact (M.bind_ok _ hdefined).trans (asspAccess_answers h)

theorem bind_congr_apply {α β : Type} {m n : M α} (e : m s = n s) (f : α → M β) : (m >>= f) s = (n >>= f) s := by
  rw [M.bind_apply, M.bind_apply, e]

end Access

/-! ## Instructions of the ASSP with no data access -/

section Registers
variable {s : State} {c : Cond} {cp : BitVec 4}

/-- What an accepted MRC leaves: a word in Rd, or its top bits in the flags (43 R626). -/
def State.ReadsWord (s : State) (rd : Reg) (t : State) : Prop :=
  ∃ v : Word, t.mem = s.mem ∧
    if rd = 15 then t.regs = s.regs ∧
      t.cpsr = { s.cpsr with n := v.getLsbD 31, z := v.getLsbD 30, c := v.getLsbD 29, v := v.getLsbD 28 }
    else t.regs = s.regs.set (s.bank rd) v ∧ t.cpsr = s.cpsr

/-- The registers after an accepted instruction that leaves the flags and memory. -/
def State.OnlyRegs (s : State) (regs : State → Prop) (t : State) : Prop := regs t ∧ t.cpsr = s.cpsr ∧ t.mem = s.mem

theorem accepts_next (h : s.RunsArm c) (n : Nat) :
    s.Accepts (next (s.withFree n)) (s.OnlyRegs fun t => t.regs = s.regs) := by
  rw [State.Accepts, ← size_eq_four h]
  exact ⟨_, rfl, rfl, rfl, rfl, rfl⟩

theorem asspWord_apply {rd : Reg} (h15 : rd ≠ 15) (t : State) :
    asspWord rd t = .ok () ((t.draw 32).2.writeReg rd (t.draw 32).1) :=
  (M.bind_ok _ (M.draw_apply t 32)).trans (congrFun (if_neg h15) _)

theorem accepts_asspWord (h : s.RunsArm c) (n : Nat) (rd : Reg) :
    s.Accepts ((do asspWord rd; next : M Unit) (s.withFree n)) (s.ReadsWord rd) := by
  rw [State.Accepts, ← size_eq_four h]
  by_cases h15 : rd = 15
  · subst h15
    exact ⟨_, rfl, rfl, ((s.withFree n).draw 32).1, rfl, by rw [if_pos rfl]; exact ⟨rfl, rfl⟩⟩
  · exact ⟨_, M.bind_ok _ (asspWord_apply h15 _), rfl, ((s.withFree n).draw 32).1, rfl, by rw [if_neg h15]; exact ⟨rfl, rfl⟩⟩

/-- Two words that differ in their registers (43 R629). -/
theorem accepts_asspPair (h : s.RunsArm c) (n : Nat) {rn rd : Reg} (hrn : rn ≠ 15) (hrd : rd ≠ 15) (hne : rn ≠ rd) :
    s.Accepts ((do asspPair rn rd; next : M Unit) (s.withFree n))
      (s.OnlyRegs fun t => ∃ x y : Word, t.regs = (s.regs.set (s.bank rd) x).set (s.bank rn) y) := by
  have hok : (notPc [rn, rd] && rn != rd) = true :=
    Bool.and_eq_true_iff.mpr ⟨notPc_cons hrn (notPc_one hrd), bne_iff_ne.mpr hne⟩
  have hpair : asspPair rn rd (s.withFree n) = .ok () _ := (M.bind_ok _ (allowed_true _ hok)).trans
    ((M.bind_ok _ (asspWord_apply hrd _)).trans (asspWord_apply hrn _))
  rw [State.Accepts, ← size_eq_four h]
  exact ⟨_, M.bind_ok _ hpair, rfl, ⟨_, _, rfl⟩, rfl, rfl⟩

/-! ### What each instruction does after the answer -/

/-- An accepted MCR reads its register and goes on. -/
theorem accepts_reg_next (h : s.RunsArm c) (n : Nat) (rd : Reg) :
    s.Accepts ((do let _ ← reg rd; next : M Unit) (s.withFree n)) (s.OnlyRegs fun t => t.regs = s.regs) := by
  rw [M.bind_ok _ (reg_ready (s := s.withFree n) h.ready rd)]
  exact accepts_next h n

section Then
variable (hcp : s.CoprocAnswers cp) {accepted : State → Prop} {rest : M Unit}
  (haccept : s.Accepts (rest (s.withFree (s.run.free + 1))) accepted)
include hcp haccept

theorem asspAccess_then : s.Answers ((do asspAccess cp; rest : M Unit) s) accepted :=
  answers_asspAnswer (bind_congr_apply (asspAccess_answers hcp) _) haccept

theorem secondAccess_then : s.Answers ((do secondAccess cp; rest : M Unit) s) accepted :=
  answers_asspAnswer (bind_congr_apply (secondAccess_answers hcp) _) haccept

end Then

variable (h : s.RunsArm c) (hcp : s.CoprocAnswers cp) {accepted : State → Prop}
include h hcp

theorem State.CoprocAnswers.finishes {body : M Unit} (e : s.Answers (body s) accepted) :
    s.Answered (finish body s) accepted := finish_answers h.arm hcp.noDebug hcp.outside e

theorem State.CoprocAnswers.runs {body : M Unit} (e : s.Answers (body s) accepted) :
    s.Answered (runIf c body s) accepted := by
  rw [runIf_holds _ h.holds]
  exact hcp.finishes h e

theorem exec_cdp_answers {opc1 crn crd : BitVec 4} {opc2 : BitVec 3} {crm : BitVec 4} :
    s.Answered (exec (.cdp c opc1 crn crd cp opc2 crm) s) (s.OnlyRegs fun t => t.regs = s.regs) := by
  refine hcp.runs h ?_
  rw [if_neg hcp.core.1, if_neg hcp.notErrors]
  exact asspAccess_then hcp (accepts_next h _)

theorem exec_cdp2_answers {opc1 crn crd : BitVec 4} {opc2 : BitVec 3} {crm : BitVec 4} :
    s.Answered (exec (.cdp2 opc1 crn crd cp opc2 crm) s) (s.OnlyRegs fun t => t.regs = s.regs) :=
  hcp.finishes h (secondAccess_then hcp (accepts_next h _))

theorem exec_mcr_answers {opc1 : BitVec 3} {crn : BitVec 4} {rd : Reg} {opc2 : BitVec 3} {crm : BitVec 4} :
    s.Answered (exec (.mcr c opc1 crn rd cp opc2 crm) s) (s.OnlyRegs fun t => t.regs = s.regs) := by
  obtain ⟨h0, h14, h15⟩ := hcp.core
  refine hcp.runs h ?_
  rw [if_neg h0, if_neg h15, if_neg h14, if_neg hcp.notErrors]
  exact asspAccess_then hcp (accepts_reg_next h _ rd)

theorem exec_mcr2_answers {opc1 : BitVec 3} {crn : BitVec 4} {rd : Reg} {opc2 : BitVec 3} {crm : BitVec 4} :
    s.Answered (exec (.mcr2 opc1 crn rd cp opc2 crm) s) (s.OnlyRegs fun t => t.regs = s.regs) :=
  hcp.finishes h (secondAccess_then hcp (accepts_reg_next h _ rd))

theorem exec_mrc_answers {opc1 : BitVec 3} {crn : BitVec 4} {rd : Reg} {opc2 : BitVec 3} {crm : BitVec 4} :
    s.Answered (exec (.mrc c opc1 crn rd cp opc2 crm) s) (s.ReadsWord rd) := by
  obtain ⟨h0, h14, h15⟩ := hcp.core
  refine hcp.runs h ?_
  rw [if_neg h0, if_neg h15, if_neg h14, if_neg hcp.notErrors]
  exact asspAccess_then hcp (accepts_asspWord h _ rd)

theorem exec_mrc2_answers {opc1 : BitVec 3} {crn : BitVec 4} {rd : Reg} {opc2 : BitVec 3} {crm : BitVec 4} :
    s.Answered (exec (.mrc2 opc1 crn rd cp opc2 crm) s) (s.ReadsWord rd) :=
  hcp.finishes h (secondAccess_then hcp (accepts_asspWord h _ rd))

theorem exec_mcrr_answers {rn rd : Reg} (hrn : rn ≠ 15) (hrd : rd ≠ 15) {opc crm : BitVec 4} :
    s.Answered (exec (.mcrr c rn rd cp opc crm) s) (s.OnlyRegs fun t => t.regs = s.regs) := by
  refine hcp.runs h ?_
  rw [if_neg hcp.core.1]
  refine asspAccess_then hcp ?_
  rw [M.bind_ok _ (allowed_true _ (notPc_cons hrn (notPc_one hrd))),
    M.bind_ok _ (reg_ready (s := s.withFree (s.run.free + 1)) h.ready rd)]
  exact accepts_reg_next h _ rn

theorem exec_mrrc_answers {rn rd : Reg} (hrn : rn ≠ 15) (hrd : rd ≠ 15) (hne : rn ≠ rd) {opc crm : BitVec 4} :
    s.Answered (exec (.mrrc c rn rd cp opc crm) s)
      (s.OnlyRegs fun t => ∃ x y : Word, t.regs = (s.regs.set (s.bank rd) x).set (s.bank rn) y) := by
  refine hcp.runs h ?_
  rw [if_neg hcp.core.1]
  exact asspAccess_then hcp (accepts_asspPair h _ hrn hrd hne)

end Registers

/-! ## LDC and STC of the ASSP, straight to memory -/

/-- An LDC or STC of a coprocessor whose words go straight to memory: the base may be written back, and an address that CTRL.A
allows with sixteen words from it, the most that a coprocessor transfers (log 48). -/
structure State.TransfersCoproc (s : State) (p u w : Bool) (rn : Reg) (off8 : BitVec 8) : Prop where
  ready : s.Ready
  direct : s.Direct
  alone : s.run.env = []
  base : w = true → rn ≠ 15
  fits : s.Fits (s.debugAddress p u rn off8) 16

section Transfers
variable {s : State} {c : Cond} {cp : BitVec 4} {p u w : Bool} {rn : Reg} {off8 : BitVec 8}

/-- The sixteen words hold those that the coprocessor asks for. -/
theorem State.Fits.fewer {start : Word} {n m : Nat} (h : s.Fits start n) (hm : m ≤ n) : s.Fits start m := by
  have := h.noWrap
  exact ⟨h.usable, by omega⟩

/-- The words that a coprocessor stores: any values. -/
theorem each_draw {α : Type} (l : List α) : ∀ s : State, ∃ (values : List Word) (n : Nat),
    M.each (fun _ => M.draw 32) l s = .ok values (s.withFree n) := by
  induction l with
  | nil => exact fun s => ⟨[], s.run.free, rfl⟩
  | cons a t ih =>
    intro s
    obtain ⟨values, n, e⟩ := ih (s.draw 32).2
    exact ⟨_, n, (M.bind_ok _ (M.draw_apply s 32)).trans (M.bind_ok _ e)⟩

/-- What an accepted LDC or STC leaves: the base, and memory as it was, for STC but for its sixteen words. -/
def State.TransferredCoproc (s : State) (load p u w : Bool) (rn : Reg) (off8 : BitVec 8) (t : State) : Prop :=
  t.regs = s.basedRegs w rn (s.debugBase u rn off8) ∧ t.cpsr = s.cpsr ∧
    if load then t.mem = s.mem
    else ∀ b : PAddr, (∀ i < 16, ¬ (b - s.wordPlace (s.debugAddress p u rn off8) i).toNat < 4) →
      t.mem.read b = s.mem.read b

/-- After the reply a transfer has its address, its base and the number of its words. -/
theorem State.TransfersCoproc.begins (h : s.TransfersCoproc p u w rn off8) (k : Word × Word → BitVec 4 → Bool → M Unit) :
    (do
      let x ← coprocAddress p u rn off8
      let n ← M.draw 4
      noWrap x.1 (4 * (n.toNat + 1))
      let usr ← asUser
      k x n usr : M Unit) (s.withFree (s.run.free + 1)) =
    k (s.debugAddress p u rn off8, s.debugBase u rn off8) (Config.freeBits 4 (s.run.free + 1)) s.userMode
      (s.withFree (s.run.free + 2)) := by
  have haddr := coprocAddress_ready (s := s.withFree (s.run.free + 1)) h.ready p u rn off8
  have hwrap := noWrap_fits (h.fits.fewer (Config.freeBits 4 (s.run.free + 1)).isLt) (s.withFree (s.run.free + 2))
  exact (M.bind_ok _ haddr).trans ((M.bind_ok _ (M.draw_apply _ 4)).trans ((M.bind_ok _ hwrap).trans
    (M.bind_ok _ (asUser_apply _))))

/-- Stores of the words of a transfer leave every byte outside its sixteen words. -/
theorem StoredWords.outside {start : Word} {n : Nat} (hn : n < 16) {values : List Word} {m : Memory}
    (h : StoredWords s.mem (((wordAddresses start (n + 1)).zip values).map fun x => (s.physical (x.1 &&& 0xFFFFFFFC) 4, x.2)) m)
    {b : PAddr} (hb : ∀ i < 16, ¬ (b - s.wordPlace start i).toNat < 4) : m.read b = s.mem.read b := by
  refine h.elsewhere fun x hx => ?_
  obtain ⟨y, hy, rfl⟩ := List.mem_map.mp hx
  obtain ⟨i, hi, hplace⟩ := List.mem_map.mp (List.of_mem_zip hy).1
  have hlt := List.mem_range.mp hi
  rw [← hplace]
  exact hb i (by omega)

theorem asspTransfer_answers (hruns : s.RunsArm c) (h : s.TransfersCoproc p u w rn off8) (load : Bool) :
    s.Answers (asspTransfer load p u w rn off8 s) (s.TransferredCoproc load p u w rn off8) := by
  have hbase : (!w || rn != 15) = true := by
    cases w with
    | false => rfl
    | true => exact bne_iff_ne.mpr (h.base rfl)
  have hn := (Config.freeBits 4 (s.run.free + 1)).isLt
  have hdirect (n : Nat) : (s.withFree n).Direct := h.direct.setRun _
  have hlocate := locate_direct (hdirect (s.run.free + 2)) (if load then .read else .write) s.userMode
    (checkAlign_usable h.fits.usable)
  have husable := usable_wordAddresses (n := (Config.freeBits 4 (s.run.free + 1)).toNat + 1) h.fits.usable
  refine answers_reply (M.bind_ok _ (allowed_true s hbase)) ⟨{ s.run with free := s.run.free + 2 }, ?abort⟩ ?accept
  case abort => exact (h.begins _).trans (M.bind_ok _ hlocate)
  case accept =>
    rw [State.Accepts, ← size_eq_four hruns]
    cases load with
    | true =>
      obtain ⟨ev, hload⟩ := loadWords_direct s.userMode _ (hdirect (s.run.free + 2)) h.alone husable
      exact ⟨_, (h.begins _).trans ((M.bind_ok _ hload).trans (writeBack_next s w rn _ s.clk s.dbg s.trace s.mem _)), rfl,
        rfl, rfl, rfl⟩
    | false =>
      obtain ⟨values, n, hvalues⟩ := each_draw (wordAddresses (s.debugAddress p u rn off8)
        ((Config.freeBits 4 (s.run.free + 1)).toNat + 1)) (s.withFree (s.run.free + 2))
      obtain ⟨ev, m, hstore, -, hstored⟩ := storeWords_direct s.userMode (List.zip _ values) (hdirect n) h.alone
        fun x hx => husable _ (List.of_mem_zip hx).1
      exact ⟨_, (h.begins _).trans ((M.bind_ok _ hvalues).trans ((M.bind_ok _ hstore).trans
        (writeBack_next s w rn _ s.clk s.dbg s.trace m _))), rfl, rfl, rfl, fun b hb => StoredWords.outside hn hstored hb⟩

theorem foreignLoad_answers (hruns : s.RunsArm c) (hcp : s.CoprocAnswers cp) (h : s.TransfersCoproc p u w rn off8) :
    s.Answers (foreignLoad cp p u w rn off8 s) (s.TransferredCoproc true p u w rn off8) := by
  rw [foreignLoad_permitted hcp.core hcp.right, if_pos hcp.assp]
  exact asspTransfer_answers hruns h true

theorem foreignStore_answers (hruns : s.RunsArm c) (hcp : s.CoprocAnswers cp) (h : s.TransfersCoproc p u w rn off8) :
    s.Answers (foreignStore cp p u w rn off8 s) (s.TransferredCoproc false p u w rn off8) := by
  have hdefined : M.defined (s.coprocRight cp && s.asspCoproc cp) s = .ok () s := by rw [hcp.right, hcp.assp]; rfl
  have htransfer : foreignStore cp p u w rn off8 s = asspTransfer false p u w rn off8 s :=
    (M.bind_ok _ (M.state_apply s)).trans (M.bind_ok _ hdefined)
  rw [htransfer]
  exact asspTransfer_answers hruns h false

end Transfers

end Sys2Proof.Machine

open Sys2Proof Sys2Proof.Machine

/-- Settles O23. An absent or denied coprocessor is undefined at its access (`asspAccess_absent`), or after the implicit load of an
LDC (`foreignLoad_absent`). One of the ASSP that is permitted gives its reply (`answers_reply`): the instruction then ends
in an exception, or does its own work, which for LDC and STC is `asspTransfer_answers`. -/
theorem foreignCoprocessorInstructions : Obligations.ForeignCoprocessorInstructions := by
  refine ⟨fun s c p u n w rn rd opc1 opc crn crd crm cp opc2 off8 h hd hs hbreak h0 h14 h15 hbits => ?absent,
    fun s c p u n w rn rd opc1 opc crn crd crm cp opc2 off8 h hge hs => ?core,
    fun s c p u n w rn rd opc1 opc crn crd crm cp opc2 off8 h hd hs hq h0 h7 h14 h15 hpresent hpermitted => ?assp⟩
  case absent =>
    intro undefined off
    have ha : s.CoprocAbsent cp := coprocAbsent_of_bits hbits
    have hcore : cp ≠ 0 ∧ cp ≠ 14 ∧ cp ≠ 15 := ⟨h0, h14, h15⟩
    have once {i : Instr} (e : exec i s = .next s.undefinedInstruction) : undefined i :=
      ⟨_, e, undefinedInstruction_entered h.arm hd.noDebug⟩
    refine ⟨once (exec_cdp_absent h hs h0 (fun _ => ha)), once (runIf_undefined h hs (foreignStore_absent ha ..)),
      once (exec_mcrr_absent h hs h0 ha), once (exec_mrrc_absent h hs h0 ha), fun hcrm => ?moves, fun haddr => ?loads⟩
    case moves =>
      have hseven : cp = 7 → s.privileged = true → crm ≠ 2 := fun e _ => hcrm.resolve_left (not_not_intro e)
      exact ⟨once (exec_mcr_absent h hs hcore hseven ha), once (exec_mrc_absent h hs hcore hseven ha)⟩
    case loads =>
      obtain ⟨run, e⟩ := foreignLoad_absent h.ready hd hbreak hcore ha haddr w
      obtain ⟨t, hnext, hentered⟩ := finish_undefined_entered h.arm hd.noDebug hs e
      exact ⟨⟨t, (runIf_holds _ h.holds).trans hnext, hentered⟩, ⟨t, hnext, hentered⟩⟩
  case core =>
    intro undefined
    have once {i : Instr} (e : exec i s = .next s.undefinedInstruction) : undefined i :=
      ⟨_, e, undefinedInstruction_entered h.arm hge⟩
    have denied {cp : BitVec 4} (hcp : cp = 0 ∨ cp = 14 ∨ cp = 15 ∨ s.coprocRight cp = false) :=
      foreignLoad_denied hcp p u w rn off8
    refine ⟨fun hcp => ?debugAndSystem, fun hcp => ?transfers, once (finish_undefined (denied (.inl rfl)) hs),
      once (exec_cdp_absent h hs (by decide) (absurd rfl)), fun hp => ?user⟩
    case debugAndSystem =>
      have h0 : cp ≠ 0 := by rcases hcp with rfl | rfl <;> decide
      have ha : s.CoprocAbsent cp := coprocAbsent_core (.inr hcp)
      exact ⟨once (exec_cdp_absent h hs h0 (fun _ => ha)), once (exec_mcrr_absent h hs h0 ha),
        once (exec_mrrc_absent h hs h0 ha)⟩
    case transfers =>
      have hcore : cp = 0 ∨ cp = 14 ∨ cp = 15 := hcp.imp_right .inr
      exact ⟨once (runIf_undefined h hs (denied (hcore.imp_right (·.imp_right .inl)))),
        once (runIf_undefined h hs (foreignStore_absent (coprocAbsent_core hcore) ..))⟩
    case user =>
      have hright : s.coprocRight 7 = false := coprocRight_user hp
      have ha : s.CoprocAbsent 7 := coprocAbsent_of_denied hright
      have hcore : (7 : BitVec 4) ≠ 0 ∧ (7 : BitVec 4) ≠ 14 ∧ (7 : BitVec 4) ≠ 15 := by decide
      have hseven : (7 : BitVec 4) = 7 → s.privileged = true → crm ≠ 2 :=
        fun _ hpriv => absurd (hp.symm.trans hpriv) Bool.false_ne_true
      have hload := denied (.inr (.inr (.inr hright)))
      have hstore := foreignStore_absent ha p u w rn off8
      exact ⟨once (exec_mcr_absent h hs hcore hseven ha), once (exec_mrc_absent h hs hcore hseven ha),
        once (exec_mcrr_absent h hs hcore.1 ha), once (exec_mrrc_absent h hs hcore.1 ha),
        once (runIf_undefined h hs hload), once (runIf_undefined h hs hstore), once (finish_undefined hload hs),
        once (finish_undefined hstore hs)⟩
  case assp =>
    have hcp : s.CoprocAnswers cp := ⟨hd.noDebug, hs, ⟨h0, h14, h15⟩, h7, hpresent, hpermitted⟩
    refine ⟨exec_cdp_answers h hcp, exec_cdp2_answers h hcp, exec_mcr_answers h hcp, exec_mcr2_answers h hcp,
      exec_mrc_answers h hcp, exec_mrc2_answers h hcp, fun hrd hrn => ⟨exec_mcrr_answers h hcp hrn hrd,
        fun hne => exec_mrrc_answers h hcp hrn hrd hne⟩, fun hw ha hwrap => ?words⟩
    case words =>
      have hmoves : s.TransfersCoproc p u w rn off8 := ⟨h.ready, hd, hq, hw, ha, hwrap⟩
      have hload := foreignLoad_answers h hcp hmoves
      have hstore := foreignStore_answers h hcp hmoves
      exact ⟨hcp.runs h hload, hcp.finishes h hload, hcp.runs h hstore, hcp.finishes h hstore⟩
end

section
/-! # The privileged system instructions in User mode (45 R661) -/

namespace Sys2Proof.Machine

section UserMode
variable {s : State} {c : Cond} {i : Instr}

/-- Each of them is a body that asks for a privileged mode before anything else: the templates of MCR and MRC, and the LDC and
STC of CP14. -/
theorem exec_privilegedOnly (hi : i.privilegedOnly = some c) (s : State) :
    ∃ body : M Unit, exec i s = runIf c (do privilegedOnly; body) s := by
  cases i <;> cases hi
  all_goals exact ⟨_, rfl⟩

theorem runIf_privilegedOnly_user (h : s.RunsArm c) (hp : s.privileged = false) (hs : s.dbg.sds = false) (body : M Unit) :
    runIf c (do privilegedOnly; body) s = .next s.undefinedInstruction :=
  runIf_undefined h hs (M.bind_error _ (privilegedOnly_user hp))

end UserMode

end Sys2Proof.Machine

open Sys2Proof Sys2Proof.Machine

/-- Settles O25. Every such instruction asks for a privileged mode first (`exec_privilegedOnly`), and User mode is none. -/
theorem privilegedInUserModeIsUndefined : Obligations.PrivilegedInUserModeIsUndefined := by
  intro i c s hi h hm hge hs
  have huser : s.privileged = false := by simp [State.privileged, hm]
  obtain ⟨body, e⟩ := exec_privilegedOnly hi s
  exact ⟨_, e.trans (runIf_privilegedOnly_user h huser hs body), undefinedInstruction_entered h.arm hge⟩
end

section
/-! # The barriers DWB and DMB (45 R677, R678, R684; 22 R346, R369) -/

namespace Sys2Proof.Machine

/-! ## Bodies that always complete -/

/-- From every state it completes, in a state that `R` relates to the one it began in. -/
def M.Completes {α : Type} (R : State → State → Prop) (m : M α) : Prop := ∀ s, ∃ a t, m s = .ok a t ∧ R s t

/-- The states agree on all that stands above the next level of memory: they differ in memory, the L2, the bus and its error log,
and the model's own fields; where no line was on its way from the L2, none is. -/
structure State.AgreesAbove (s t : State) : Prop where
  rest : t = { s with
    mem := t.mem, ext := t.ext, errlog := t.errlog, run := t.run, caches := { s.caches with l2 := t.caches.l2 } }
  settled : s.caches.l2.leaving = [] → t.caches.l2.leaving = []

theorem agreesAbove_follows : Follows State.AgreesAbove where
  refl _ := ⟨rfl, id⟩
  trans h k := ⟨by rw [k.rest, h.rest], k.settled ∘ h.settled⟩

/-- A body that completes and works on the next level of memory alone. -/
abbrev M.Below {α : Type} (m : M α) : Prop := M.Completes State.AgreesAbove m

namespace Below

section Combinators
variable {α β : Type}

theorem pure (a : α) : M.Below (Pure.pure a : M α) := fun s => ⟨a, s, rfl, agreesAbove_follows.refl s⟩
theorem state : M.Below M.state := fun s => ⟨s, s, rfl, agreesAbove_follows.refl s⟩
theorem draw (w : Nat) : M.Below (M.draw w) := fun s => ⟨_, _, M.draw_apply s w, rfl, id⟩

theorem update {f : State → State} (h : ∀ s : State, s.AgreesAbove (f s)) : M.Below (M.update f) := fun s => ⟨(), f s, rfl, h s⟩

theorem bind {m : M α} {f : α → M β} (h : M.Below m) (k : ∀ a, M.Below (f a)) : M.Below (m >>= f) := by
  intro s
  obtain ⟨a, t, ha, hs⟩ := h s
  obtain ⟨b, u, hb, ht⟩ := k a t
  exact ⟨b, u, (M.bind_ok s ha).trans hb, agreesAbove_follows.trans hs ht⟩

theorem ite {c : Prop} [Decidable c] {m n : M α} (h : M.Below m) (k : M.Below n) : M.Below (if c then m else n) := by
  split
  · exact h
  · exact k

/-- An action that is made on a condition, and what follows it either way. -/
theorem optional {c : Prop} [Decidable c] {m : M Unit} {f : Unit → M β} (h : M.Below m) (k : ∀ u, M.Below (f u)) :
    M.Below (if c then m >>= f else f ()) := ite (bind h k) (k ())

/-- Either of two actions, and what follows it. -/
theorem either {c : Prop} [Decidable c] {m n : M α} {f : α → M β} (h : M.Below m) (k : M.Below n) (l : ∀ a, M.Below (f a)) :
    M.Below (if c then m >>= f else n >>= f) := ite (bind h l) (bind k l)

theorem each {f : α → M β} (h : ∀ a, M.Below (f a)) (l : List α) : M.Below (M.each f l) := by
  induction l with
  | nil => exact pure _
  | cons a t ih => exact bind (h a) fun _ => bind ih fun _ => pure _

end Combinators

/-! ### The bus and the L2 -/

theorem logErrors (bits : BitVec 8) (address : Option PAddr) : M.Below (M.update (·.logErrors bits address)) := by
  refine update fun s => ?_
  unfold State.logErrors
  dsimp only
  split_ifs
  · exact agreesAbove_follows.refl s
  · exact ⟨rfl, id⟩
  · cases address <;> exact ⟨rfl, id⟩

theorem transactionAddress (pline : BitVec 31) (origin : Option PAddr) :
    M.Below (Machine.transactionAddress pline origin) := by
  cases origin with
  | some a => exact pure _
  | none => exact bind (draw _) fun _ => pure _

theorem busAnswer (pline : BitVec 31) (origin : Option PAddr) : M.Below (Machine.busAnswer pline origin) := by
  refine bind state fun s => ?_
  cases s.ext.busErrors with
  | nil => exact pure _
  | cons kinds t =>
    exact bind (update fun _ => ⟨rfl, id⟩) fun _ =>
      ite (bind (transactionAddress _ _) fun _ => bind (logErrors _ _) fun _ => pure _)
        (bind (logErrors _ _) fun _ => pure _)

theorem busRead (pa : PAddr) (n : Nat) : M.Below (Machine.busRead pa n) :=
  bind state fun _ => bind (busAnswer _ _) fun _ => ite (bind (draw _) fun _ => pure _) (pure _)

theorem pendAbort (status : BitVec 5) : M.Below (M.update (·.pendAbort status)) := update fun _ => ⟨rfl, id⟩

theorem busPut (origin : Option PAddr) (pa : PAddr) (n : Nat) (v : BitVec (8 * n)) (mask : BitVec n) :
    M.Below (Machine.busPut origin pa n v mask) :=
  bind (busAnswer _ _) fun _ => ite
    (bind (pendAbort _) fun _ => bind (draw _) fun _ => ite (update fun _ => ⟨rfl, id⟩) (pure _))
    (update fun _ => ⟨rfl, id⟩)

theorem settleLeaving : M.Below Machine.settleLeaving :=
  bind state fun _ => ite (pure _) (bind (update fun _ => ⟨rfl, fun _ => rfl⟩) fun _ =>
    bind (each (fun _ => busPut _ _ _ _ _) _) fun _ => pure _)

theorem busWrite (origin : Option PAddr) (pa : PAddr) (n : Nat) (v : BitVec (8 * n)) (mask : BitVec n) :
    M.Below (Machine.busWrite origin pa n v mask) :=
  bind (bind state fun _ => ite settleLeaving (pure _)) fun _ => busPut _ _ _ _ _

theorem settle (data : BitVec 256) (known : BitVec 32) : M.Below (Machine.settle data known) :=
  ite (pure _) (bind (draw _) fun _ => pure _)

theorem l2Check (set way : Nat) (x : L2Line) (data : Bool) : M.Below (Machine.l2Check set way x data) :=
  either (ite (bind (update fun _ => ⟨rfl, id⟩) fun _ => pure _) (pure _)) (pure _) fun _ =>
    bind (logErrors _ _) fun _ => pure _

theorem l2CheckTags (set : Nat) : M.Below (Machine.l2CheckTags set) :=
  bind state fun _ => bind (logErrors _ _) fun _ => pure _

theorem l2ReadOut (set way : Nat) (x : L2Line) : M.Below (Machine.l2ReadOut set way x) :=
  bind (l2Check _ _ _ _) fun _ => ite
    (bind (pendAbort _) fun _ => bind (draw _) fun _ => bind (draw _) fun _ => pure _)
    (bind (settle _ _) fun _ => pure _)

theorem l2WriteBack (set way : Nat) (x : L2Line) : M.Below (Machine.l2WriteBack set way x) := by
  refine bind (l2ReadOut _ _ _) fun v => ?_
  cases v with
  | some v => exact busWrite _ _ _ _ _
  | none => exact pure _

theorem l2Allocate (x : L2Line) : M.Below (Machine.l2Allocate x) := by
  refine bind state fun s => ?_
  dsimp only
  split
  · exact optional (l2WriteBack _ _ _) fun _ => update fun _ => ⟨rfl, id⟩
  · exact update fun _ => ⟨rfl, id⟩

theorem l2Claim (x : L2Line) : M.Below (Machine.l2Claim x) :=
  ite (bind (update fun _ => ⟨rfl, id⟩) fun _ => bind (busAnswer _ _) fun _ => pure _) (pure _)

theorem l2Write (pline : BitVec 31) (data : BitVec 256) (mask : BitVec 32) (mvas : List (BitVec 27)) :
    M.Below (Machine.l2Write pline data mask mvas) := by
  refine bind (update fun _ => ⟨rfl, id⟩) fun _ => bind state fun s => ?_
  dsimp only
  split
  · exact bind (l2Check _ _ _ _) fun _ => bind (l2Claim _) fun _ => optional (pendAbort _) fun _ =>
      update fun _ => ⟨rfl, id⟩
  · exact bind (update fun _ => ⟨rfl, id⟩) fun _ => bind (l2CheckTags _) fun _ => either (pure _) (busRead _ _) fun _ =>
      optional (pendAbort _) fun _ => l2Allocate _

theorem writeNext (e : BufEntry) : M.Below (Machine.writeNext e) :=
  bind state fun _ => ite (l2Write _ _ _ _) (busWrite _ _ _ _ _)

end Below

/-! ## What a barrier leaves -/

/-- Nothing waits between the core and memory, and above the next level only the memory buffer differs. -/
structure State.Drained (s t : State) : Prop where
  buffer : t.caches.buf.entries = []
  settled : t.caches.l2.leaving = []
  rest : t = { s with
    mem := t.mem, ext := t.ext, errlog := t.errlog, run := t.run
    caches := { s.caches with buf := t.caches.buf, l2 := t.caches.l2 } }

theorem settleLeaving_empties (s : State) :
    ∃ t, settleLeaving s = .ok () t ∧ s.AgreesAbove t ∧ t.caches.l2.leaving = [] := by
  by_cases hl : s.caches.l2.leaving = []
  · exact ⟨s, by simp [settleLeaving, M.bind_apply, hl], agreesAbove_follows.refl s, hl⟩
  · obtain ⟨us, t, hputs, ht⟩ := Below.each
      (fun x : BitVec 31 × BitVec 256 => Below.busPut (some (lineAddr x.1)) (lineAddr x.1) 32 x.2 fullMask)
      s.caches.l2.leaving (s.setLeaving [])
    have hemptied : s.AgreesAbove (s.setLeaving []) := ⟨rfl, fun _ => rfl⟩
    refine ⟨t, ?_, agreesAbove_follows.trans hemptied ht, ht.settled rfl⟩
    simp only [settleLeaving, M.bind_apply, M.state_apply, List.isEmpty_iff, hl, if_false, M.update_apply, hputs, M.pure_apply]

theorem drainAll_drains {s : State} (hl : s.caches.l2.leaving = []) : ∃ t, drainAll s = .ok () t ∧ s.Drained t := by
  by_cases hb : s.caches.buf.entries = []
  · exact ⟨s, drainAll_direct hb, hb, hl, rfl⟩
  · obtain ⟨us, t, hwrites, ht⟩ := Below.each Below.writeNext s.caches.buf.entries (s.mapBuf fun _ => ⟨[], 0⟩)
    refine ⟨t, ?_, by rw [ht.rest]; rfl, ht.settled hl, by rw [ht.rest]; rfl⟩
    simp only [drainAll, M.bind_apply, M.state_apply, List.isEmpty_iff, hb, if_false, M.update_apply, hwrites, M.pure_apply]

theorem barrier_drains (s : State) : ∃ t, barrier s = .ok () t ∧ s.Drained t := by
  obtain ⟨u, hsettles, hu, hl⟩ := settleLeaving_empties s
  obtain ⟨t, hdrains, hbuf, hleft, hrest⟩ := drainAll_drains hl
  exact ⟨t, (M.bind_ok s hsettles).trans hdrains, hbuf, hleft, by rw [hrest, hu.rest]⟩

/-! ## With no L2 in use and no bus error -/

section Past
variable {s : State}

/-- Actions over a list that each write memory, as long as what they need of the rest of the state holds. -/
theorem each_setMem {α β : Type} {f : α → M β} {g : Memory → α → Memory} {p : State → Prop}
    (hp : ∀ s m, p s → p (s.setMem m)) (hf : ∀ a s, p s → ∃ b, f a s = .ok b (s.setMem (g s.mem a))) (l : List α) :
    ∀ s, p s → ∃ bs, M.each f l s = .ok bs (s.setMem (l.foldl g s.mem)) := by
  induction l with
  | nil => exact fun s _ => ⟨[], rfl⟩
  | cons a l ih =>
    intro s hs
    obtain ⟨b, hb⟩ := hf a s hs
    obtain ⟨bs, hbs⟩ := ih _ (hp s _ hs)
    exact ⟨b :: bs, (M.bind_ok s hb).trans (M.bind_ok _ hbs)⟩

theorem busPut_direct (h : s.ext.busErrors = []) (origin : Option PAddr) (pa : PAddr) (n : Nat) (v : BitVec (8 * n))
    (mask : BitVec n) : busPut origin pa n v mask s = .ok () (s.setMem (s.mem.writeBytes pa n v mask)) :=
  M.bind_ok s (busAnswer_direct h _ _)

/-- A store that no L2 takes goes to memory (22 R351). -/
theorem writeNext_past (h : s.l2On = false) (he : s.ext.busErrors = []) (hl : s.caches.l2.leaving = []) (e : BufEntry) :
    writeNext e s = .ok () (s.setMem (s.mem.writeBytes (lineAddr e.pline) 32 e.data e.mask)) := by
  rw [writeNext, M.bind_ok s (M.state_apply s), h]
  exact busWrite_direct he hl _ _ _ _ _

/-- Memory with the lines that have left the L2 written to it, in their order. -/
def State.settledMem (s : State) : Memory :=
  s.caches.l2.leaving.foldl (fun m x => m.writeBytes (lineAddr x.1) 32 x.2 fullMask) s.mem

theorem settleLeaving_past (he : s.ext.busErrors = []) :
    settleLeaving s = .ok () ((s.setLeaving []).setMem s.settledMem) := by
  by_cases hl : s.caches.l2.leaving = []
  · have hsame : s.setLeaving [] = s := by rw [← hl]; rfl
    rw [hsame, State.settledMem, hl]
    simp [settleLeaving, M.bind_apply, hl]
  · obtain ⟨us, hputs⟩ := each_setMem (p := fun s => s.ext.busErrors = [])
      (f := fun x : BitVec 31 × BitVec 256 => busPut (some (lineAddr x.1)) (lineAddr x.1) 32 x.2 fullMask)
      (g := fun m x => m.writeBytes (lineAddr x.1) 32 x.2 fullMask) (fun _ _ => id)
      (fun _ _ he => ⟨(), busPut_direct he ..⟩) s.caches.l2.leaving (s.setLeaving []) he
    simp only [settleLeaving, M.bind_apply, M.state_apply, List.isEmpty_iff, hl, if_false, M.update_apply, hputs, M.pure_apply]
    rfl

/-- The buffered stores reach memory in their order. -/
theorem drainAll_past (h : s.l2On = false) (he : s.ext.busErrors = []) (hl : s.caches.l2.leaving = []) :
    ∃ buf, drainAll s = .ok () ((s.mapBuf fun _ => buf).setMem
      (s.caches.buf.entries.foldl (fun m e => m.writeBytes (lineAddr e.pline) 32 e.data e.mask) s.mem)) := by
  by_cases hb : s.caches.buf.entries = []
  · exact ⟨s.caches.buf, by rw [drainAll_direct hb, hb]; rfl⟩
  · obtain ⟨us, hwrites⟩ := each_setMem (f := writeNext)
      (p := fun s => s.l2On = false ∧ s.ext.busErrors = [] ∧ s.caches.l2.leaving = [])
      (g := fun m e => m.writeBytes (lineAddr e.pline) 32 e.data e.mask) (fun _ _ => id)
      (fun e _ ⟨h, he, hl⟩ => ⟨(), writeNext_past h he hl e⟩) s.caches.buf.entries (s.mapBuf fun _ => ⟨[], 0⟩) ⟨h, he, hl⟩
    refine ⟨⟨[], 0⟩, ?_⟩
    simp only [drainAll, M.bind_apply, M.state_apply, List.isEmpty_iff, hb, if_false, M.update_apply, hwrites, M.pure_apply]
    rfl

/-- The lines that have left the L2 go first (log 34), then the buffered stores; nothing errs. -/
theorem barrier_past {t : State} (h : s.l2On = false) (he : s.ext.busErrors = []) (e : barrier s = .ok () t) :
    t.ext = s.ext ∧ t.errlog = s.errlog ∧
      t.mem = s.caches.buf.entries.foldl (fun m e => m.writeBytes (lineAddr e.pline) 32 e.data e.mask) s.settledMem := by
  obtain ⟨buf, hdrains⟩ := drainAll_past (s := (s.setLeaving []).setMem s.settledMem) h he rfl
  cases e.symm.trans ((M.bind_ok s (settleLeaving_past he)).trans hdrains)
  exact ⟨rfl, rfl, rfl⟩

end Past

end Sys2Proof.Machine

open Sys2Proof Sys2Proof.Machine

/-- Settles O34. Every action of a barrier completes and stays below the core (`M.Below`), so that it leaves the buffer and the
way from the L2 empty (`barrier_drains`); with no L2 in use and no bus error each write reaches memory (`barrier_past`). -/
theorem barriersDrainTheMemoryBuffer : Obligations.BarriersDrainTheMemoryBuffer := by
  intro s c rd i hi h h15
  obtain ⟨t, e, hdrained⟩ := barrier_drains s
  have hruns : exec i s = .next t.advance := by rcases hi with rfl | rfl <;> exact userWrite_runs h h15 e
  refine ⟨_, hruns, hdrained.buffer, hdrained.settled, ?_, fun hl2 he => (barrier_past hl2 he e :)⟩
  rw [← size_eq_four h, hdrained.rest]
  rfl
end

section
/-! # The L2 functions (45 R679 to R683, R700 to R702, R709; 22 R350 to R370) -/

namespace Sys2Proof.Machine

/-! ## The errors that an L2 function reports -/

section Errors
variable {s : State}

/-- An error of the tag or the state, which an access that reads no data finds (22 R368). -/
def L2Line.TagOrState (x : L2Line) : Prop := L2Error.tag ∈ x.errors ∨ L2Error.state ∈ x.errors

/-- A line of the set has an error of its tag. -/
def State.TagErrorIn (s : State) (set : Nat) : Prop :=
  ∃ w < 8, ∃ x, lookupKey (8 * set + w) s.caches.l2.lines = some x ∧ L2Error.tag ∈ x.errors

/-- The report of an L2 function: an error is an imprecise abort, and with none the bus and the error log are as before. -/
structure State.Reports (s : State) (bad : Prop) (ext : External) (errlog : ErrLog) : Prop where
  abort : bad → ext.pendingAbort = some 0b10110
  nothing : ¬ bad → ext = s.ext ∧ errlog = s.errlog

/-- Of errors that are found without the data, those of the tag and the state are reported. -/
theorem errorBits_eq_zero (errors : List L2Error) (b : BitVec 8) :
    errors.foldl (fun b e => if e == .doubleBit && !false then b else b ||| e.bit) b = 0 ↔
      b = 0 ∧ ¬ (L2Error.tag ∈ errors ∨ L2Error.state ∈ errors) := by
  induction errors generalizing b with
  | nil => simp
  | cons e t ih =>
    rw [List.foldl_cons, ih]
    cases e <;> simp [L2Error.bit, BitVec.or_eq_zero_iff]

theorem l2BadTags_iff (s : State) (set : Nat) : s.l2BadTags set = true ↔ s.TagErrorIn set := by
  have hways (w : Nat) : w ∈ l2Ways ↔ w < 8 := by simp [l2Ways]; omega
  simp only [State.l2BadTags, List.any_eq_true, hways, State.TagErrorIn]
  refine exists_congr fun w => and_congr_right fun _ => ?_
  cases lookupKey (8 * set + w) s.caches.l2.lines <;> simp

theorem logErrors_none (s : State) (bits : BitVec 8) :
    ∃ errlog, s.logErrors bits none = s.setErrlog errlog ∧ (bits = 0 → errlog = s.errlog) := by
  unfold State.logErrors
  dsimp only
  split_ifs with h0
  · exact ⟨s.errlog, rfl, fun _ => rfl⟩
  · exact ⟨_, rfl, fun h => absurd h h0⟩
  · exact ⟨_, rfl, fun h => absurd h h0⟩

/-- Of two imprecise aborts an external one is reported (60 R843). -/
theorem pendAbort_external (s : State) :
    s.pendAbort fsExternal = s.setExt { s.ext with pendingAbort := some 0b10110 } := by
  have hsame : (if s.ext.pendingAbort = some fsExternal then fsExternal else fsExternal) = fsExternal := ite_self _
  exact congrArg (fun a => s.setExt { s.ext with pendingAbort := some a }) hsame

/-- Errors that are logged and, if there are any, are an imprecise abort; whether there are any is answered. -/
theorem logged_reports (s : State) {bits : BitVec 8} {found : Bool} {bad : Prop} (hbits : bits = 0 ↔ found = false)
    (hfound : found = true ↔ bad) :
    ∃ ext errlog, (if found then M.update (·.pendAbort fsExternal) >>= fun _ => pure found else pure found : M Bool)
      (s.logErrors bits none) = .ok found ((s.setExt ext).setErrlog errlog) ∧ s.Reports bad ext errlog := by
  obtain ⟨errlog, hlog, hnone⟩ := logErrors_none s bits
  rw [hlog]
  cases found with
  | false =>
    exact ⟨s.ext, errlog, rfl, fun hb => absurd (hfound.mpr hb) Bool.false_ne_true, fun _ => ⟨rfl, hnone (hbits.mpr rfl)⟩⟩
  | true =>
    refine ⟨{ s.ext with pendingAbort := some 0b10110 }, errlog, ?_, fun _ => rfl, fun hb => absurd (hfound.mp rfl) hb⟩
    rw [if_pos rfl, M.bind_ok _ (M.update_apply _ _), pendAbort_external]
    rfl

/-- A function finds its line: the tag and the state of the line are checked (22 R368). -/
theorem l2Seen_line (s : State) (set way : Nat) (x : L2Line) : ∃ found ext errlog,
    l2Seen set (some (way, x)) s = .ok found ((s.setExt ext).setErrlog errlog) ∧ s.Reports x.TagOrState ext errlog := by
  have hbits := (errorBits_eq_zero x.errors 0).trans (and_iff_right rfl)
  obtain ⟨ext, errlog, e, hreports⟩ := logged_reports s (bad := x.TagOrState) bne_eq_false_iff_eq.symm
    (bne_iff_ne.trans (not_congr hbits |>.trans not_not))
  exact ⟨_, ext, errlog, e, hreports⟩

/-- A function finds no line: the tags of the set are checked (22 R368). -/
theorem l2Seen_set (s : State) (set : Nat) : ∃ ext errlog,
    l2Seen set none s = .ok (s.l2BadTags set) ((s.setExt ext).setErrlog errlog) ∧
      s.Reports (s.TagErrorIn set) ext errlog := by
  have hbits : (if s.l2BadTags set then 0x01 else 0 : BitVec 8) = 0 ↔ s.l2BadTags set = false := by
    cases s.l2BadTags set <;> decide
  exact logged_reports s hbits (l2BadTags_iff s set)

/-- A line with no error and a set with none report nothing. -/
theorem reports_nothing {bad : Prop} {ext : External} {errlog : ErrLog} (h : s.Reports bad ext errlog) (hbad : ¬ bad) :
    (s.setExt ext).setErrlog errlog = s := by
  obtain ⟨rfl, rfl⟩ := h.nothing hbad
  rfl

end Errors

/-! ## Where a function finds its line -/

section Find
variable {s : State} {v : Word} {w : Nat} {x : L2Line} {f : Nat → Nat → L2Line → M Unit}

/-- With the MMU off the physical address is the MVA (45 R679). -/
theorem functionEntry_mmuOff (hmmu : s.cp15.ctrl.mmu = false) (mva : Word) : functionEntry mva s = .ok none s := by
  simp [functionEntry, M.bind_apply, hmmu]

theorem l2ByMva_found (hmmu : s.cp15.ctrl.mmu = false) (hbuf : s.caches.buf.entries = [])
    (hfind : s.l2Find (lineOf (v.setWidth 36)) = some (w, x)) :
    l2ByMva v f s = f (s.l2Set (lineOf (v.setWidth 36))) w x s := by
  simp only [l2ByMva, M.bind_apply, functionEntry_mmuOff hmmu, entryPa, drainFor_direct hbuf, M.state_apply, hfind]

/-- On a miss a function only reports the tags of the set. -/
theorem l2ByMva_missing (hmmu : s.cp15.ctrl.mmu = false) (hbuf : s.caches.buf.entries = [])
    (hfind : s.l2Find (lineOf (v.setWidth 36)) = none) : ∃ ext errlog,
    l2ByMva v f s = .ok () ((s.setExt ext).setErrlog errlog) ∧
      s.Reports (s.TagErrorIn (s.l2Set (lineOf (v.setWidth 36)))) ext errlog := by
  obtain ⟨ext, errlog, e, hreports⟩ := l2Seen_set s (s.l2Set (lineOf (v.setWidth 36)))
  refine ⟨ext, errlog, ?_, hreports⟩
  simp only [l2ByMva, M.bind_apply, functionEntry_mmuOff hmmu, entryPa, drainFor_direct hbuf, M.state_apply, hfind, e,
    M.pure_apply]

/-- The set that a word names (11 R117): bits 14:5, of the larger L2 bits 15:5. -/
def State.l2SetOf (s : State) (v : Word) : Nat := (v.extractLsb' 5 (if s.cfg.l2 = .kb512 then 11 else 10)).toNat

/-- The way that a word names (11 R117). -/
def l2WayOf (v : Word) : Nat := (v.extractLsb' 29 3).toNat

/-- A line that is locked, or not there, is left alone. -/
theorem unlockedLine_apply (s : State) (o : Option L2Line) (g : L2Line → M Unit) :
    (match o with
      | some x => if x.locked then pure () else g x
      | none => pure () : M Unit) s = o.elim (.ok () s) fun x => if x.locked then .ok () s else g x s := by
  cases o with
  | none => rfl
  | some x => exact M.ite_apply s _ _ _

theorem l2BySetWay_eq (s : State) (v : Word) (f : Nat → Nat → L2Line → M Unit) :
    l2BySetWay v f s = (lookupKey (8 * s.l2SetOf v + l2WayOf v) s.caches.l2.lines).elim (.ok () s) fun x =>
      if x.locked then .ok () s else f (s.l2SetOf v) (l2WayOf v) x s := by
  unfold State.l2SetOf
  rw [l2BySetWay, M.bind_ok _ (M.state_apply s)]
  cases s.cfg.l2 <;> exact unlockedLine_apply s _ (f _ _)

end Find

/-! ## Lines with no error -/

section Sound
variable {s : State} {x : L2Line}

/-- Every byte of the line is known and it has no error. -/
structure L2Line.Sound (x : L2Line) : Prop where
  known : x.known = fullMask
  errors : x.errors = []

theorem L2Line.Sound.noReport (h : x.Sound) : ¬ x.TagOrState := by simp [L2Line.TagOrState, h.errors]

theorem l2ReadOut_sound (h : x.Sound) (s : State) (set way : Nat) : l2ReadOut set way x s = .ok (some x.data) s := by
  obtain ⟨hknown, herrors⟩ := h
  simp [l2ReadOut, l2Check, l2Correct, M.bind_apply, M.map_apply, herrors, hknown, State.logErrors, settle]

/-- Cleaning a line with no error changes its state alone. -/
theorem cleaned_sound (h : x.Sound) : x.cleaned = { x with state := x.state.cleaned } := by
  simp [L2Line.cleaned, h.errors]

theorem cleaned_of_dirty (hd : x.dirty = true) : x.state.cleaned = .exclusive ∨ x.state.cleaned = .shared := by
  unfold L2Line.dirty at hd
  cases hx : x.state <;> simp_all [Moesi.cleaned]

/-- The lines after a clean of one of them: it is in a clean state, if it was modified or owned. -/
def L2.cleanedLines (l : L2) (key : Nat) (x : L2Line) : List (Nat × L2Line) :=
  if x.dirty then insertKey key { x with state := x.state.cleaned } l.lines else l.lines

/-- A whole line that is stored. -/
theorem stored_wholeLine {m : Memory} (hm : m.wf = true) (pa : PAddr) (v : BitVec 256) :
    Stored m (m.writeBytes pa 32 v fullMask) pa 32 v := by
  intro a
  rw [Memory.read_writeBytes hm _ _ _ (by norm_num)]
  refine if_congr (and_iff_left_of_imp fun hlt => ?_) rfl rfl
  exact BitVec.getLsbD_allOnes.trans (decide_eq_true hlt)

/-- Clean by MVA: the data of a modified or owned line is in memory. -/
theorem l2Clean_sound (h : x.Sound) (he : s.ext.busErrors = []) (hl : s.caches.l2.leaving = []) (hm : s.mem.wf = true)
    (set way : Nat) : ∃ m, l2Clean set way x s =
        .ok () ((s.mapL2 fun l => { l with lines := l.cleanedLines (8 * set + way) x }).setMem m) ∧
      if x.dirty then Stored s.mem m (lineAddr x.pline) 32 x.data else m = s.mem := by
  cases hd : x.dirty with
  | true =>
    refine ⟨_, ?_, stored_wholeLine hm _ _⟩
    have hwrite : l2WriteBack set way x s = _ :=
      (M.bind_ok s (l2ReadOut_sound h s set way)).trans (busWrite_direct he hl _ (lineAddr x.pline) 32 x.data fullMask)
    rw [l2Clean, if_pos hd, M.bind_ok s hwrite, cleaned_sound h]
    simp only [L2.cleanedLines, if_pos hd]
    rfl
  | false =>
    obtain ⟨found, ext, errlog, e, hreports⟩ := l2Seen_line s set way x
    refine ⟨s.mem, ?_, rfl⟩
    rw [l2Clean, if_neg (by simp [hd]), M.bind_ok s e, reports_nothing hreports h.noReport]
    simp only [L2.cleanedLines, hd]
    rfl

/-- Clean by set and way: the data of a modified or owned line is on its way to memory. -/
theorem l2CleanOut_sound (h : x.Sound) (s : State) (set way : Nat) : l2CleanOut set way x s = .ok () (s.mapL2 fun l => { l with
      lines := l.cleanedLines (8 * set + way) x
      leaving := if x.dirty then l.leaving ++ [(x.pline, x.data)] else l.leaving }) := by
  cases hd : x.dirty with
  | true =>
    rw [l2CleanOut, if_pos hd, M.bind_ok s (l2ReadOut_sound h s set way), cleaned_sound h]
    simp only [L2.cleanedLines, if_pos hd]
    rfl
  | false =>
    rw [l2CleanOut, if_neg (by simp [hd])]
    simp only [L2.cleanedLines, hd]
    rfl

/-- Invalidate drops the line, its data lost; an error of its tag or state is reported. -/
theorem l2Invalidate_drops (s : State) (set way : Nat) (x : L2Line) : ∃ ext errlog,
    l2Invalidate set way x s = .ok () (((s.setExt ext).setErrlog errlog).l2Drop set way) ∧
      s.Reports x.TagOrState ext errlog := by
  obtain ⟨found, ext, errlog, e, hreports⟩ := l2Seen_line s set way x
  exact ⟨ext, errlog, M.bind_ok s e, hreports⟩

end Sound

theorem mapKeys_some {α : Type} (g : α → α) (l : List (Nat × α)) :
    mapKeys (fun _ x => some (g x)) l = l.map fun e => (e.1, g e.2) := by
  induction l with
  | nil => rfl
  | cons e t ih => rw [mapKeys, ih, List.map_cons]

/-! ## The instructions -/

section Instructions
variable {s : State} {c : Cond} {rd : Reg}

theorem l2Function_absent (h : s.cfg.l2 = .absent) (m : M Unit) : l2Function m s = .ok () s := by
  simp [l2Function, M.bind_apply, State.l2Present, h]

theorem l2Function_disabled (h : s.cfg.l2 ≠ .absent) (hoff : s.cp15.ctrl.l2 = false) (m : M Unit) :
    l2Function m s = .error (.refuse .l2Disabled) s := by
  simp [l2Function, M.bind_apply, State.l2Present, h, hoff]

theorem l2Function_enabled (h : s.cfg.l2 ≠ .absent) (hon : s.cp15.ctrl.l2 = true) (m : M Unit) : l2Function m s = m s := by
  simp [l2Function, M.bind_apply, State.l2Present, h, hon]

/-- An MCR of an enabled L2's function that changes the L2, memory, and what an error leaves. -/
theorem systemWrite_l2 (h : s.RunsArm c) (hp : s.privileged = true) (h15 : rd ≠ 15) (hl2 : s.cfg.l2 ≠ .absent)
    (hon : s.cp15.ctrl.l2 = true) {m : Word → M Unit} {l2 : L2} {mem : Memory} {ext : External} {errlog : ErrLog} {run : Run}
    (e : m (s.readReg rd) s =
      .ok () { s with mem := mem, caches := { s.caches with l2 := l2 }, ext := ext, errlog := errlog, run := run }) :
    systemWrite c rd (fun v => l2Function (m v)) s = .next { s with
      pc := s.pc + 4, mem := mem, caches := { s.caches with l2 := l2 }, ext := ext, errlog := errlog, run := run } := by
  rw [systemWrite_runs h hp h15 ((l2Function_enabled hl2 hon _).trans e), ← size_eq_four h]
  rfl

end Instructions

end Sys2Proof.Machine

open Sys2Proof Sys2Proof.Machine

/-- Settles O35. With no L2 a function does nothing and with the L2 disabled it refuses, whichever it is. With an enabled one it
finds its line (`l2ByMva_found`, `l2BySetWay_eq`) and does one operation on it (`l2Invalidate_drops`, `l2Clean_sound`,
`l2CleanOut_sound`); on a miss it reports the tags of the set (`l2ByMva_missing`). -/
theorem levelTwoFunctions : Obligations.LevelTwoFunctions := by
  refine ⟨fun s c rd h h15 hp => ⟨fun habsent => ?absent, fun hl2 hoff => ?disabled⟩,
    fun s c rd h h15 hp hl2 hon hmmu hbuf he hm => ?enabled⟩
  case absent =>
    have nothing (m : Word → M Unit) : systemWrite c rd (fun v => l2Function (m v)) s = .next { s with pc := s.pc + 4 } := by
      rw [systemWrite_runs h hp h15 (l2Function_absent habsent _), ← size_eq_four h]
      rfl
    exact ⟨nothing _, nothing _, nothing _, nothing _, nothing _, nothing _, nothing _⟩
  case disabled =>
    have refuses (m : Word → M Unit) : systemWrite c rd (fun v => l2Function (m v)) s = .refused .l2Disabled :=
      systemWrite_refused h hp h15 (l2Function_disabled hl2 hoff _)
    exact ⟨refuses _, refuses _, refuses _, refuses _, refuses _, refuses _, refuses _⟩
  case enabled =>
    intro v l done pline set way marked sound clean leaves checked
    refine ⟨fun w x hfind => ⟨?invalidate, fun ⟨hknown, herrors⟩ hleft => ?clean⟩, fun hfind => ?missing,
      fun x hx hunlocked => ?bySetWay, fun hx => ?noLine, ?unlock⟩
    case invalidate =>
      obtain ⟨ext, errlog, e, hreports⟩ := l2Invalidate_drops s (s.l2Set pline) w x
      exact ⟨ext, errlog, systemWrite_l2 h hp h15 hl2 hon ((l2ByMva_found hmmu hbuf hfind).trans e), hreports.abort,
        hreports.nothing⟩
    case clean =>
      obtain ⟨m, e, hstored⟩ := l2Clean_sound ⟨hknown, herrors⟩ he hleft hm (s.l2Set pline) w
      exact ⟨x.state.cleaned, m, cleaned_of_dirty,
        systemWrite_l2 h hp h15 hl2 hon ((l2ByMva_found hmmu hbuf hfind).trans e), hstored⟩
    case missing =>
      have misses (f : Nat → Nat → L2Line → M Unit) : ∃ ext errlog,
          systemWrite c rd (fun v => l2Function (l2ByMva v f)) s = .next { s with
            pc := s.pc + 4, caches := { s.caches with l2 := l }, ext := ext, errlog := errlog } ∧
          (s.TagErrorIn (s.l2Set pline) → ext.pendingAbort = some 0b10110) ∧
          (¬ s.TagErrorIn (s.l2Set pline) → ext = s.ext ∧ errlog = s.errlog) := by
        obtain ⟨ext, errlog, e, hreports⟩ := l2ByMva_missing (f := f) hmmu hbuf hfind
        exact ⟨ext, errlog, systemWrite_l2 h hp h15 hl2 hon e, hreports.abort, hreports.nothing⟩
      exact ⟨misses _, misses _⟩
    case bySetWay =>
      have found (f : Nat → Nat → L2Line → M Unit) : l2BySetWay v f s = f set way x s := by
        rw [l2BySetWay_eq, show lookupKey (8 * s.l2SetOf v + l2WayOf v) s.caches.l2.lines = some x from hx]
        exact if_neg (by simp [hunlocked])
      have cleanOut (hsound : x.Sound) := l2CleanOut_sound hsound s set way
      refine ⟨fun ⟨hknown, herrors⟩ => ⟨x.state.cleaned, cleaned_of_dirty, ?_⟩,
        fun ⟨hknown, herrors⟩ => ⟨x.state.cleaned, cleaned_of_dirty, ?_⟩⟩
      · exact systemWrite_l2 h hp h15 hl2 hon ((found l2CleanOut).trans (cleanOut ⟨hknown, herrors⟩))
      · exact systemWrite_l2 h hp h15 hl2 hon ((found l2CleanDrop).trans (M.bind_ok s (cleanOut ⟨hknown, herrors⟩)))
    case noLine =>
      have missing (f : Nat → Nat → L2Line → M Unit) : l2BySetWay v f s = .ok () s := by
        rw [l2BySetWay_eq, show lookupKey (8 * s.l2SetOf v + l2WayOf v) s.caches.l2.lines = none from hx]
        rfl
      exact ⟨systemWrite_l2 h hp h15 hl2 hon (missing _), systemWrite_l2 h hp h15 hl2 hon (missing _)⟩
    case unlock =>
      refine systemWrite_l2 h hp h15 hl2 hon ?_
      rw [← mapKeys_some fun x : L2Line => { x with locked := false }]
      rfl
end

section
/-! # The lock functions of the L2 (45 R700, R701; 22 R358, R365) -/

namespace Sys2Proof.Machine

/-! ## The line to lock -/

/-- A line that a lock function may lock (45 R700, R701): the MMU on, its translation in the DTLB as the tables give it now, with
no product-defined bit, its memory L2 cacheable and not shared, and no store waiting, no bus error. -/
structure State.Lockable (s : State) (mva : Word) (e : TlbEntry) (a : Attr) : Prop where
  mmu : s.cp15.ctrl.mmu = true
  buffer : s.caches.buf.entries = []
  noErrors : s.ext.busErrors = []
  held : s.tlbs.d.lookup mva = some e
  current : s.entryCurrent e mva = true
  unshared : e.s = false
  noMeaning : s.cfg.pBitUsed = false
  attr : s.attr e = some a
  outer : a.outer = true
  shared : a.shared = false

section Translation
variable {s : State} {mva : Word} {e : TlbEntry} {a : Attr}

/-- A function takes the entry that the DTLB holds, with no check of domain and permission (45 R679). -/
theorem functionEntry_held (h : s.Lockable mva e a) : functionEntry mva s = .ok (some e) s := by
  have hheld : heldEntry e mva s = .ok (.ok e) s := by simp only [heldEntry, M.bind_apply, M.state_apply, h.current]; rfl
  have hlookup : (s.tlbFor .read).lookup mva = some e := h.held
  have hfind : findEntry mva .read s = .ok (.ok e) s := by
    simp only [findEntry, M.bind_apply, M.state_apply, hlookup, hheld]
  simp only [functionEntry, M.bind_apply, M.state_apply, h.mmu, if_true, hfind, sharable_ok (.inl h.unshared), M.pure_apply]

theorem attributes_lockable (h : s.Lockable mva e a) : attributes e s = .ok a s := by
  simp only [attributes, M.bind_apply, sharable_ok (.inl h.unshared), M.state_apply, h.noMeaning, Bool.false_and,
    Bool.not_false, M.require_true, h.attr, M.pure_apply]

end Translation

/-! ## A resident line -/

/-- The L2 with a resident line locked: it has been used, by one MVA more. -/
def State.lockedL2 (s : State) (mva : Word) (set way : Nat) (x : L2Line) : L2 :=
  ((s.l2Put set way { x with locked := true, mvas := joinMvas x.mvas [mvaLine mva] }).l2Touch set way).caches.l2

section Lock
variable {s : State} {mva : Word} {e : TlbEntry} {a : Attr} {bring : BitVec 31 → Bool → M (Option L2Line)}

theorem l2Lock_resident (h : s.Lockable mva e a) {way : Nat} {x : L2Line}
    (hfind : s.l2Find (lineOf (e.pa mva)) = some (way, x))
    (hroom : x.locked = true ∨ s.l2LockedWays (s.l2Set (lineOf (e.pa mva))) < 7) : ∃ ext errlog,
    s.Reports x.TagOrState ext errlog ∧ ∀ bring, l2Lock mva bring s = .ok () { s with
      caches := { s.caches with l2 := s.lockedL2 mva (s.l2Set (lineOf (e.pa mva))) way x }, ext := ext, errlog := errlog } := by
  obtain ⟨found, ext, errlog, hseen, hreports⟩ := l2Seen_line s (s.l2Set (lineOf (e.pa mva))) way x
  have hallowed : (x.locked || decide (s.l2LockedWays (s.l2Set (lineOf (e.pa mva))) < 7)) = true := by simpa using hroom
  refine ⟨ext, errlog, hreports, fun bring => ?_⟩
  simp only [l2Lock, M.bind_apply, functionEntry_held h, attributes_lockable h, h.outer, M.require_true,
    drainFor_direct h.buffer, M.state_apply, hfind, hallowed, hseen, M.update_apply]
  rfl

/-! ## An empty L2 -/

theorem l2Find_empty (h : s.caches.l2.lines = []) (pline : BitVec 31) : s.l2Find pline = none := by
  simp [State.l2Find, h, l2Ways, findWay, lookupKey]

theorem l2LockedWays_empty (h : s.caches.l2.lines = []) (set : Nat) : s.l2LockedWays set = 0 := by
  simp [State.l2LockedWays, h, lookupKey]

theorem l2Seen_empty (h : s.caches.l2.lines = []) (set : Nat) : l2Seen set none s = .ok false s := by
  have hsound : ¬ s.TagErrorIn set := by simp [State.TagErrorIn, h, lookupKey]
  have hbad : s.l2BadTags set = false := Bool.eq_false_iff.mpr (mt (l2BadTags_iff s set).mp hsound)
  obtain ⟨ext, errlog, e, hreports⟩ := l2Seen_set s set
  rw [e, hbad, reports_nothing hreports hsound]

/-- Into an empty L2 a line goes at way 0 of its set. -/
theorem l2Allocate_empty (h : s.caches.l2.lines = []) (x : L2Line) : ∃ used, l2Allocate x s = .ok () { s with
    caches := { s.caches with l2 := ⟨[(8 * s.l2Set x.pline, x)], used, s.caches.l2.leaving⟩ } } := by
  have hvictim : s.l2Victim (s.l2Set x.pline) = 0 := by simp [State.l2Victim, h, firstEmpty, l2Ways, lookupKey]
  refine ⟨((s.l2Put (s.l2Set x.pline) 0 x).l2Touch (s.l2Set x.pline) 0).caches.l2.used, ?_⟩
  simp only [l2Allocate, M.bind_apply, M.state_apply, hvictim, h, lookupKey, M.update_apply]
  simp [State.l2Put, State.l2Touch, State.mapL2, h, insertKey, State.setCaches]

theorem l2Lock_empty (h : s.Lockable mva e a) (hempty : s.caches.l2.lines = []) {free : Nat} {x : L2Line}
    (hbring : bring (lineOf (e.pa mva)) false s = .ok (some x) (s.withFree free)) (hx : x.pline = lineOf (e.pa mva)) :
    ∃ used, l2Lock mva bring s = .ok () { s with
      caches := { s.caches with
        l2 := ⟨[(8 * s.l2Set (lineOf (e.pa mva)), { x with mvas := [mvaLine mva] })], used, s.caches.l2.leaving⟩ }
      run := { s.run with free := free } } := by
  obtain ⟨used, hallocates⟩ := l2Allocate_empty (s := s.withFree free) hempty { x with mvas := [mvaLine mva] }
  refine ⟨used, ?_⟩
  simp only [l2Lock, M.bind_apply, functionEntry_held h, attributes_lockable h, h.outer, h.shared, M.require_true,
    drainFor_direct h.buffer, M.state_apply, l2Find_empty hempty, l2LockedWays_empty hempty, Nat.zero_lt_succ, decide_true,
    l2Seen_empty hempty, Bool.false_eq_true, if_false, hbring]
  rw [← hx]
  exact hallocates

/-- Fetch and Lock reads the line from memory (45 R700). -/
theorem fetchToLock_direct (he : s.ext.busErrors = []) (pline : BitVec 31) : fetchToLock pline false s =
    .ok (some ⟨pline, .exclusive, true, s.mem.readBytes (lineAddr pline) 32, fullMask, [], []⟩) s := by
  simp [fetchToLock, M.bind_apply, busRead_direct he, fillState]

/-- Allocate and Lock reads nothing (45 R701). -/
theorem allocateToLock_apply (s : State) (pline : BitVec 31) (shared : Bool) : ∃ st, (st = .modified ∨ st = .exclusive) ∧
    allocateToLock pline shared s = .ok (some ⟨pline, st, true, 0, 0, [], []⟩) (s.withFree (s.run.free + 1)) := by
  refine ⟨if (s.draw 1).1 = 1 then .modified else .exclusive, ?_, rfl⟩
  split_ifs
  · exact .inl rfl
  · exact .inr rfl

end Lock

end Sys2Proof.Machine

open Sys2Proof Sys2Proof.Machine

/-- Settles O36. Both functions lock a resident line alike (`l2Lock_resident`); into an empty L2 each allocates, at way 0 of the
set, the line that it brings (`l2Lock_empty`): the line's bytes in memory (`fetchToLock_direct`), or none (`allocateToLock_apply`). -/
theorem levelTwoLockFunctions : Obligations.LevelTwoLockFunctions := by
  intro s c rd e a h h15 hp hl2 hon hmmu hbuf hbus hheld hcurrent hs hbit hattr houter hshared l pline set locks
  have hlockable : s.Lockable (s.readReg rd) e a :=
    ⟨hmmu, hbuf, hbus, hheld, hcurrent, hs, hbit, hattr, houter, hshared⟩
  refine ⟨fun way x hfind hroom => ?resident, fun hempty => ⟨?fetch, ?allocate⟩⟩
  case resident =>
    obtain ⟨ext, errlog, hreports, hlock⟩ := l2Lock_resident hlockable hfind hroom
    have hlocks (bring) := systemWrite_l2 h hp h15 hl2 hon (m := (l2Lock · bring)) (hlock bring)
    exact ⟨_, _, ext, errlog, ⟨s.run.free, hlocks fetchToLock⟩, ⟨s.run.free, hlocks allocateToLock⟩, hreports.abort,
      hreports.nothing⟩
  case fetch =>
    obtain ⟨used, hlock⟩ := l2Lock_empty (free := s.run.free) hlockable hempty (fetchToLock_direct hbus pline) rfl
    exact ⟨used, _, s.run.free, systemWrite_l2 h hp h15 hl2 hon (m := (l2Lock · fetchToLock)) hlock⟩
  case allocate =>
    obtain ⟨st, hst, hbring⟩ := allocateToLock_apply s pline false
    obtain ⟨used, hlock⟩ := l2Lock_empty hlockable hempty hbring rfl
    exact ⟨used, _, st, 0, hst, s.run.free + 1, systemWrite_l2 h hp h15 hl2 hon (m := (l2Lock · allocateToLock)) hlock⟩
end

section
/-! # The decoder reads every encoding back (30 sections 3, 6 and 9; 46) -/

namespace Sys2Proof

/-! ## Fields of a word -/

section Fields
variable {v w n : Nat} {a : BitVec v} {b : BitVec w}

@[simp] theorem extractLsb'_cat_low {lo len : Nat} (h : lo + len ≤ w) (hn : lo + len ≤ n) :
    (cat n a b).extractLsb' lo len = b.extractLsb' lo len := by
  apply BitVec.eq_of_getLsbD_eq
  intro i hi
  have inWord : lo + i < n := by omega
  have inLow : lo + i < w := by omega
  simp [cat, BitVec.getLsbD_append, hi, inWord, inLow]

@[simp] theorem extractLsb'_cat_high {lo len : Nat} (h : w ≤ lo) (hn : lo + len ≤ n) :
    (cat n a b).extractLsb' lo len = a.extractLsb' (lo - w) len := by
  apply BitVec.eq_of_getLsbD_eq
  intro i hi
  have inWord : lo + i < n := by omega
  have inHigh : ¬ lo + i < w := by omega
  have place : lo + i - w = lo - w + i := by omega
  simp [cat, BitVec.getLsbD_append, hi, inWord, inHigh, place]

@[simp] theorem getElem_cat_low {i : Nat} (hn : i < n) (h : i < w) : (cat n a b)[i] = b[i] := by
  simp [cat, BitVec.getLsbD_append, ← BitVec.getLsbD_eq_getElem, h, hn]

@[simp] theorem getElem_cat_high {i : Nat} (hn : i < n) (h : w ≤ i) : (cat n a b)[i] = a.getLsbD (i - w) := by
  simp [cat, BitVec.getLsbD_append, ← BitVec.getLsbD_eq_getElem, hn, Nat.not_lt.mpr h]

end Fields

@[simp] theorem Cond.ofBits_bits (c : Cond) : Cond.ofBits c.bits = some c := by cases c <;> rfl

@[simp] theorem ShiftType.ofBits_bits (sh : ShiftType) : ShiftType.ofBits sh.bits = sh := by cases sh <;> rfl

/-! ## ARM words -/

/-- A word whose condition field names a condition (30 R383). -/
@[simp] theorem decodeArm_conditional (c : Cond) (b : BitVec 28) :
    decodeArm (cat 32 c.bits b) = decodeConditional c (cat 32 c.bits b) := by
  rw [decodeArm, extractLsb'_cat_high (by omega) (by omega), BitVec.extractLsb'_eq_self, Cond.ofBits_bits]

/-- A word whose condition field is 1111 (30 R400). -/
theorem decodeArm_unconditional {w : BitVec 32} (h : w.extractLsb' 28 4 = 15) : decodeArm w = decodeUnconditional w := by
  rw [decodeArm, h]; rfl

/-- The row of the core's own registers and functions that the two constant parts of an MCR or MRC word name: bits 27:16, in which
bit 20 tells a read from a write, and bits 11:0 (30 R396, R410). -/
def systemRow (hi lo : BitVec 12) (c : Cond) (rd : Reg) : Option Instr :=
  let key := cpKey (lo.extractLsb' 8 4) (hi.extractLsb' 5 3) (hi.extractLsb' 0 4) (lo.extractLsb' 0 4) (lo.extractLsb' 5 3)
  if hi[4] then mrcRow key c rd else mcrRow key c rd

/-- A word of a register or function of the core, in class 111 and no SWI, with bit 4 set and not of CP0, is its row. -/
theorem decodeArm_systemRow {c : Cond} {rd : Reg} {hi lo : BitVec 12} {i : Instr}
    (hform : hi.extractLsb' 9 3 = 7 ∧ hi[8] = false ∧ lo[4] = true ∧ lo.extractLsb' 8 4 ≠ 0)
    (hrow : systemRow hi lo c rd = some i) :
    decodeArm (cat 32 c.bits (cat 28 hi (cat 16 rd lo))) = .instr i := by
  obtain ⟨hclass, hnoSwi, hregister, hcp⟩ := hform
  cases hread : hi[4] with
  | true =>
    rw [systemRow, hread, if_pos rfl] at hrow
    simp [decodeConditional, decodeClass7, decodeMrc, hclass, hnoSwi, hregister, hread, hrow]
  | false =>
    rw [systemRow, hread, if_neg Bool.false_ne_true] at hrow
    have hnoMia : ¬ lo.extractLsb' 8 4 = 0#4 := hcp
    simp [decodeConditional, decodeClass7, decodeMcr, hclass, hnoSwi, hregister, hread, hrow,
      hnoMia]

/-! ## The fields that tell a row from its neighbours -/

/-- P = 0 with W = 1 is the T form of a word transfer (30 R391). -/
theorem not_userForm {p w : Bool} (h : (p || !w) = true) : ¬ (p = false ∧ w = true) := by
  rintro ⟨rfl, rfl⟩
  cases h

/-- P = U = W = 0 is no LDC and no STC (30 R396). -/
theorem not_pairTransfer {p u w : Bool} (h : (p || u || w) = true) : ¬ (p = false ∧ u = false ∧ w = false) := by
  rintro ⟨rfl, rfl, rfl⟩
  cases h

/-- A transfer of two registers with CP0 is MAR or MRA where these fields are 0 (30 R398). -/
theorem not_accumulatorTransfer {cp opc crm : BitVec 4} (h : (!(cp == 0 && opc == 0 && !crm.getLsbD 3)) = true) :
    ¬ (cp = 0#4 ∧ opc = 0#4 ∧ crm[3] = false) := by
  rintro ⟨rfl, rfl, hacc⟩
  rw [BitVec.getLsbD_eq_getElem (by omega), hacc] at h
  cases h

/-- An MCR of CP0 is a multiply-accumulate where these fields say so (30 R397). -/
theorem not_multiplyAccumulate {cp crn : BitVec 4} {opc1 : BitVec 3} (h : (!(cp == 0 && opc1 == 1 && isMiaOpcode crn)) = true) :
    ¬ (cp = 0#4 ∧ opc1 = 1#3 ∧ isMiaOpcode crn = true) := by
  rintro ⟨rfl, rfl, hmia⟩
  rw [hmia] at h
  cases h

/-! ## The families of ARM instructions -/

/-- A well-formed instruction is one that a word encodes. -/
theorem Instr.WellFormed.isEncodable {i : Instr} (h : i.WellFormed) : i.encodable = true := (Bool.and_eq_true_iff.mp h).1

theorem decode_encode_multiply {i : Instr} (h : i.isMultiply = true) : decode (encode i) = .instr i := by
  cases i <;> cases h
  all_goals show decodeArm (cat 32 _ _) = _
  case mul | mla | umull | umlal | smull | smlal => simp [decodeConditional, decodeClass0, decodeMultiply]
  all_goals simp [decodeConditional, decodeClass0, decodeMisc]

theorem decode_encode_branchOrStatus {i : Instr} (h : i.isBranchOrStatus = true) : decode (encode i) = .instr i := by
  cases i <;> cases h
  all_goals show decodeArm (cat 32 _ _) = _
  case blxImm => rw [decodeArm_unconditional (by simp)]; simp [decodeUnconditional]
  case bkpt => simp [decodeArm, Cond.ofBits, decodeConditional, decodeClass0, decodeMisc]
  case b | bl => simp [decodeConditional, decodeClass5]
  case swi => simp [decodeConditional, decodeClass7]
  case msrImm => simp [decodeConditional, decodeClass1]
  case mrs | msrReg | bx | blxReg => simp [decodeConditional, decodeClass0, decodeMisc]

/-- The operand form of a data-processing instruction is its class, or within class 000 bit 4 (30 R386, R387). -/
theorem decode_encode_dataProcessing (c : Cond) (sf : Bool) (rn rd : Reg) (so : ShifterOperand) :
    ∀ i ∈ [Instr.and c sf rn rd so, .eor c sf rn rd so, .sub c sf rn rd so, .rsb c sf rn rd so, .add c sf rn rd so,
      .adc c sf rn rd so, .sbc c sf rn rd so, .rsc c sf rn rd so, .tst c rn rd so, .teq c rn rd so, .cmp c rn rd so,
      .cmn c rn rd so, .orr c sf rn rd so, .mov c sf rn rd so, .bic c sf rn rd so, .mvn c sf rn rd so],
    decode (encode i) = .instr i := by
  cases so <;> simp only [List.forall_mem_cons, List.not_mem_nil, false_implies, implies_true, and_true]
  case imm =>
    and_intros <;> show decodeArm (cat 32 _ _) = _
    all_goals simp [decodeConditional, decodeClass1, decodeDpImm]
  case shiftImm =>
    and_intros <;> show decodeArm (cat 32 _ _) = _
    all_goals simp [decodeConditional, decodeClass0, decodeDpShiftImm]
  case shiftReg =>
    and_intros <;> show decodeArm (cat 32 _ _) = _
    all_goals simp [decodeConditional, decodeClass0, decodeDpShiftReg]

theorem decode_encode_dataOrTransfer {i : Instr} (hi : i.encodable = true) (h : i.isDataOrTransfer = true) :
    decode (encode i) = .instr i := by
  cases i <;> cases h
  case and c sf rn rd so | eor c sf rn rd so | sub c sf rn rd so | rsb c sf rn rd so | add c sf rn rd so
      | adc c sf rn rd so | sbc c sf rn rd so | rsc c sf rn rd so | orr c sf rn rd so | mov c sf rn rd so
      | bic c sf rn rd so | mvn c sf rn rd so =>
    exact decode_encode_dataProcessing c sf rn rd so _ (by simp)
  case tst c rn rd so | teq c rn rd so | cmp c rn rd so | cmn c rn rd so =>
    exact decode_encode_dataProcessing c true rn rd so _ (by simp)
  case ldr c p u w rn rd off | ldrb c p u w rn rd off | str c p u w rn rd off | strb c p u w rn rd off =>
    cases off <;> have hform := not_userForm hi <;> show decodeArm (cat 32 _ _) = _
    case imm => simp [decodeConditional, decodeClass2, hform]
    case reg => simp [decodeConditional, decodeClass3, hform]
  case ldrt c u rn rd off | ldrbt c u rn rd off | strt c u rn rd off | strbt c u rn rd off =>
    cases off <;> show decodeArm (cat 32 _ _) = _
    case imm => simp [decodeConditional, decodeClass2]
    case reg => simp [decodeConditional, decodeClass3]
  case ldrh c p u w rn rd off | ldrsh c p u w rn rd off | ldrsb c p u w rn rd off | strh c p u w rn rd off
      | ldrd c p u w rn rd off | strd c p u w rn rd off =>
    cases off <;> show decodeArm (cat 32 _ _) = _
    all_goals simp [decodeConditional, decodeClass0, decodeHalfword]
  case pld u rn off =>
    cases off <;> show decodeArm (cat 32 _ _) = _
    all_goals
      rw [decodeArm_unconditional (by simp)]
      simp [decodeUnconditional]
  case swp | swpb =>
    show decodeArm (cat 32 _ _) = _
    simp [decodeConditional, decodeClass0, decodeMultiply]
  case ldm | ldmUser | ldmReturn | stm | stmUser =>
    show decodeArm (cat 32 _ _) = _
    simp [decodeConditional, decodeClass4]

/-- All other ARM instructions; the accesses to registers and functions of the core are rows of `systemRow`. -/
theorem decodeArm_encode_coprocessor {i : Instr} {w : BitVec 32} (hi : i.encodable = true) (e : encode i = .arm w)
    (hm : i.isMultiply = false) (hb : i.isBranchOrStatus = false) (hd : i.isDataOrTransfer = false) :
    decodeArm w = .instr i := by
  cases i <;> cases hm <;> cases hb <;> cases hd
  case tLsl op | tLsr op | tAsr op | tAdd op | tSub op | tCmp op | tLdr _ op | tStr _ op | tStrh _ op | tStrb _ op
      | tLdrh _ op | tLdrb _ op | tUndefined op =>
    cases op <;> cases e
  all_goals cases e
  case mia | miaph | miabb | miabt | miatb | miatt => simp [decodeConditional, decodeClass7, decodeMcr, isMiaOpcode]
  case mar | mra => simp [decodeConditional, decodeClass6]
  case mcrr c rn rd cp opc crm | mrrc c rn rd cp opc crm =>
    simp [decodeConditional, decodeClass6, not_accumulatorTransfer hi]
  case undefinedSpace => simp [decodeConditional, decodeClass3]
  case cdp => simp [decodeConditional, decodeClass7]
  case cdp2 | mcr2 | mrc2 =>
    rw [decodeArm_unconditional (by simp)]
    simp [decodeUnconditional]
  case ldc2 | stc2 =>
    rw [decodeArm_unconditional (by simp)]
    simp [decodeUnconditional, not_pairTransfer hi]
  case ldcP14 | stcP14 => simp [decodeConditional, decodeClass6, not_pairTransfer hi]
  case ldc c p u n w rn crd cp off8 | stc c p u n w rn crd cp off8 =>
    obtain ⟨hmode, hcp⟩ := Bool.and_eq_true_iff.mp hi
    have hother : ¬ cp = 14#4 := by simpa using hcp
    simp [decodeConditional, decodeClass6, not_pairTransfer hmode, hother]
  case mrc c opc1 crn rd cp opc2 crm =>
    have hrow : mrcRow (cpKey cp opc1 crn crm opc2) c rd = none := Option.isNone_iff_eq_none.mp hi
    simp [decodeConditional, decodeClass7, decodeMrc, hrow]
  case mcr c opc1 crn rd cp opc2 crm =>
    obtain ⟨hmia, hnone⟩ := Bool.and_eq_true_iff.mp hi
    have hrow : mcrRow (cpKey cp opc1 crn crm opc2) c rd = none := Option.isNone_iff_eq_none.mp hnone
    simp [decodeConditional, decodeClass7, decodeMcr, hrow, if_neg (not_multiplyAccumulate hmia)]
  all_goals exact decodeArm_systemRow (by decide) rfl

/-! ## Thumb halfwords -/

theorem decodeThumb_encode {i : Instr} {h : BitVec 16} (hi : i.encodable = true) (e : encode i = .thumb h) :
    decodeThumb h = .instr i := by
  cases i
  case and c sf rn rd so | eor c sf rn rd so | sub c sf rn rd so | rsb c sf rn rd so | add c sf rn rd so
      | adc c sf rn rd so | sbc c sf rn rd so | rsc c sf rn rd so | tst c rn rd so | teq c rn rd so | cmp c rn rd so
      | cmn c rn rd so | orr c sf rn rd so | mov c sf rn rd so | bic c sf rn rd so | mvn c sf rn rd so =>
    cases so <;> cases e
  case ldr c p u w rn rd off | ldrb c p u w rn rd off | str c p u w rn rd off | strb c p u w rn rd off
      | ldrt c u rn rd off | ldrbt c u rn rd off | strt c u rn rd off | strbt c u rn rd off | ldrh c p u w rn rd off
      | ldrsh c p u w rn rd off | ldrsb c p u w rn rd off | strh c p u w rn rd off | ldrd c p u w rn rd off
      | strd c p u w rn rd off | pld u rn off =>
    cases off <;> cases e
  case tLsl op | tLsr op | tAsr op =>
    cases op <;> cases e
    case imm => simp [decodeThumb, decodeThumbAddSub]
    case reg => simp [decodeThumb, decodeThumbDp]
  case tAdd op | tSub op => cases op <;> cases e <;> simp [decodeThumb, decodeThumbAddSub]
  case tCmp op =>
    cases op <;> cases e
    case imm8 => simp [decodeThumb]
    case reg => simp [decodeThumb, decodeThumbDp]
  case tLdr _ op | tStr _ op | tStrh _ op | tStrb _ op | tLdrh _ op | tLdrb _ op =>
    cases op <;> cases e <;> simp [decodeThumb, decodeThumbRegOffset]
  case tUndefined op =>
    cases op <;> cases e
    case perm => simp [decodeThumb, decodeThumbCond, Cond.ofBits]
    case blxOdd => simp [decodeThumb]
    all_goals simp [decodeThumb, decodeThumbMisc]
  all_goals cases e
  case tBCond c imm8 =>
    have hcond : ¬ c = .al := by simpa using bne_iff_ne.mp hi
    simp [decodeThumb, decodeThumbCond, hcond]
  case tSwi => simp [decodeThumb, decodeThumbCond, Cond.ofBits]
  case tAddHi | tCmpHi | tMovHi | tBx | tBlxReg => simp [decodeThumb, decodeThumbHigh]
  case tLdrsbReg | tLdrshReg => simp [decodeThumb, decodeThumbRegOffset]
  case tIncSp | tDecSp | tPush | tPop | tBkpt => simp [decodeThumb, decodeThumbMisc]
  case tMovImm8 | tAddPc | tAddSp | tStmia | tLdmia | tB | tBlxSuffix | tBlPrefix | tBlSuffix => simp [decodeThumb]
  all_goals simp [decodeThumb, decodeThumbDp]

end Sys2Proof

open Sys2Proof Sys2Proof.Machine

/-- Settles O50: each word goes to its class by bits 27:25, and there to its row (`decode_encode_multiply` and the other). -/
theorem armRoundTrip : Obligations.ArmRoundTrip :=
  ⟨fun _ _ h => decode_encode_multiply h, fun _ _ h => decode_encode_branchOrStatus h⟩

/-- Settles O51: what is encodable keeps LDR and STR apart from their User-mode forms (`not_userForm`). -/
theorem dataAndTransferRoundTrip : Obligations.DataAndTransferRoundTrip :=
  fun _ hwf h => decode_encode_dataOrTransfer hwf.isEncodable h

/-- Settles O52: the core's registers and functions by one table (`decodeArm_systemRow`); the generic forms are encodable
just where they are none of its rows. -/
theorem coprocessorAndSystemRoundTrip : Obligations.CoprocessorAndSystemRoundTrip :=
  fun _ _ hwf e hm hb hd => decodeArm_encode_coprocessor hwf.isEncodable e hm hb hd

/-- Settles O53: each halfword goes to its group by bits 15:12, and there to its row. -/
theorem thumbRoundTrip : Obligations.ThumbRoundTrip :=
  fun _ _ hwf e => decodeThumb_encode hwf.isEncodable e
end

section
/-! # SWI, BKPT and the undefined space; trapped vectors (43 section 3; 60 R824; 61 R892 to R896) -/

namespace Sys2Proof.Machine

/-! ## Instructions that raise an exception -/

section Raise
variable {s : State} {body : M Unit}

/-- SWI is the exception, but refuses in Special Debug State (93 U71). -/
theorem raiseSwi_apply (s : State) :
    raiseSwi s = if s.dbg.sds then .error (.refuse .sdsUndefined) s else .ok () s.softwareInterrupt := by
  cases h : s.dbg.sds <;> simp [raiseSwi, M.bind_apply, h]

theorem finish_raiseSwi_inSds (hs : s.dbg.sds = true) : finish raiseSwi s = .refused .sdsUndefined :=
  finish_refuse (by rw [raiseSwi_apply, if_pos hs])

theorem finish_raiseSwi (hs : s.dbg.sds = false) : finish raiseSwi s = .next s.softwareInterrupt :=
  finish_ok (by rw [raiseSwi_apply, if_neg (ne_true_of_eq_false hs)])

/-- SWI with no debug: refused in Special Debug State, else the entry to Supervisor mode. -/
theorem finish_raiseSwi_entered (hge : s.dbg.dcsr.ge = false) {o : Outcome} {link : Word} (hlink : s.pc + s.size = link)
    (e : o = finish raiseSwi s) : if s.dbg.sds then o = .refused .sdsUndefined
      else ∃ t, o = .next t ∧ s.Entered t modeSvc 2 link 0x08 false := by
  subst e hlink
  split
  · next hs => exact finish_raiseSwi_inSds hs
  · next hs =>
    exact ⟨_, finish_raiseSwi (Bool.eq_false_of_not_eq_true hs), takeException_entered s .swi (s.pc + s.size) hge⟩

/-- An instruction that is undefined before it does anything, in either instruction set. -/
theorem finish_undefined_enters (hge : s.dbg.dcsr.ge = false) (hs : s.dbg.sds = false) (e : body s = .error .undefined s) :
    ∃ t, finish body s = .next t ∧ s.Entered t modeUnd 4 (s.pc + s.size) 0x04 false :=
  ⟨_, finish_undefined e hs, takeException_entered s .undefined (s.pc + s.size) hge⟩

theorem size_thumb (h : s.RunsThumb) : s.size = 2 := if_pos h.thumb

/-- A coprocessor that the product has not, or that CPAR denies, is absent. -/
theorem coprocAbsent_of {cp : BitVec 4}
    (h : cp = 0 ∨ s.cfg.coprocessors.getLsbD cp.toNat = false ∨ s.cp15.cpar.getLsbD cp.toNat = false) :
    s.CoprocAbsent cp := by
  rcases h with h | h
  · exact coprocAbsent_core (.inl h)
  · exact coprocAbsent_of_bits (Bool.and_eq_false_iff.mpr h)

/-- CDP2, MCR2 and MRC2 of CP7 and of a coprocessor that is absent or denied (43 R630). -/
theorem secondAccess_absent {cp : BitVec 4} (h : cp = 7 ∨ s.CoprocAbsent cp) : secondAccess cp s = .error .undefined s := by
  by_cases h7 : cp = 7
  · subst h7; rfl
  · exact (M.bind_ok _ (by rw [bne_iff_ne.mpr h7]; rfl)).trans (asspAccess_absent (h.resolve_left h7))

end Raise

/-! ## Debug exceptions -/

section DebugExceptions
variable (s : State)

/-- What a debug exception notes in the debug unit (61 R892, R893). -/
def Debug.entered (d : Debug) (moe : BitVec 3) : Debug :=
  { d with dcsr := { d.dcsr with e := false, moe := moe }, jtagBreak := false, tbFull := false }

/-- The entry to DEBUG mode in Halt Mode (61 R893). -/
theorem debugEntryHalt_eq (h : s.dbg.dcsr.h = true) (moe : BitVec 3) (link : Word) : s.debugEntryHalt moe link = { s with
    regs := s.regs.set (bankedRegister s.cfg.debugBanksR13 modeDbg 14) link
    pc := 0
    cpsr := { s.cpsr with m := modeDbg, t := false, i := true, f := true }
    spsr := s.spsr.set 5 s.cpsr
    dbg := { s.dbg.entered moe with sds := true, fromSram := true }
    run := { s.run with flow := .exception, userTransfer := 0 } } := by
  have hh : (s.debugEvent moe).dbg.dcsr.h = true := h
  rw [State.debugEntryHalt, if_pos hh, enterMode_eq _ modeDbg 5 (by decide)]
  simp only [Bool.or_true]
  rfl

/-- The entry to Abort mode in Monitor Mode (61 R892). -/
theorem debugEntryMonitor_eq (moe : BitVec 3) (link : Word) : ∃ fsr run, fsr.d = true ∧
    s.debugEntryMonitor moe link true = { s with
      regs := s.regs.set (bankedRegister s.cfg.debugBanksR13 modeAbt 14) link
      pc := s.vectorBase + 0x0C
      cpsr := { s.cpsr with m := modeAbt, t := false, i := true }
      spsr := s.spsr.set 3 s.cpsr
      cp15 := { s.cp15 with fsr := fsr }
      dbg := s.dbg.entered moe
      run := run } := by
  rw [State.debugEntryMonitor, enterMode_eq _ modeAbt 3 (by decide)]
  simp only [Bool.or_false]
  exact ⟨_, _, rfl, rfl⟩

/-- BKPT with debug disabled, or in Special Debug State. -/
theorem breakpointBody_ignored (h : s.dbg.dcsr.ge = false ∨ s.dbg.sds = true) : breakpointBody s = .ok () s.advance := by
  have hoff : (s.dbg.dcsr.ge && !s.dbg.sds) = false := by rcases h with h | h <;> simp [h]
  simp only [breakpointBody, M.bind_apply, M.state_apply, hoff, Bool.false_eq_true, if_false, next_apply]

theorem breakpointBody_taken (h : ¬ (s.dbg.dcsr.ge = false ∨ s.dbg.sds = true)) :
    breakpointBody s = .ok () (s.debugEntry 0b011 (s.pc + 4) true) := by
  have hon : (s.dbg.dcsr.ge && !s.dbg.sds) = true := by simpa [not_or] using h
  simp only [breakpointBody, M.bind_apply, M.state_apply, hon, if_true, M.update_apply]

/-- The message of an exception is written to the trace buffer, which may then be full. -/
theorem traceException_changes (vector : BitVec 3) (count : BitVec 4) : ∃ trace full,
    s.traceException vector count = { s with trace := trace, dbg := { s.dbg with tbFull := full } } := by
  unfold State.traceException State.traceWrite
  split
  · dsimp only
    split
    · exact ⟨_, _, rfl⟩
    · exact ⟨_, _, rfl⟩
  · exact ⟨_, _, rfl⟩

/-- An exception other than FIQ and data abort whose vector is trapped (61 R896): its own entry, and at once that of DEBUG
mode. -/
theorem takeException_trapped (x : Exc) (hx : x ≠ .dataAbort) (hfiq : x ≠ .fiq) (link : Word) (hge : s.dbg.dcsr.ge = true)
    (hh : s.dbg.dcsr.h = true) (hs : s.dbg.sds = false) (htrap : x.trapped s.dbg.dcsr = true) :
    ∃ trace run, s.takeException x link = { s with
      regs := (s.regs.set (bankedRegister s.cfg.debugBanksR13 x.mode 14) link).set
        (bankedRegister s.cfg.debugBanksR13 modeDbg 14) (s.vectorAddress x + 4)
      pc := 0
      cpsr := { s.cpsr with m := modeDbg, t := false, i := true, f := true }
      spsr := (s.spsr.set x.saved s.cpsr).set 5 { s.cpsr with m := x.mode, t := false, i := true }
      dbg := { s.dbg.entered 0b101 with sds := true, fromSram := true }
      trace := trace
      run := run } := by
  obtain ⟨trace, full, htrace⟩ := traceException_changes s x.vector s.trace.count
  have htaken : (s.dbg.dcsr.h && s.dbg.dcsr.ge && !s.dbg.sds && x.trapped s.dbg.dcsr) = true := by simp [hge, hh, hs, htrap]
  rw [State.takeException, if_neg hx, htrace, enterMode_eq _ x.mode x.saved x.saved_spec, if_pos htaken, debugEntryHalt_eq]
  · simp only [beq_false_of_ne hfiq, Bool.or_false]
    exact ⟨_, _, rfl⟩
  · exact hh

end DebugExceptions

end Sys2Proof.Machine

open Sys2Proof Sys2Proof.Machine

/-- Settles O20. SWI is `raiseSwi` in both instruction sets; the rest is undefined before it does anything
(`finish_undefined_enters`), the coprocessor forms at their access. -/
theorem exceptionInstructionEntry : Obligations.ExceptionInstructionEntry := by
  refine ⟨fun s c imm24 imm8 hge => ⟨fun h => ?arm, fun h => ?thumb⟩, ?undefined⟩
  case arm => exact finish_raiseSwi_entered hge (congrArg _ (size_eq_four h)) (runIf_holds _ h.holds)
  case thumb => exact finish_raiseSwi_entered hge (congrArg _ (size_thumb h)) rfl
  case undefined =>
    intro s c any any2 pat p u n w rn rd opc1 opc crn crd crm cp opc2 off8 hge hs undefined
    have hundefined {body : M Unit} := finish_undefined_enters (s := s) (body := body) hge hs
    refine ⟨fun hc => ?_, hundefined rfl, fun h => ?_,
      fun h => hundefined (foreignStore_absent (coprocAbsent_of h) p u w rn off8)⟩
    · obtain ⟨t, e, hentered⟩ := hundefined (body := M.stop .undefined) rfl
      exact ⟨t, (runIf_holds _ hc).trans e, hentered⟩
    · have haccess {rest : Unit → M Unit} := M.bind_error (f := rest) _ (secondAccess_absent (h.imp_right coprocAbsent_of))
      exact ⟨hundefined haccess, hundefined haccess, hundefined haccess⟩

/-- Settles O21: the body either advances (`breakpointBody_ignored`) or enters as the Halt or Monitor Mode does. -/
theorem breakpointResult : Obligations.BreakpointResult := by
  intro s hi lo imm8 i hinstr linked noted
  have hexec : exec i s = finish breakpointBody s := by rcases hinstr with rfl | rfl <;> rfl
  rw [hexec]
  split
  · next hoff => exact finish_ok (breakpointBody_ignored s hoff)
  · next hon =>
    rw [finish_ok (breakpointBody_taken s hon), State.debugEntry]
    split
    · next hh => rw [debugEntryHalt_eq s hh]; rfl
    · next hh =>
      obtain ⟨fsr, run, hd, e⟩ := debugEntryMonitor_eq s 0b011 (s.pc + 4)
      rw [e]
      exact ⟨_, rfl, hd, rfl⟩

/-- Settles O22: both instructions take their exception, and its vector is trapped (`takeException_trapped`). -/
theorem vectorTrapEntersDebug : Obligations.VectorTrapEntersDebug := by
  intro s c imm24 any any2 h hge hh hs base trapped
  have hlink : s.pc + s.size = s.pc + 4 := congrArg _ (size_eq_four h)
  refine ⟨fun hts => ?swi, fun htu => ?undefined⟩
  case swi =>
    obtain ⟨trace, run, e⟩ := takeException_trapped s .swi (by decide) (by decide) (s.pc + s.size) hge hh hs hts
    refine ⟨_, (runIf_holds _ h.holds).trans (finish_raiseSwi hs), ?_⟩
    rw [State.softwareInterrupt, e, hlink]
    exact ⟨rfl, rfl, rfl, rfl, rfl, rfl, rfl⟩
  case undefined =>
    obtain ⟨trace, run, e⟩ := takeException_trapped s .undefined (by decide) (by decide) (s.pc + s.size) hge hh hs htu
    refine ⟨_, (runIf_holds _ h.holds).trans (finish_undefined rfl hs), ?_⟩
    rw [State.undefinedInstruction, e, hlink]
    exact ⟨rfl, rfl, rfl, rfl, rfl, rfl, rfl⟩
end

section
/-! # The state after reset, the end of reset, and interrupts at a boundary (70 sections 1 and 2; 60 section 5) -/

namespace Sys2Proof.Machine

section Boundary
variable {s : State}

/-- The performance monitor, while it is off, counts nothing at the end of an event. -/
theorem afterEvent_pmuOff (hpmu : s.pmu.enable = false) (t : State) : t.afterEvent s = t.endStep := by
  simp [State.afterEvent, runQuiet, pmuRetire, M.bind_apply, hpmu]

/-- With no debug the end of the step of an exception leaves what the exception entered. -/
theorem endStep_entered {t : State} {mode : BitVec 5} {k : Fin 6} {link vector : Word} {setF : Bool}
    (h : s.Entered t mode k link vector setF) : s.Entered t.endStep mode k link vector setF := by
  obtain ⟨hcpsr, hpc, hregs, hsaved, hrest⟩ := h
  refine ⟨hcpsr, hpc, hregs, hsaved, ?_⟩
  rw [hrest]
  rfl

/-- A step that takes an interrupt. -/
theorem step_interrupt (h : s.Quiescent) (hge : s.dbg.dcsr.ge = false) (hpmu : s.pmu.enable = false) (x : Exc) {link : Word}
    (e : s.event false = some (s.takeException x link)) :
    ∃ t, step s = .next t ∧ s.Entered t x.mode x.saved link ((x.vector ++ 0#2).setWidth 32) (x == .fiq) := by
  refine ⟨(s.takeException x link).endStep, ?_, endStep_entered (takeException_entered s x link hge)⟩
  rw [step, boundary_quiescent h, eventsThenFetch, e]
  exact congrArg Host.Outcome.next (afterEvent_pmuOff hpmu _)

/-- At a quiescent boundary outside Special Debug State interrupts are the only events: FIQ first (60 R822). -/
theorem event_quiescent (h : s.Quiescent) (hs : s.dbg.sds = false) : s.event false =
    if s.fiqInput && !s.cpsr.f then some (s.takeException .fiq (s.pc + 4))
    else if s.irqInput && !s.cpsr.i then some (s.takeException .irq (s.pc + 4))
    else none := by
  obtain ⟨hdata, hjtag, hfull, hsoc⟩ := h.noBreak
  have hbreak : s.debugBreak = none := by simp [State.debugBreak, hjtag, hfull, hsoc]
  simp [State.event, hdata, hbreak, hs]

/-- The step in which reset ends. -/
theorem step_leavesReset (henv : s.run.env = []) (hpin : s.ext.resetPin = false) (hhold : s.dbg.holdReset = false)
    (hreset : s.ext.inReset = true) : step s = .next s.leaveReset.endStep := by
  have hkept : s.setRun { s.run with env := [] } = s := by rw [← henv]; rfl
  have hactions : envActions [] s = .ok () s := rfl
  have hheld : s.heldInReset = false := by rw [State.heldInReset, hpin, hhold]; rfl
  simp [step, boundary, henv, splitTick, hkept, hactions, afterActions, hheld, hreset]

end Boundary

end Sys2Proof.Machine

open Sys2Proof Sys2Proof.Machine

/-- Settles O54, field by field; an empty TLB has no entry at any place. -/
theorem resetValues : Obligations.ResetValues := by
  have htlb : ∀ k : Fin 32, Tlb.empty.entries[k] = none := fun k => Vector.getElem_replicate ..
  have htlbs : ∀ t ∈ [State.reset.tlbs.i, State.reset.tlbs.d],
      t.rr = 31 ∧ t.lockptr = 0 ∧ ∀ k : Fin 32, t.entries[k] = none := by
    intro t ht
    have he : t = Tlb.empty := by simpa [State.reset] using ht
    exact he ▸ ⟨rfl, rfl, htlb⟩
  refine ⟨rfl, rfl, rfl, rfl, rfl, rfl, rfl, rfl, rfl, rfl, rfl, rfl, rfl, rfl, rfl, rfl, rfl, rfl, rfl, rfl, rfl, rfl, rfl,
    rfl, rfl, rfl, rfl, rfl, rfl, rfl, rfl, rfl, htlbs, rfl⟩

/-- Settles O56. -/
theorem resetHasInvariant : Obligations.ResetHasInvariant := by
  refine ⟨by decide, by decide, ?_⟩
  unfold State.pcAligned
  decide

/-- Settles O55: the step is `leaveReset` (`step_leavesReset`); with the reset vector trapped it ends in the
entry to DEBUG mode. -/
theorem resetEntry : Obligations.ResetEntry := by
  intro s henv hpin hhold hreset
  refine ⟨_, step_leavesReset henv hpin hhold hreset, ?_⟩
  cases htrap : s.dbg.dcsr.h && s.dbg.dcsr.tr with
  | true =>
    obtain ⟨hh, htr⟩ := Bool.and_eq_true_iff.mp htrap
    rw [State.leaveReset, if_pos htrap, debugEntryHalt_eq _ (by exact hh)]
    exact ⟨rfl, rfl, rfl, rfl, rfl, rfl, rfl, rfl, rfl, rfl, rfl, rfl, rfl, rfl, rfl, rfl, rfl, rfl,
      Vector.getElem_set_self _⟩
  | false =>
    rw [State.leaveReset, if_neg (ne_true_of_eq_false htrap)]
    exact ⟨rfl, rfl, rfl, rfl, rfl, rfl, rfl, rfl, rfl, rfl, rfl, rfl, rfl, rfl, rfl, rfl, rfl⟩

/-- Settles O58: an interrupt that is not masked is the event of the boundary (`event_quiescent`). -/
theorem interruptEntry : Obligations.InterruptEntry := by
  intro s h hs hge hpmu
  refine ⟨fun hin hmask => step_interrupt h hge hpmu .fiq ?_,
    fun hin hmask hnoFiq => step_interrupt h hge hpmu .irq ?_⟩
  · rw [event_quiescent h hs, hin, hmask]; rfl
  · have hfiq : (s.fiqInput && !s.cpsr.f) = false := by rcases hnoFiq with k | k <;> simp [k]
    rw [event_quiescent h hs, hfiq, hin, hmask]; rfl
end

section
/-! # MCR of the Control Registers, the breakpoint registers, CP14 and CP7 (11 sections 3 and 8; 12 sections 2 to 5) -/

namespace Sys2Proof.Machine

/-! ## Checked writes -/

section Checked
variable {α : Type} {s : State} {v : Word}

theorem require_then (b : Bool) (r : Refusal) (m : M α) (s : State) :
    (do M.require b r; m : M α) s = if b = true then m s else .error (.refuse r) s := by
  cases b <;> rfl

theorem zeroBits_then (v mask : Word) (m : M α) (s : State) :
    (do zeroBits v mask; m : M α) s = if v &&& mask = 0 then m s else .error (.refuse .reservedBitWritten) s := by
  simp only [zeroBits, require_then, beq_iff_eq]

/-- The bits above the low `k` ones are zero just in the numbers below `2 ^ k`. -/
theorem and_high_eq_zero_iff {k : Nat} {high : Word} (hhigh : high = BitVec.allOnes 32 <<< k) :
    v &&& high = 0 ↔ v.toNat < 2 ^ k := by
  subst hhigh
  constructor
  · intro hzero
    refine Nat.lt_pow_two_of_testBit _ fun i hi => ?_
    have hbit := congrArg (BitVec.getLsbD · i) hzero
    by_cases hw : i < 32
    · have hset : (BitVec.allOnes 32 <<< k).getLsbD i = true := by
        rw [BitVec.getLsbD_shiftLeft, BitVec.getLsbD_allOnes]
        simp only [Bool.and_eq_true, Bool.not_eq_true', decide_eq_true_eq, decide_eq_false_iff_not]
        omega
      rw [BitVec.getLsbD_and, hset, Bool.and_true] at hbit
      exact hbit.trans BitVec.getLsbD_zero
    · exact BitVec.getLsbD_of_ge v i (Nat.le_of_not_lt hw)
  · intro hlt
    apply BitVec.eq_of_getLsbD_eq
    intro i hi
    by_cases hk : i < k
    · simp [hk]
    · have hbit : v.getLsbD i = false :=
        Nat.testBit_lt_two_pow (hlt.trans_le (Nat.pow_le_pow_right (by omega) (by omega)))
      simp [hbit]

end Checked

/-! ## The Control and Auxiliary Control Registers -/

section Control
variable (s : State) (v : Word)

/-- The checks of a write of the Control Register, in order (11 R81 to R83; 93 U21, U22, U23, U56). -/
theorem writeControl_apply : writeControl v s =
    if v &&& 0xFBFF0000 = 0 then
      if s.cp15.ctrl.l2 = v.getLsbD 26 ∨ (v.getLsbD 26 = true ∧ s.cp15.ctrl.mmu = false ∧ s.cp15.mmuUsed = false) then
        if EndianSupport.allows s.cfg.endian (v.getLsbD 7) = true then
          if v.getLsbD 2 = true → v.getLsbD 0 = true then
            .ok () (s.setCp15 { s.cp15 with ctrl := Ctrl.ofWord v, mmuUsed := s.cp15.mmuUsed || v.getLsbD 0 })
          else .error (.refuse .dcacheWithoutMmu) s
        else .error (.refuse .endianUnsupported) s
      else .error (.refuse .l2EnableChanged) s
    else .error (.refuse .reservedBitWritten) s := by
  rw [writeControl, zeroBits_then, M.bind_ok _ (M.state_apply s)]
  simp only [require_then, M.update_apply, Bool.or_eq_true, Bool.and_eq_true, Bool.not_eq_true', beq_iff_eq, Ctrl.ofWord,
    State.mapCp15_eq, ← Bool.not_eq_true, not_or, imp_iff_not_or]

theorem writeAuxControl_apply : writeAuxControl v s =
    if v &&& 0xFFFFF3CD = 0 then
      if (v.extractLsb' 10 2 = s.cp15.auxOC ∧ v.extractLsb' 4 2 = s.cp15.auxIC) ∨
          (s.caches.d.lines = [] ∧ s.caches.l2.lines = []) then
        .ok () (s.setCp15 { s.cp15 with auxOC := v.extractLsb' 10 2, auxIC := v.extractLsb' 4 2, auxP := v.getLsbD 1 })
      else .error (.refuse .llrChangedWithLines) s
    else .error (.refuse .reservedBitWritten) s := by
  rw [writeAuxControl, zeroBits_then, M.bind_ok _ (M.state_apply s)]
  simp only [require_then, M.update_apply, Bool.or_eq_true, Bool.and_eq_true, beq_iff_eq, List.isEmpty_iff, State.mapCp15_eq]

/-- The byte orders of a product (11 R82). -/
theorem allows_iff (e : EndianSupport) (big : Bool) : EndianSupport.allows e big = true ↔ match e with
    | .little => big = false
    | .big => big = true
    | .both => True := by
  cases e <;> simp [EndianSupport.allows]

theorem breakpointEnable_then {α : Type} (m : M α) : (do breakpointEnable v; m : M α) s =
    if (!v.getLsbD 0 || s.dbg.dcsr.ge) = true then m s else .error (.refuse .breakpointWithoutGe) s :=
  require_then _ _ m s

theorem writeDbr0_apply : writeDbr0 v s =
    if (s.cp15.dbcon.e0 == 0) = true then .ok () (s.setCp15 { s.cp15 with dbr0 := v })
    else .error (.refuse .dbrWrittenEnabled) s := by
  rw [writeDbr0, M.bind_ok _ (M.state_apply s), require_then]
  simp only [Dbcon.enabled0, bne, Bool.not_not, M.update_apply, State.mapCp15_eq]

/-- With the mask bit DBR1 counts as enabled while DBR0 is (11 R126, log 43). -/
theorem writeDbr1_apply : writeDbr1 v s =
    if (if s.cp15.dbcon.mask then s.cp15.dbcon.e0 == 0 else s.cp15.dbcon.e1 == 0) = true
    then .ok () (s.setCp15 { s.cp15 with dbr1 := v })
    else .error (.refuse .dbrWrittenEnabled) s := by
  rw [writeDbr1, M.bind_ok _ (M.state_apply s), require_then]
  cases hmask : s.cp15.dbcon.mask <;>
    simp only [Dbcon.enabled1, hmask, bne, Bool.not_not, M.update_apply, State.mapCp15_eq, if_true, Bool.false_eq_true, if_false]

theorem writeDbcon_apply : writeDbcon v s =
    if (v &&& 0xFFFFFEF0 == 0) = true
    then .ok () (s.setCp15 { s.cp15 with dbcon := ⟨v.getLsbD 8, v.extractLsb' 2 2, v.extractLsb' 0 2⟩ })
    else .error (.refuse .reservedBitWritten) s := by
  rw [writeDbcon, zeroBits_then]
  simp only [beq_iff_eq, M.update_apply, State.mapCp15_eq]

end Control

section Writes
variable {s : State} {c : Cond} {rd : Reg}

/-- An allowed MCR whose effect completes, as an update of one field of the state or several. -/
theorem systemWrite_next (h : s.RunsArm c) (hp : s.privileged = true) (h15 : rd ≠ 15) {effect : Word → M Unit} {t : State}
    (e : effect (s.readReg rd) s = .ok () t) (hsize : t.size = s.size) :
    systemWrite c rd effect s = .next { t with pc := t.pc + 4 } := by
  rw [systemWrite_runs h hp h15 e, ← size_eq_four h, ← hsize]
  rfl

/-- A write of a breakpoint register that must not take place where `usable` fails (61 R895; 93 U73, U74). -/
theorem systemWrite_breakpoint (h : s.RunsArm c) (hp : s.privileged = true) (h15 : rd ≠ 15) {body : Word → M Unit}
    {usable : Bool} {after : Cp15} {r : Refusal}
    (e : body (s.readReg rd) s = if usable = true then .ok () (s.setCp15 after) else .error (.refuse r) s) :
    systemWrite c rd (fun v => breakpointWrite (body v)) s =
      if s.dbg.dcsr.h = true ∧ s.dbg.sds = false then .next { s with pc := s.pc + 4 }
      else if usable = true then .next { s with cp15 := after, pc := s.pc + 4 }
      else .refused r := by
  split
  · next hlocked => exact systemWrite_next h hp h15 (breakpointWrite_locked hlocked.1 hlocked.2 _) rfl
  · next hopen =>
    have hout : s.dbg.dcsr.h = false ∨ s.dbg.sds = true := by
      by_contra hnot
      exact hopen (by simpa [not_or] using hnot)
    have hwrite := (breakpointWrite_open hout (body (s.readReg rd))).trans e
    split
    · next husable =>
      exact systemWrite_next h hp h15 (effect := fun v => breakpointWrite (body v)) (t := s.setCp15 after)
        (hwrite.trans (if_pos husable)) rfl
    · next hrefused => exact systemWrite_refused h hp h15 (hwrite.trans (if_neg hrefused))

end Writes

end Sys2Proof.Machine

open Sys2Proof Sys2Proof.Machine

/-- Settles O30: each register is written by a check and an update of CP15 (`systemWrite_breakpoint`). -/
theorem breakpointRegisterWrite : Obligations.BreakpointRegisterWrite := by
  intro s c rd h hp h15 v k e writes
  have hibr0 := systemWrite_breakpoint h hp h15
    (body := fun v => do breakpointEnable v; M.update (·.mapCp15 ({ · with ibr0 := v }))) (breakpointEnable_then s _ _)
  have hibr1 := systemWrite_breakpoint h hp h15
    (body := fun v => do breakpointEnable v; M.update (·.mapCp15 ({ · with ibr1 := v }))) (breakpointEnable_then s _ _)
  exact ⟨hibr0, hibr1, systemWrite_breakpoint h hp h15 (writeDbr0_apply s _),
    systemWrite_breakpoint h hp h15 (writeDbr1_apply s _), systemWrite_breakpoint h hp h15 (writeDbcon_apply s _)⟩

/-- Settles O29: the outcome is that of `writeControl_apply` or `writeAuxControl_apply`. -/
theorem controlRegisterWrite : Obligations.ControlRegisterWrite := by
  intro s c rd h hp h15 v k new order enable i
  have hcontrol := writeControl_apply s v
  have haux := writeAuxControl_apply s v
  have refused {r : Refusal} (e : writeControl v s = .error (.refuse r) s) : exec i s = .refused r :=
    systemWrite_refused h hp h15 e
  have horder : EndianSupport.allows s.cfg.endian (v.getLsbD 7) = true ↔ order := allows_iff _ _
  refine ⟨fun hv => refused ?_, fun hv he => refused ?_, fun hv he ho => refused ?_, fun hv he ho hc hm => refused ?_,
    fun hv he ho hc => ?_, fun hv => ?_, fun hv => ?_⟩
  · rw [hcontrol, if_neg hv]
  · rw [hcontrol, if_pos hv, if_neg he]
  · rw [hcontrol, if_pos hv, if_pos he, if_neg (mt horder.mp ho)]
  · have hoff : ¬ (v.getLsbD 2 = true → v.getLsbD 0 = true) := fun k => Bool.false_ne_true (hm.symm.trans (k hc))
    rw [hcontrol, if_pos hv, if_pos he, if_pos (horder.mpr ho), if_neg hoff]
  · rw [if_pos hv, if_pos he, if_pos (horder.mpr ho), if_pos hc] at hcontrol
    exact systemWrite_next h hp h15 hcontrol rfl
  · rw [if_neg hv] at haux
    exact systemWrite_refused h hp h15 haux
  · rw [if_pos hv] at haux
    split
    · next hkept => exact systemWrite_next h hp h15 (haux.trans (if_pos hkept)) rfl
    · next hchanged => exact systemWrite_refused h hp h15 (haux.trans (if_neg hchanged))

end

section
/-! # Writes of the performance monitor and of the other CP14 and CP7 registers (12 sections 2 to 5) -/

namespace Sys2Proof.Machine

section Monitor
variable {s : State} {v : Word}

theorem counting_eq_false {m : Pmu} (h : m.enable = false ∨ m.disable = true) : m.counting = false := by
  rcases h with h | h <;> simp [Pmu.counting, h]

/-- With the counters off, P resets them and nothing is scrambled if the new value has them on (12 R141, U31). -/
theorem writePmnc_apply (hv : v &&& 0x00FFFFE0 = 0) (hreset : v.getLsbD 1 = true →
      v.getLsbD 0 = true ∧ v.getLsbD 4 = false ∧ (s.pmu.enable = false ∨ s.pmu.disable = true)) : writePmnc v s =
    .ok () (s.mapPmu fun m => { m with
      enable := v.getLsbD 0
      divide := v.getLsbD 3
      disable := v.getLsbD 4
      ccnt := if v.getLsbD 2 then 0 else m.ccnt
      phase := if v.getLsbD 2 then 0 else m.phase
      pmn := if v.getLsbD 1 then Vector.replicate 4 0 else m.pmn }) := by
  have hquiet : (v.getLsbD 1 && (s.pmu.counting || !(v.getLsbD 0 && !v.getLsbD 4))) = false := by
    cases hbit : v.getLsbD 1
    · rfl
    · obtain ⟨henable, hdisable, hoff⟩ := hreset hbit
      simp only [counting_eq_false hoff, henable, hdisable, Bool.not_false, Bool.and_self, Bool.not_true,
        Bool.or_self, Bool.and_false]
  rw [writePmnc, zeroBits_then, if_pos hv, M.bind_ok _ (M.state_apply s), M.bind_ok _ (M.update_apply (s := s) _), hquiet]
  rfl

theorem writeEvtsel_apply (hoff : s.pmu.counting = false) :
    writeEvtsel v s = .ok () (s.mapPmu ({ · with evtsel := v })) := by
  rw [writeEvtsel, M.bind_ok _ (M.state_apply s), hoff]
  rfl

/-- A checkpoint register takes what is written while the trace buffer is off (12 R160). -/
theorem writeChkpt_apply (hoff : s.tracing = false) (put : Debug → Word → Debug) :
    writeChkpt put v s = .ok () (s.mapDebug fun d => put d v) := by
  rw [writeChkpt, M.bind_ok _ (M.state_apply s), hoff]
  rfl

end Monitor

section LowField
variable {s : State} {c : Cond} {rd : Reg}

/-- An MCR of a register that holds only the low `k` bits: a larger value is refused (93 U21). -/
theorem systemWrite_low (h : s.RunsArm c) (hp : s.privileged = true) (h15 : rd ≠ 15) {effect : Word → M Unit} {k : Nat}
    {high : Word} (hhigh : high = BitVec.allOnes 32 <<< k) {t : State}
    (e : effect (s.readReg rd) s =
      if s.readReg rd &&& high = 0 then .ok () t else .error (.refuse .reservedBitWritten) s) (hsize : t.size = s.size) :
    systemWrite c rd effect s =
      if (s.readReg rd).toNat < 2 ^ k then .next { t with pc := t.pc + 4 } else .refused .reservedBitWritten := by
  simp only [and_high_eq_zero_iff hhigh] at e
  split
  · next hlow => exact systemWrite_next h hp h15 (e.trans (if_pos hlow)) hsize
  · next hlarge => exact systemWrite_refused h hp h15 (e.trans (if_neg hlarge))

end LowField

end Sys2Proof.Machine

open Sys2Proof Sys2Proof.Machine

/-- Settles O39: a register of few bits is `systemWrite_low`, the others update the state without a check
(`systemWrite_next`). -/
theorem debugRegisterWrite : Obligations.DebugRegisterWrite := by
  constructor
  · intro s c rd h hp h15 v m done
    have writes {effect : Word → M Unit} {after : Pmu} (e : effect v s = .ok () { s with pmu := after }) :
        systemWrite c rd effect s = done after :=
      systemWrite_next h hp h15 e rfl
    have hinten := systemWrite_low h hp h15 (effect := writeInten) (k := 5) rfl
      (t := { s with pmu := { m with inten := v.extractLsb' 0 5 } }) (updateMasked_apply ..) rfl
    exact ⟨fun hv hreset => writes (writePmnc_apply hv hreset),
      fun hv => systemWrite_refused h hp h15 ((zeroBits_then ..).trans (if_neg hv)), writes rfl, hinten, writes rfl,
      fun hoff => writes (writeEvtsel_apply (counting_eq_false hoff)), writes rfl, writes rfl, writes rfl, writes rfl⟩
  · intro s c rd h hp h15 v small debug log
    have writes {effect : Word → M Unit} {after : Debug} (e : effect v s = .ok () { s with dbg := after }) :
        systemWrite c rd effect s = debug after :=
      systemWrite_next h hp h15 e rfl
    have clock {effect : Word → M Unit} {after : Clk}
        (e : effect v s = if v &&& 0xFFFFFFF0 = 0 then .ok () { s with clk := after }
          else .error (.refuse .reservedBitWritten) s) : systemWrite c rd effect s = small after :=
      systemWrite_low h hp h15 (k := 4) rfl e rfl
    have logs {effect : Word → M Unit} {after : ErrLog} {k : Nat} (high : Word) (hhigh : high = BitVec.allOnes 32 <<< k)
        (e : effect v s = if v &&& high = 0 then .ok () { s with errlog := after }
          else .error (.refuse .reservedBitWritten) s) :
        systemWrite c rd effect s = log (v.toNat < 2 ^ k) after := by
      simp only [log, decide_eq_true_eq]
      exact systemWrite_low h hp h15 hhigh e rfl
    have hmode : v.toNat % 16 = (v.extractLsb' 0 4).toNat := by rw [BitVec.extractLsb'_toNat]; rfl
    rw [hmode]
    exact ⟨clock (updateMasked_apply ..), clock (updateMasked_apply ..), writes rfl,
      fun hv => writes ((updateMasked_apply ..).trans (if_pos (and_reserved_of_low_zero hv))),
      fun hoff => ⟨writes (writeChkpt_apply hoff _), writes (writeChkpt_apply hoff _)⟩,
      logs (k := 8) 0xFFFFFF00 rfl (updateMasked_apply ..),
      systemWrite_next h hp h15 (t := s.setErrlog { s.errlog with adrL := v }) rfl rfl,
      logs (k := 4) 0xFFFFFFF0 rfl (updateMasked_apply ..)⟩

end

section
/-! # Branches (43 R590 to R594; 46 R752, R753, R780, R783, R790, R791) -/

namespace Sys2Proof.Machine

/-! ## Targets as numbers -/

section Targets

/-- Clearing the low `k` bits rounds down to a multiple of `2 ^ k`. -/
theorem and_high_eq_ofNat {k : Nat} {mask : Word} (v : Word) (hmask : mask = BitVec.allOnes 32 <<< k) :
    v &&& mask = BitVec.ofNat 32 (v.toNat / 2 ^ k * 2 ^ k) := by
  subst hmask
  have hround : BitVec.ofNat 32 (v.toNat / 2 ^ k * 2 ^ k) = (v >>> k) <<< k := by
    apply BitVec.eq_of_toNat_eq
    simp only [BitVec.toNat_ofNat, BitVec.toNat_shiftLeft, BitVec.toNat_ushiftRight, Nat.shiftLeft_eq,
      Nat.shiftRight_eq_div_pow]
  rw [hround]
  apply BitVec.eq_of_getLsbD_eq
  intro i hi
  by_cases hk : i < k
  · simp [hk]
  · have hi' : k + (i - k) = i := by omega
    rw [BitVec.getLsbD_and, BitVec.getLsbD_shiftLeft, BitVec.getLsbD_shiftLeft, BitVec.getLsbD_ushiftRight,
      BitVec.getLsbD_allOnes, hi']
    simp [hi, hk, show i - k < 32 by omega]

/-- An unsigned offset in units of `2 ^ k`. -/
theorem shiftLeft_eq_ofNat {w : Nat} (imm : BitVec w) (k : Nat) (hw : w ≤ 32) :
    imm.setWidth 32 <<< k = BitVec.ofNat 32 (2 ^ k * imm.toNat) := by
  apply BitVec.eq_of_toNat_eq
  rw [BitVec.toNat_shiftLeft, BitVec.toNat_setWidth_of_le hw, Nat.shiftLeft_eq, BitVec.toNat_ofNat, Nat.mul_comm]

/-- A signed offset in units of `2 ^ k`. -/
theorem signExtend_shiftLeft {w : Nat} (imm : BitVec w) (k : Nat) :
    imm.signExtend 32 <<< k = BitVec.ofInt 32 (2 ^ k * imm.toInt) := by
  have hunit : BitVec.twoPow 32 k = BitVec.ofInt 32 (2 ^ k) := by
    rw [show (2 ^ k : Int) = ((2 ^ k : Nat) : Int) by push_cast; rfl, BitVec.ofInt_natCast]
    exact BitVec.eq_of_toNat_eq (by rw [BitVec.toNat_twoPow, BitVec.toNat_ofNat])
  rw [BitVec.shiftLeft_eq_mul_twoPow, BitVec.ofInt_mul, BitVec.mul_comm, hunit]
  rfl

/-- The pc with an offset and a signed immediate in units of `2 ^ k`. -/
theorem relative_eq_ofInt {w : Nat} (pc : Word) (n : Nat) (imm : BitVec w) (k : Nat) :
    pc + BitVec.ofNat 32 n + (imm.signExtend 32 <<< k) = BitVec.ofInt 32 (pc.toNat + n + 2 ^ k * imm.toInt) := by
  rw [signExtend_shiftLeft, BitVec.ofInt_add, BitVec.ofInt_add, BitVec.ofInt_natCast, BitVec.ofInt_natCast,
    BitVec.ofNat_toNat, BitVec.setWidth_eq]

theorem hiReg_eq (h : Bool) (r : LowReg) : hiReg h r = BitVec.ofNat 4 (r.toNat + if h then 8 else 0) := by
  revert h r
  decide

end Targets

/-! ## The instructions -/

section Thumb
variable {s t : State}

/-- A Thumb instruction runs its body where its operands are allowed. -/
theorem finish_allowed {ok : Bool} (hok : ok = true) (body : M Unit) : finish (do allowed ok; body) s = finish body s :=
  finish_congr (M.bind_ok s (allowed_true s hok))

/-- Operands that are not allowed refuse (93 U61). -/
theorem finish_not_allowed {ok : Bool} (hok : ok = false) (body : M Unit) :
    finish (do allowed ok; body) s = .refused .operandRestriction := by
  subst hok
  rfl

/-- A body that goes on to the next Thumb instruction. -/
theorem finish_next_thumb (h : s.RunsThumb) {m : M Unit} (e : m s = .ok () t.advance) (hsize : t.size = s.size) :
    finish m s = .next { t with pc := t.pc + 2 } := by
  rw [finish_ok e, ← size_thumb h, ← hsize]
  rfl

/-- A body that ends with the write of a register. -/
theorem finish_setReg_thumb (h : s.RunsThumb) {m : M Unit} {r : Reg} {v : Word} (e : m s = (do setReg r v; next : M Unit) s) :
    finish m s = .next { s with regs := s.regs.set (s.bank r) v, pc := s.pc + 2 } :=
  finish_next_thumb (t := s.writeReg r v) h e rfl

theorem reg_bind (h : s.Ready) (r : Reg) {α : Type} (f : Word → M α) : (reg r >>= f) s = f (s.readReg r) s :=
  M.bind_ok s (reg_ready h r)

end Thumb

section Register
variable {s t : State} {v : Word}

/-- A branch to a register's value: the pc and the T bit, or the refusal of 93 U62. -/
theorem finish_writePcInterworking {m : M Unit} (e : m s = writePcInterworking v t) : finish m s =
    if v.toNat % 4 = 2 then .refused .misalignedPc
    else .next { t with
      pc := BitVec.ofNat 32 (v.toNat / 2 * 2)
      cpsr := { t.cpsr with t := decide (v.toNat % 2 = 1) }
      run := { t.run with flow := .indirect true } } := by
  split
  · next hv => exact finish_refuse (e.trans (writePcInterworking_refuses t hv))
  · next hv =>
    have hbit : v.getLsbD 0 = decide (v.toNat % 2 = 1) := Nat.testBit_zero _
    have hpc : v &&& 0xFFFFFFFE = BitVec.ofNat 32 (v.toNat / 2 * 2) := and_high_eq_ofNat (k := 1) v rfl
    rw [finish_ok (u := ()) (e.trans (writePcInterworking_branches t hv)), hpc, hbit]

end Register

end Sys2Proof.Machine

open Sys2Proof Sys2Proof.Machine

/-- Settles O18. An offset is added as an integer (`relative_eq_ofInt`); a register's value is left to
`finish_writePcInterworking`. -/
theorem branchResult : Obligations.BranchResult := by
  constructor
  · intro s c h imm24 hs target linked
    have htarget : branchTarget s.pc imm24 = BitVec.ofInt 32 target := relative_eq_ofInt s.pc 8 imm24 2
    have hhalf : branchTarget s.pc imm24 + (if h then 2 else 0) = BitVec.ofInt 32 (target + if h then 2 else 0) := by
      rw [BitVec.ofInt_add, htarget]
      cases h <;> rfl
    rw [← hhalf, ← htarget]
    exact ⟨(runBranch_holds _ _ hs.holds).trans (finish_ok (u := ()) rfl),
      (runBranch_holds _ _ hs.holds).trans (finish_ok (u := ()) rfl), finish_ok (u := ()) rfl⟩
  · intro s c rm h2 low done r
    have hr : hiReg h2 low = r := hiReg_eq h2 low
    refine ⟨fun hs => ⟨?bx, ?blx⟩, fun hs => ⟨?tBx, ?tBlx⟩⟩
    case bx => exact (runBranch_holds _ _ hs.holds).trans (finish_writePcInterworking (reg_bind hs.ready rm _))
    case blx =>
      refine (runBranch_holds _ _ hs.holds).trans ?_
      split
      · next h15 => exact finish_not_allowed (by rw [h15]; rfl) _
      · next h15 =>
        exact (finish_allowed (notPc_one h15) _).trans
          (finish_writePcInterworking (t := s.writeReg 14 (s.pc + 4)) (reg_bind hs.ready rm _))
    case tBx =>
      rw [← hr]
      exact finish_writePcInterworking (reg_bind hs.ready _ _)
    case tBlx =>
      rw [← hr]
      split
      · next h15 => exact finish_not_allowed (by rw [h15]; rfl) _
      · next h15 =>
        exact (finish_allowed (notPc_one h15) _).trans
          (finish_writePcInterworking (t := s.writeReg 14 ((s.pc + 2) ||| 1)) (reg_bind hs.ready _ _))

/-- Settles O48. A signed offset is added as an integer (`relative_eq_ofInt`), an unsigned one to R14. -/
theorem thumbBranchResult : Obligations.ThumbBranchResult := by
  intro s c imm8 imm11 imm10 h flow linked
  have hshort {w : Nat} (imm : BitVec w) :
      thumbTarget s.pc (imm.signExtend 32) = BitVec.ofInt 32 (s.pc.toNat + 4 + 2 * imm.toInt) :=
    relative_eq_ofInt s.pc 4 imm 1
  have hupper : s.pc + (4 : Word) + (imm11.signExtend 32 <<< 12) = BitVec.ofInt 32 (s.pc.toNat + 4 + 4096 * imm11.toInt) :=
    relative_eq_ofInt s.pc 4 imm11 12
  have hten : imm10.setWidth 32 <<< 2 = BitVec.ofNat 32 (4 * imm10.toNat) := shiftLeft_eq_ofNat imm10 2 (by decide)
  have heleven : imm11.setWidth 32 <<< 1 = BitVec.ofNat 32 (2 * imm11.toNat) := shiftLeft_eq_ofNat imm11 1 (by decide)
  have hblx (v : Word) : v &&& 0xFFFFFFFC = BitVec.ofNat 32 (v.toNat / 4 * 4) := and_high_eq_ofNat (k := 2) v rfl
  have hbl (v : Word) : v &&& 0xFFFFFFFE = BitVec.ofNat 32 (v.toNat / 2 * 2) := and_high_eq_ofNat (k := 1) v rfl
  rw [← hshort imm8, ← hshort imm11, ← hupper, ← hblx, ← hbl, ← hten, ← heleven]
  have hcall := finish_next_thumb (t := s.writeReg 14 (s.pc + 4 + (imm11.signExtend 32 <<< 12))) h
    (m := do M.update fun s => s.writeReg 14 (s.pc + 4 + (imm11.signExtend 32 <<< 12)); next) rfl rfl
  refine ⟨?conditional, finish_ok (u := ()) rfl, hcall, ?bl, ?blx⟩
  case conditional =>
    split
    · next hc => exact finish_ok (u := ()) ((M.bind_ok s (M.state_apply s)).trans (by rw [if_pos hc]; rfl))
    · next hc =>
      rw [← size_thumb h]
      exact finish_ok (u := ()) ((M.bind_ok s (M.state_apply s)).trans (by rw [if_neg hc]; rfl))
  case bl => exact finish_ok (u := ()) (reg_bind h.ready 14 _)
  case blx => exact finish_ok (u := ()) (reg_bind h.ready 14 _)

end

section
/-! # Thumb data processing (46 sections 2 to 5) -/

namespace Sys2Proof.Machine

section ThumbData
variable {s : State} {op : DpOp} {a b : Word} {k : Bool}

/-- A Thumb operation that writes a low register and the flags. -/
theorem finish_thumbSet (h : s.RunsThumb) {m : M Unit} {rd : Reg} (e : m s = thumbSet op rd a b k s) {r : AluResult}
    (hr : dpResult op s.cpsr a b k = r) : finish m s = .next { s with
      regs := s.regs.set (s.bank rd) r.value
      pc := s.pc + 2
      cpsr := { s.cpsr with n := r.value.getLsbD 31, z := r.value == 0, c := r.carry, v := r.overflow } } := by
  subst hr
  rw [finish_ok (u := ()) e, ← size_thumb h]
  rfl

/-- A Thumb compare or test. -/
theorem finish_thumbFlags (h : s.RunsThumb) {m : M Unit} (e : m s = thumbFlags op a b s) {r : AluResult}
    (hr : dpResult op s.cpsr a b s.cpsr.c = r) : finish m s = .next { s with
      pc := s.pc + 2
      cpsr := { s.cpsr with n := r.value.getLsbD 31, z := r.value == 0, c := r.carry, v := r.overflow } } := by
  subst hr
  rw [finish_ok (u := ()) e, ← size_thumb h]
  rfl

/-- The Thumb multiply: C and V stay (46 R746). -/
theorem finish_multiplyWord_thumb (h : s.RunsThumb) {m : M Unit} {rd : Reg} {v : Word}
    (e : m s = multiplyWord true rd v s) : finish m s = .next { s with
      regs := s.regs.set (s.bank rd) v
      pc := s.pc + 2
      cpsr := { s.cpsr with n := v.getLsbD 31, z := v == 0 } } := by
  rw [finish_ok (u := ()) e, ← size_thumb h]
  rfl

theorem reg_bind_two (h : s.Ready) (r q : Reg) {α : Type} (f : Word → Word → M α) :
    (do let x ← reg r; let y ← reg q; f x y : M α) s = f (s.readReg r) (s.readReg q) s :=
  (reg_bind h r _).trans (reg_bind h q _)

/-- An operation on Rd and Rm; a logical one leaves C. -/
theorem finish_thumbTwo (h : s.RunsThumb) {rm rd : LowReg} {r : AluResult}
    (hr : dpResult op s.cpsr (s.readReg (lowReg rd)) (s.readReg (lowReg rm)) s.cpsr.c = r) :
    finish (thumbTwo op rm rd) s = .next { s with
      regs := s.regs.set (s.bank (lowReg rd)) r.value
      pc := s.pc + 2
      cpsr := { s.cpsr with n := r.value.getLsbD 31, z := r.value == 0, c := r.carry, v := r.overflow } } :=
  finish_thumbSet h ((reg_bind_two h.ready _ _ _).trans (M.bind_ok s (M.state_apply s))) hr

/-- A write of a high register: R15 is a branch in Thumb state. -/
theorem finish_thumbHigh (h : s.RunsThumb) {m : M Unit} {d : Reg} {v : Word} (e : m s = thumbHigh d v s) :
    finish m s = if d = 15 then
        .next { s with pc := BitVec.ofNat 32 (v.toNat / 2 * 2), run := { s.run with flow := .indirect true } }
      else .next { s with regs := s.regs.set (s.bank d) v, pc := s.pc + 2 } := by
  have hpc : v &&& 0xFFFFFFFE = BitVec.ofNat 32 (v.toNat / 2 * 2) := and_high_eq_ofNat (k := 1) v rfl
  unfold thumbHigh at e
  split
  · next hd =>
    rw [← hpc]
    exact finish_ok (u := ()) (e.trans (by rw [if_pos hd]; rfl))
  · next hd => exact finish_setReg_thumb h (e.trans (by rw [if_neg hd]))

end ThumbData

end Sys2Proof.Machine

open Sys2Proof Sys2Proof.Machine

/-- Settles O43. The sums are those of `shiftLeft_eq_ofNat`; a high register is written as `finish_thumbHigh` says. -/
theorem thumbHighAndAddressResult : Obligations.ThumbHighAndAddressResult := by
  intro s rm rd imm8 imm7 h1 h2 h high set done i8 i7
  have h8 : imm8.setWidth 32 <<< 2 = i8 := shiftLeft_eq_ofNat imm8 2 (by decide)
  have h7 : imm7.setWidth 32 <<< 2 = i7 := shiftLeft_eq_ofNat imm7 2 (by decide)
  have hhigh (k : Bool) (x : LowReg) : hiReg k x = high k x := hiReg_eq k x
  have hlow : lowReg rd = high false rd := hiReg_eq false rd
  have hpc : s.pcRead &&& 0xFFFFFFFC = BitVec.ofNat 32 ((s.pc + 4).toNat / 4 * 4) := by
    rw [State.pcRead, h.thumb]
    exact and_high_eq_ofNat (k := 2) (s.pc + 4) rfl
  rw [← hhigh h1, ← hhigh h2, ← hlow, ← hpc, ← h8, ← h7]
  refine ⟨?high, finish_setReg_thumb h rfl, finish_setReg_thumb h (reg_bind h.ready 13 _),
    finish_setReg_thumb h (reg_bind h.ready 13 _), finish_setReg_thumb h (reg_bind h.ready 13 _)⟩
  split
  · next hnone =>
    obtain ⟨rfl, rfl⟩ := hnone
    exact ⟨rfl, rfl⟩
  · next hsome =>
    have hok : (h1 || h2) = true := by
      by_contra hoff
      exact hsome (by simpa using hoff)
    exact ⟨(finish_allowed hok _).trans (finish_thumbHigh h (reg_bind_two h.ready _ _ _)),
      (finish_allowed hok _).trans (finish_thumbHigh h (reg_bind h.ready _ _))⟩

/-- Settles O42. Each instruction reads its operands and ends in `thumbSet` or `thumbFlags`; the operations differ in
`dpResult` and the shifter alone. -/
theorem thumbDataProcessingResult : Obligations.ThumbDataProcessingResult := by
  refine ⟨?logical, ?arithmetic, ?compare⟩
  case logical =>
    intro s rm rd imm5 imm8 h r x m k done byReg
    have two (op : DpOp) {v : Word} (hr : dpResult op s.cpsr x m k = ⟨v, k, s.cpsr.v⟩) :
        finish (thumbTwo op rm rd) s = done (v, k) := finish_thumbTwo h hr
    have moves {b : M Unit} {o : Word × Bool} (e : b s = thumbSet .mov (r rd) 0 o.1 o.2 s) : finish b s = done o :=
      finish_thumbSet h e rfl
    have himm := moves (b := do let s ← M.state; thumbSet .mov (r rd) 0 (imm8.setWidth 32) s.cpsr.c)
      (o := (imm8.setWidth 32, k)) (M.bind_ok s (M.state_apply s))
    have hmul := finish_multiplyWord_thumb h (reg_bind_two h.ready (r rm) (r rd) fun m x => multiplyWord true (r rd) (m * x))
    rw [mul_eq_ofNat] at hmul
    exact ⟨two .and rfl, two .eor rfl, two .orr rfl, two .bic rfl, two .mvn rfl, himm, hmul,
      moves (reg_bind h.ready _ _), moves (reg_bind h.ready _ _), moves (reg_bind h.ready _ _),
      moves (reg_bind_two h.ready _ _ _), moves (reg_bind_two h.ready _ _ _), moves (reg_bind_two h.ready _ _ _),
      moves (reg_bind_two h.ready _ _ _)⟩
  case arithmetic =>
    intro s rm rn rd imm3 imm8 h r a i3 i8
    have hone := reg_bind h.ready (α := Unit)
    have htwo := reg_bind_two h.ready (α := Unit)
    exact ⟨finish_thumbSet h (htwo _ _ _) rfl, finish_thumbSet h (hone _ _) rfl, finish_thumbSet h (hone _ _) rfl,
      finish_thumbSet h (htwo _ _ _) rfl, finish_thumbSet h (hone _ _) rfl, finish_thumbSet h (hone _ _) rfl,
      finish_thumbTwo h rfl, finish_thumbTwo h rfl, finish_thumbSet h (hone _ _) rfl⟩
  case compare =>
    intro s rm rn imm8 h1 h2 h high r flags
    have hhigh (k : Bool) (x : LowReg) : hiReg k x = high k x := hiReg_eq k x
    have hlow (x : LowReg) : lowReg x = high false x := hiReg_eq false x
    have hrr (x : LowReg) : s.readReg (lowReg x) = r x := congrArg _ (hlow x)
    rw [← hhigh h1, ← hhigh h2, ← hrr, ← hrr]
    have htwo := reg_bind_two h.ready (α := Unit)
    have two (op : DpOp) {a : AluResult}
        (ha : dpResult op s.cpsr (s.readReg (lowReg rn)) (s.readReg (lowReg rm)) s.cpsr.c = a) :=
      finish_thumbFlags h (htwo (lowReg rn) (lowReg rm) (thumbFlags op)) ha
    have himm := finish_thumbFlags (op := .cmp) h
      (reg_bind h.ready (lowReg rn) (thumbFlags .cmp · (imm8.setWidth 32))) rfl
    have htst := two .tst rfl
    refine ⟨htst, himm, two .cmp rfl, two .cmn rfl, ?_⟩
    have hok : ((h1 || h2) && notPc [hiReg h1 rn]) = true ↔ ¬ ((h1 = false ∧ h2 = false) ∨ hiReg h1 rn = 15) := by
      simp [notPc, or_iff_not_imp_left]
    split
    · next hbad => exact finish_not_allowed (eq_false_of_ne_true fun k => hok.mp k hbad) _
    · next hgood => exact (finish_allowed (hok.mpr hgood) _).trans (finish_thumbFlags h (htwo _ _ _) rfl)

end

section
/-! # Thumb single loads and stores, straight to memory (46 section 6) -/

namespace Sys2Proof.Machine

/-! ## Addresses -/

section Addresses
variable {s : State} (h : s.RunsThumb)
include h

/-- The pc as a base: word aligned (46 R742). -/
theorem thumbPcBase_ready : thumbPcBase s = .ok (BitVec.ofNat 32 ((s.pc + 4).toNat / 4 * 4)) s := by
  have hpc : s.pcRead &&& 0xFFFFFFFC = BitVec.ofNat 32 ((s.pc + 4).toNat / 4 * 4) := by
    rw [State.pcRead, h.thumb]
    exact and_high_eq_ofNat (k := 2) (s.pc + 4) rfl
  rw [← hpc]
  rfl

theorem registerSum_ready (rm rn : LowReg) : (do let a ← reg (lowReg rn); let b ← reg (lowReg rm); pure (a + b) : M Word) s =
    .ok (s.readReg (lowReg rn) + s.readReg (lowReg rm)) s :=
  reg_bind_two h.ready _ _ _

/-- A register and an immediate in units of `2 ^ k`. -/
theorem registerOffset_ready {w : Nat} (hw : w ≤ 32) (r : Reg) (imm : BitVec w) (k : Nat) :
    (do let a ← reg r; pure (a + (imm.setWidth 32 <<< k)) : M Word) s =
      .ok (s.readReg r + BitVec.ofNat 32 (2 ^ k * imm.toNat)) s := by
  rw [reg_bind h.ready, shiftLeft_eq_ofNat imm k hw]
  rfl

end Addresses

/-! ## The transfers -/

section Transfers
variable {s : State} {address : M Word} {a : Word} {rd : LowReg}

theorem finish_thumbLoad (h : s.RunsThumb) (ha : address s = .ok a s) {load : Word → Bool → M Word} {v : Word}
    (hload : load a s.userMode s = .ok v s.accessed) : ∃ events, finish (thumbLoad address load rd) s = .next { s with
      regs := s.regs.set (s.bank (0#1 ++ rd)) v
      pc := s.pc + 2
      run := { s.run with events := events } } := by
  have hbody : thumbLoad address load rd s = .ok () (s.accessed.writeReg (lowReg rd) v).advance := by
    rw [thumbLoad, M.bind_ok _ ha, M.bind_ok _ (asUser_apply s), M.bind_ok _ hload]
    rfl
  exact ⟨s.accessed.run.events, finish_next_thumb h hbody rfl⟩

theorem finish_thumbStore (h : s.RunsThumb) (ha : address s = .ok a s) {n : Nat} {pa : Word} {v : BitVec (8 * n)}
    (hv : (s.readReg (lowReg rd)).setWidth (8 * n) = v)
    (hstore : ∃ m : Memory, memWrite a n v s.userMode s = .ok () (s.accessed.setMem m) ∧
      m.wf = true ∧ Stored s.mem m (s.physical pa n) n v) :
    ∃ (m : Memory) (events : List (BitVec 8)), finish (thumbStore address n rd) s = .next { s with
        pc := s.pc + 2, mem := m, run := { s.run with events := events } } ∧
      m.wf = true ∧ Stored s.mem m (s.physical pa n) n v := by
  obtain ⟨m, hwrite, hcanonical, hstored⟩ := hstore
  have hbody : thumbStore address n rd s = .ok () (s.accessed.setMem m).advance := by
    rw [thumbStore, M.bind_ok _ ha, reg_bind h.ready, M.bind_ok _ (asUser_apply s), hv, M.bind_ok _ hwrite]
    rfl
  exact ⟨m, s.accessed.run.events, finish_next_thumb h hbody rfl, hcanonical, hstored⟩

end Transfers

end Sys2Proof.Machine

open Sys2Proof Sys2Proof.Machine

/-- Settles O44. Every form is one `finish_thumbLoad`: the address of the form, the value that the access reads. -/
theorem thumbLoadResult : Obligations.ThumbLoadResult := by
  intro s rm rn rd imm5 imm8 h hd r loads word byte half halfAt scaled by4
  have hsum := registerSum_ready h rm rn
  have hscaled (k : Nat) := registerOffset_ready h (by decide) (lowReg rn) imm5 k
  have hsp := registerOffset_ready h (by decide) 13 imm8 2
  have hpc : thumbLoadAddress (.pc imm8) s = .ok (BitVec.ofNat 32 ((s.pc + 4).toNat / 4 * 4) + by4) s := by
    rw [thumbLoadAddress, M.bind_ok _ (thumbPcBase_ready h), shiftLeft_eq_ofNat imm8 2 (by decide)]
    rfl
  exact ⟨fun ha => finish_thumbLoad h hpc (loadWord_direct hd _ ha),
    fun ha => finish_thumbLoad h hsum (loadWord_direct hd _ ha),
    fun ha => finish_thumbLoad h (hscaled 2) (loadWord_direct hd _ ha),
    fun ha => finish_thumbLoad h hsp (loadWord_direct hd _ ha),
    fun ha => finish_thumbLoad h hsum (loadHalf_direct hd _ ha),
    fun ha => finish_thumbLoad h (hscaled 1) (loadHalf_direct hd _ ha),
    fun ha => finish_thumbLoad h hsum (loadSignedHalf_direct hd _ ha), finish_thumbLoad h hsum (loadByte_direct hd _),
    finish_thumbLoad h (hscaled 0) (loadByte_direct hd _), finish_thumbLoad h hsum (loadSignedByte_direct hd _)⟩

/-- Settles O45. Every form is one `finish_thumbStore`. -/
theorem thumbStoreResult : Obligations.ThumbStoreResult := by
  intro s rm rn rd imm5 imm8 h hd r stores word half scaled
  have hsum := registerSum_ready h rm rn
  have hscaled (k : Nat) := registerOffset_ready h (by decide) (lowReg rn) imm5 k
  have hsp := registerOffset_ready h (by decide) 13 imm8 2
  have hword : (s.readReg (lowReg rd)).setWidth (8 * 4) = r rd := BitVec.setWidth_eq _
  have hbyte {a : Word} : s.Aligned a 1 := Nat.mod_one _
  exact ⟨fun ha => finish_thumbStore h hsum hword (memWrite_word hd ha _ _),
    fun ha => finish_thumbStore h (hscaled 2) hword (memWrite_word hd ha _ _),
    fun ha => finish_thumbStore h hsp hword (memWrite_word hd ha _ _),
    fun ha => finish_thumbStore h hsum rfl (memWrite_aligned hd (by decide) ha _ _),
    fun ha => finish_thumbStore h (hscaled 1) rfl (memWrite_aligned hd (by decide) ha _ _),
    finish_thumbStore h hsum rfl (memWrite_aligned hd (by decide) hbyte _ _),
    finish_thumbStore h (hscaled 0) rfl (memWrite_aligned hd (by decide) hbyte _ _)⟩

end

section
/-! # Thumb multiple transfers: PUSH, POP, STMIA and LDMIA (46 section 7) -/

namespace Sys2Proof.Machine

/-! ## Lists of low registers -/

section LowLists
variable {regs : BitVec 8} {r : Reg}

theorem lowReg_ne_pc (r : LowReg) : lowReg r ≠ 15 := by
  revert r
  decide

theorem lt_of_mem_lowList (h : r ∈ registersOf (0#8 ++ regs)) : r.toNat < 8 := by
  by_contra hlarge
  have hbit := mem_registersOf.mp h
  rw [BitVec.getLsbD_append, if_neg hlarge] at hbit
  simp at hbit

theorem ne_of_mem_lowList (h : r ∈ registersOf (0#8 ++ regs)) {q : Reg} (hq : 8 ≤ q.toNat) : r ≠ q := by
  rintro rfl
  exact absurd (lt_of_mem_lowList h) (Nat.not_lt.mpr hq)

/-- A list that has eight bits more. -/
theorem registersOf_append (high low : BitVec 8) : registersOf (high ++ low) =
    registersOf (0#8 ++ low) ++ ((List.range' 8 8).filter fun i => high.getLsbD (i - 8)).map (BitVec.ofNat 4) := by
  have hsplit : List.range 16 = List.range 8 ++ List.range' 8 8 := rfl
  have hlow (h : BitVec 8) : (List.range 8).filter (fun i => (h ++ low).getLsbD i) = (List.range 8).filter (low.getLsbD ·) := by
    refine List.filter_congr fun i hi => ?_
    rw [BitVec.getLsbD_append, if_pos (List.mem_range.mp hi)]
  have hhigh (h : BitVec 8) : (List.range' 8 8).filter (fun i => (h ++ low).getLsbD i) =
      (List.range' 8 8).filter fun i => h.getLsbD (i - 8) := by
    refine List.filter_congr fun i hi => ?_
    have hi8 : ¬ i < 8 := by
      have := List.mem_range'_1.mp hi
      omega
    rw [BitVec.getLsbD_append, if_neg hi8]
  simp only [registersOf, hsplit, List.filter_append, hlow, hhigh, List.map_append]
  simp

/-- The list of a PUSH, with R14 or without. -/
theorem listWith_r14 (k : Bool) : listWith k 14 regs = registersOf (0#1 ++ BitVec.ofBool k ++ 0#6 ++ regs) := by
  rw [registersOf_append]
  cases k <;> rfl

/-- The list of a POP, with R15 or without. -/
theorem listWith_r15 (k : Bool) : listWith k 15 regs = registersOf (BitVec.ofBool k ++ 0#7 ++ regs) := by
  rw [registersOf_append]
  cases k <;> rfl

/-- An LDM of low registers and perhaps R15: what it leaves of the low ones, the base and the others. -/
theorem Loaded.lowRegisters {s t : State} {w : Bool} {rn : Reg} {start ea : Word} {tail : List Reg}
    (h : s.Loaded t false w rn start ea (registersOf (0#8 ++ regs) ++ tail)) (htail : ∀ r ∈ tail, r = 15) :
    (∀ i (hi : i < (registersOf (0#8 ++ regs)).length),
      t.regs[s.bank (registersOf (0#8 ++ regs))[i]] = s.mem.readBytes (s.wordPlace start i) 4) ∧
    (w = true → t.regs[s.bank rn] = ea) ∧
    (∀ k : Fin 32, (∀ r ∈ registersOf (0#8 ++ regs), s.bank r ≠ k) → k ≠ s.bank rn → t.regs[k] = s.regs[k]) := by
  obtain ⟨-, hwords, hbase, hothers⟩ := h
  refine ⟨fun i hi => ?_, hbase, fun k hlisted hrn => hothers k (fun r hr h15 => ?_) fun _ => hrn⟩
  · have hlong : i < (registersOf (0#8 ++ regs) ++ tail).length := by
      rw [List.length_append]
      omega
    have hsame : (registersOf (0#8 ++ regs) ++ tail)[i] = (registersOf (0#8 ++ regs))[i] := List.getElem_append_left hi
    have hword := hwords i hlong
    simp only [hsame] at hword
    exact hword (ne_of_mem_lowList (List.getElem_mem hi) (by decide))
  · rcases List.mem_append.mp hr with hr | hr
    · exact hlisted r hr
    · exact absurd (htail r hr) h15

end LowLists

/-! ## The instructions as transfers of a list -/

section Bodies
variable {s : State} {regs : BitVec 8}

/-- A POP is an LDM of its list from SP. -/
theorem execTPop_eq {r : Bool} (hok : (r || regs != 0) = true) :
    execTPop r regs s = finish (loadMany false true true 13 (BitVec.ofBool r ++ 0#7 ++ regs)) s := by
  have hbit : (BitVec.ofBool r ++ 0#7 ++ regs).getLsbD 15 = r := by
    rw [BitVec.getLsbD_append]
    cases r <;> rfl
  rw [execTPop, finish_allowed hok, listWith_r15, loadMany, hbit]
  cases r <;> rfl

theorem execTLdmia_eq {rn : LowReg} (hok : regs ≠ 0) : execTLdmia rn regs s =
    finish (loadMany false true (!(0#8 ++ regs : BitVec 16).getLsbD (lowReg rn).toNat) (lowReg rn) (0#8 ++ regs)) s :=
  finish_allowed (bne_iff_ne.mpr hok) _

/-- The registers `g` after an LDM of low registers from `start`, and of the base, which holds `ea` where it is written back. -/
def State.LowLoaded (s : State) (regs : BitVec 8) (w : Bool) (rn : Reg) (start ea : Word) (g : Vector Word 32) : Prop :=
  (∀ i (hi : i < (registersOf (0#8 ++ regs)).length),
    g[s.bank (registersOf (0#8 ++ regs))[i]] = s.mem.readBytes (s.wordPlace start i) 4) ∧
  (w = true → g[s.bank rn] = ea) ∧
  (∀ k : Fin 32, (∀ r ∈ registersOf (0#8 ++ regs), s.bank r ≠ k) → k ≠ s.bank rn → g[k] = s.regs[k])

/-- An LDM of low registers and perhaps R15, up to the write of the pc. -/
theorem loadMany_low {list : BitVec 16} {tail : List Reg} {w : Bool} {rn : Reg}
    (hlist : registersOf list = registersOf (0#8 ++ regs) ++ tail) (htail : ∀ r ∈ tail, r = 15)
    (hbase : BaseFree false w rn (registersOf list)) (h : s.TransfersList false true rn list) :
    ∃ (g : Vector Word 32) (run : Run), loadMany false true w rn list s =
        (if list.getLsbD 15 then writePcInterworking (pcValue (s.listedWords false true rn list)) else next)
          { s with regs := g, run := run } ∧
      s.LowLoaded regs w rn (s.readReg rn) (s.readReg rn + BitVec.ofNat 32 (4 * (registersOf list).length)) g := by
  obtain ⟨run, e⟩ := loadMany_loads (w := w) h
  have hloaded := loaded_of_loadedRegs (s := s) (ea := s.listedEnd true rn list) (start := s.readReg rn)
    (t := (s.setRun run).setRegs (s.loadedRegs false w rn (s.listedEnd true rn list) (s.listedWords false true rn list)))
    (registersOf_nodup list) hbase rfl rfl
  rw [hlist] at hloaded
  exact ⟨_, _, e, Loaded.lowRegisters hloaded htail⟩

/-- The base of a POP. -/
theorem baseFree_sp {list : BitVec 16} {tail : List Reg} (hlist : registersOf list = registersOf (0#8 ++ regs) ++ tail)
    (htail : ∀ r ∈ tail, r = 15) : BaseFree false true 13 (registersOf list) := by
  refine fun _ => ⟨rfl, by decide, fun hmem => ?_⟩
  rw [hlist] at hmem
  rcases List.mem_append.mp hmem with hmem | hmem
  · exact ne_of_mem_lowList hmem (q := 13) (by decide) rfl
  · exact absurd (htail 13 hmem) (by decide)

/-- A PUSH stores its registers below SP. -/
theorem push_stores (h : s.RunsThumb) (hd : s.Direct) (hq : s.run.env = []) {r : Bool} (hok : (r || regs != 0) = true)
    (hf : s.Fits (multipleStart true false (s.readReg 13) (listWith r 14 regs).length) (listWith r 14 regs).length) :
    ∃ (m : Memory) (ev : List (BitVec 8)), execTPush r regs s = .next { s with
        regs := s.regs.set (s.bank 13) (multipleEnd false (s.readReg 13) (listWith r 14 regs).length)
        pc := s.pc + 2, mem := m, run := { s.run with events := ev } } ∧
      s.StoredFrom (multipleStart true false (s.readReg 13) (listWith r 14 regs).length) (listWith r 14 regs) s.readReg m := by
  have hlen : (listWith r 14 regs).length ≤ 16 := by
    rw [listWith_r14]
    exact registersOf_length_le _
  have hvalues := each_reads (g := s.readReg) (reg_ready h.ready) (listWith r 14 regs)
  obtain ⟨ev, m, hstore, hstored⟩ := storeMultiple_direct h.ready hd hq hlen hf s.readReg
  exact ⟨m, ev, (finish_allowed hok _).trans (finish_next_thumb
    (t := ((s.noted ev).setMem m).writeReg 13 (multipleEnd false (s.readReg 13) (listWith r 14 regs).length)) h
    ((M.bind_ok _ (M.state_apply s)).trans ((M.bind_ok _ hvalues).trans (M.bind_ok _ hstore))) rfl), hstored⟩

end Bodies

end Sys2Proof.Machine

open Sys2Proof Sys2Proof.Machine

/-- Settles O47. POP and LDMIA are LDMs of low registers and perhaps R15 (`loadMany_low`). -/
theorem thumbLoadMultipleResult : Obligations.ThumbLoadMultipleResult := by
  intro s rn regs h hd hq base listed n fits word loaded
  have hloaded {w : Bool} {b : Reg} {size : Nat} {g : Vector Word 32} {pc : Word} {cpsr : Psr} {run : Run}
      (hg : s.LowLoaded regs w b (s.readReg b) (s.readReg b + BitVec.ofNat 32 (4 * size)) g) (hw : b ∉ listed → w = true) :
      loaded { s with regs := g, pc := pc, cpsr := cpsr, run := run } (s.readReg b) b size := by
    obtain ⟨hwords, hbase, hothers⟩ := hg
    exact ⟨rfl, hwords, fun hb => hbase (hw hb), hothers⟩
  have hnoPc : registersOf (BitVec.ofBool false ++ 0#7 ++ regs) = listed ++ [] := (listWith_r15 false).symm
  have hwithPc : registersOf (BitVec.ofBool true ++ 0#7 ++ regs) = listed ++ [15] := (listWith_r15 true).symm
  have transfers {b : Reg} {list : BitVec 16} {k : Nat} (hlength : (registersOf list).length = k)
      (hf : fits (s.readReg b) k) : s.TransfersList false true b list := by
    subst hlength
    exact ⟨h.ready, hd, hq, hf.1, hf.2⟩
  refine ⟨fun hne hf => ?pop, fun hf => ?popPc, fun hne hf => ?ldmia⟩
  case pop =>
    have hlength : (registersOf (BitVec.ofBool false ++ 0#7 ++ regs)).length = n := by rw [hnoPc, List.append_nil]
    obtain ⟨g, run, e, hg⟩ := loadMany_low hnoPc (by simp) (baseFree_sp hnoPc (by simp)) (transfers hlength hf)
    have hbit : (BitVec.ofBool false ++ 0#7 ++ regs).getLsbD 15 = false := by rw [BitVec.getLsbD_append]; rfl
    rw [hbit] at e
    rw [hlength] at hg
    exact ⟨_, (execTPop_eq ((Bool.false_or _).trans (bne_iff_ne.mpr hne))).trans (finish_next_thumb h e rfl),
      hloaded hg fun _ => rfl, rfl, rfl⟩
  case popPc =>
    have hlength : (registersOf (BitVec.ofBool true ++ 0#7 ++ regs)).length = n + 1 := by
      rw [hwithPc, List.length_append]
      rfl
    obtain ⟨g, run, e, hg⟩ := loadMany_low hwithPc (by simp) (baseFree_sp hwithPc (by simp)) (transfers hlength hf)
    have hbit : (BitVec.ofBool true ++ 0#7 ++ regs).getLsbD 15 = true := by rw [BitVec.getLsbD_append]; rfl
    rw [hbit, State.listedWords, pcValue_wordsFrom hbit] at e
    rw [hlength] at hg e
    intro v
    have hexec := (execTPop_eq (s := s) (r := true) (regs := regs) rfl).trans (finish_writePcInterworking e)
    split
    · next hv => exact hexec.trans (if_pos hv)
    · next hv => exact ⟨_, hexec.trans (if_neg hv), hloaded hg fun _ => rfl, rfl, rfl⟩
  case ldmia =>
    have hlist : registersOf (0#8 ++ regs) = listed ++ [] := (List.append_nil _).symm
    have hwrite : (!(0#8 ++ regs : BitVec 16).getLsbD base.toNat) = true ↔ base ∉ listed := by
      rw [Bool.not_eq_true', mem_registersOf, Bool.not_eq_true]
    have hbase : BaseFree false (!(0#8 ++ regs : BitVec 16).getLsbD base.toNat) base listed :=
      fun hw => ⟨rfl, lowReg_ne_pc rn, hwrite.mp hw⟩
    obtain ⟨g, run, e, hg⟩ := loadMany_low hlist (by simp) hbase (transfers rfl hf)
    have hbit : (0#8 ++ regs : BitVec 16).getLsbD 15 = false := by rw [BitVec.getLsbD_append]; rfl
    rw [hbit] at e
    exact ⟨_, (execTLdmia_eq hne).trans (finish_next_thumb h e rfl), hloaded hg hwrite.mpr, rfl, rfl⟩

/-- Settles O46. A PUSH is `push_stores`; STMIA is an STM of low registers (`storeMany_stores`). -/
theorem thumbStoreMultipleResult : Obligations.ThumbStoreMultipleResult := by
  intro s rn lr regs h hd hq base listed stores pushed
  constructor
  · split
    · next hempty =>
      obtain ⟨rfl, rfl⟩ := hempty
      rfl
    · next hne =>
      intro husable hwrap place
      have hok : (lr || regs != 0) = true := by
        by_contra hoff
        exact hne (by simpa using hoff)
      exact push_stores h hd hq hok ⟨husable, hwrap⟩
  · intro hok husable hwrap place
    obtain ⟨m, ev, e, hwords, hothers⟩ := storeMany_stores (w := true) (p := false) (u := true) (rn := base)
      (regs := 0#8 ++ regs) ⟨h.ready, hd, hq, husable, hwrap⟩
    have hvalue {r : Reg} (hr : r ∈ listed) : s.transferValue false r = s.readReg r :=
      if_neg (ne_of_mem_lowList hr (by decide))
    rw [size_thumb h] at e
    exact ⟨m, ev, (finish_allowed hok _).trans (finish_ok e),
      fun k hk => (hwords k hk).trans (hvalue (List.getElem_mem hk)), hothers⟩

end

section
/-! # The status registers: MRS and MSR (43 R605, R606) -/

namespace Sys2Proof.Machine

/-! ## A status register as a word -/

section Words
variable (p : Psr) (v : Word)

theorem toWord_bits : p.toWord.getLsbD 31 = p.n ∧ p.toWord.getLsbD 30 = p.z ∧ p.toWord.getLsbD 29 = p.c ∧
    p.toWord.getLsbD 28 = p.v ∧ p.toWord.getLsbD 27 = p.q ∧ p.toWord.extractLsb' 8 19 = 0 ∧ p.toWord.getLsbD 7 = p.i ∧
    p.toWord.getLsbD 6 = p.f ∧ p.toWord.getLsbD 5 = p.t ∧ p.toWord.extractLsb' 0 5 = p.m := by
  refine ⟨?_, ?_, ?_, ?_, ?_, ?_, ?_, ?_, Sound.toWord_thumb p, Sound.toWord_mode p⟩
  case refine_6 =>
    apply BitVec.eq_of_getLsbD_eq
    intro i hi
    rw [BitVec.getLsbD_extractLsb']
    simp only [Psr.toWord, BitVec.getLsbD_append]
    have h0 : ¬ (8 + i < 5) := by omega
    have h1 : ¬ (8 + i - 5 < 1) := by omega
    have h2 : ¬ (8 + i - 5 - 1 < 1) := by omega
    have h3 : ¬ (8 + i - 5 - 1 - 1 < 1) := by omega
    have h4 : (8 + i - 5 - 1 - 1 - 1 < 19) := by omega
    simp [h0, h1, h2, h3, h4]
  all_goals
    simp only [Psr.toWord, BitVec.getLsbD_append]
    simp

/-- The mask of an MSR: the flags with `f`, the control bits with `k`, T with `t`. -/
def Selects (mask : Word) (f k t : Bool) : Prop :=
  (mask.getLsbD 31 = f ∧ mask.getLsbD 30 = f ∧ mask.getLsbD 29 = f ∧ mask.getLsbD 28 = f ∧ mask.getLsbD 27 = f) ∧
  (mask.getLsbD 7 = k ∧ mask.getLsbD 6 = k ∧ mask.getLsbD 5 = t) ∧ mask.extractLsb' 0 5 = if k then BitVec.allOnes 5 else 0

/-- A status register with these fields written. -/
def Psr.written (f k t : Bool) : Psr where
  n := if f then v.getLsbD 31 else p.n
  z := if f then v.getLsbD 30 else p.z
  c := if f then v.getLsbD 29 else p.c
  v := if f then v.getLsbD 28 else p.v
  q := if f then v.getLsbD 27 else p.q
  i := if k then v.getLsbD 7 else p.i
  f := if k then v.getLsbD 6 else p.f
  t := if t then v.getLsbD 5 else p.t
  m := if k then v.extractLsb' 0 5 else p.m

/-- Flags and control bits written one after the other, T left alone. -/
theorem written_keepsThumb (f k : Bool) : p.written v f k false =
    (let q : Psr := if f then
        { p with n := v.getLsbD 31, z := v.getLsbD 30, c := v.getLsbD 29, v := v.getLsbD 28, q := v.getLsbD 27 } else p
    if k then { q with i := v.getLsbD 7, f := v.getLsbD 6, m := v.extractLsb' 0 5 } else q) := by
  cases f <;> cases k <;> rfl

/-- The same with T among the control bits. -/
theorem written_withThumb (f k : Bool) : p.written v f k k =
    (let q : Psr := if f then
        { p with n := v.getLsbD 31, z := v.getLsbD 30, c := v.getLsbD 29, v := v.getLsbD 28, q := v.getLsbD 27 } else p
    if k then { q with i := v.getLsbD 7, f := v.getLsbD 6, t := v.getLsbD 5, m := v.extractLsb' 0 5 } else q) := by
  cases f <;> cases k <;> rfl

theorem merge_bit (w mask : Word) {i : Nat} (hi : i < 32) :
    ((w &&& ~~~mask) ||| (v &&& mask)).getLsbD i = if mask.getLsbD i then v.getLsbD i else w.getLsbD i := by
  rw [BitVec.getLsbD_or, BitVec.getLsbD_and, BitVec.getLsbD_and, BitVec.getLsbD_not]
  cases mask.getLsbD i <;> simp [hi]

theorem insert_eq_written {mask : Word} {f k t : Bool} (h : Selects mask f k t) : p.insert v mask = p.written v f k t := by
  obtain ⟨⟨hn, hz, hc, hv, hq⟩, ⟨hi, hf, ht⟩, hmode⟩ := h
  obtain ⟨pn, pz, pc, pv, pq, -, pi, pf, pt, -⟩ := toWord_bits p
  have hm : ((p.toWord &&& ~~~mask) ||| (v &&& mask)).extractLsb' 0 5 = if k then v.extractLsb' 0 5 else p.m := by
    cases k with
    | true => exact Sound.insert_mode_new p v hmode
    | false => exact Sound.insert_mode_kept p v hmode
  have hbit {i : Nat} {b : Bool} (hi : i < 32) (hb : mask.getLsbD i = b) :
      ((p.toWord &&& ~~~mask) ||| (v &&& mask)).getLsbD i = if b then v.getLsbD i else p.toWord.getLsbD i := by
    rw [merge_bit v p.toWord mask hi, hb]
  rw [Psr.insert, Psr.ofWord, hm, hbit (by decide) hn, hbit (by decide) hz, hbit (by decide) hc, hbit (by decide) hv,
    hbit (by decide) hq, hbit (by decide) hi, hbit (by decide) hf, hbit (by decide) ht, pn, pz, pc, pv, pq, pi, pf, pt,
    Psr.written]

theorem selects_spsr (mask : BitVec 4) :
    Selects (fieldMask mask &&& 0xF80000FF) (mask.getLsbD 3) (mask.getLsbD 0) (mask.getLsbD 0) := by
  unfold Selects
  revert mask
  decide

theorem selects_cpsr (mask : BitVec 4) :
    Selects (fieldMask mask &&& 0xF80000DF) (mask.getLsbD 3) (mask.getLsbD 0) false := by
  unfold Selects
  revert mask
  decide

theorem selects_flags (mask : BitVec 4) : Selects (fieldMask mask &&& 0xF8000000) (mask.getLsbD 3) false false := by
  unfold Selects
  revert mask
  decide

end Words

/-! ## MSR -/

section Write
variable {s : State} {mask : BitVec 4} {v : Word}

/-- A mode that an MSR may write. -/
theorem modeWritable_ok {m : BitVec 5} (hlegal : legalMode m = true) (hdebug : m = modeDbg → s.dbg.sds = true)
    (huser : m = modeUsr → s.dbg.sds = false) : modeWritable m s = .ok () s := by
  have hdebug' : (m != modeDbg || s.dbg.sds) = true := by
    rw [Bool.or_eq_true, bne_iff_ne]
    exact or_iff_not_imp_left.mpr fun h => hdebug (not_not.mp h)
  have huser' : (m != modeUsr || !s.dbg.sds) = true := by
    rw [Bool.or_eq_true, bne_iff_ne, Bool.not_eq_true']
    exact or_iff_not_imp_left.mpr fun h => huser (not_not.mp h)
  rw [modeWritable, M.bind_ok _ (M.state_apply s), hlegal, hdebug', huser']
  rfl

/-- To the CPSR in User mode: the flags. -/
theorem writeStatus_user (hp : s.privileged = false) :
    writeStatus false mask v s = .ok () (s.setCpsr (s.cpsr.written v (mask.getLsbD 3) false false)).advance := by
  rw [← insert_eq_written _ _ (selects_flags mask), writeStatus, M.bind_ok _ (M.state_apply s), hp]
  rfl

/-- To the CPSR in a privileged mode: with the control byte, a mode that may be written and no T bit. -/
theorem writeStatus_privileged (hp : s.privileged = true) (hcontrol : mask.getLsbD 0 = true → v.getLsbD 5 = false ∧
      legalMode (v.extractLsb' 0 5) = true ∧ (v.extractLsb' 0 5 = modeDbg → s.dbg.sds = true) ∧
      (v.extractLsb' 0 5 = modeUsr → s.dbg.sds = false)) :
    writeStatus false mask v s = .ok () (s.setCpsr (s.cpsr.written v (mask.getLsbD 3) (mask.getLsbD 0) false)).advance := by
  rw [← insert_eq_written _ _ (selects_cpsr mask), writeStatus, M.bind_ok _ (M.state_apply s), hp]
  cases hk : mask.getLsbD 0 with
  | false => rfl
  | true =>
    obtain ⟨hthumb, hlegal, hdebug, huser⟩ := hcontrol hk
    have hmode := modeWritable_ok hlegal hdebug huser
    simp only [hthumb, Bool.false_eq_true, if_false, if_true, require_then]
    simp [M.bind_apply, hmode]

/-- A control byte that would set T (93 U72). -/
theorem writeStatus_thumb (hp : s.privileged = true) (hk : mask.getLsbD 0 = true) (hv : v.getLsbD 5 = true) :
    writeStatus false mask v s = .error (.refuse .operandRestriction) s := by
  rw [writeStatus, M.bind_ok _ (M.state_apply s), hp, hk, hv]
  rfl

/-- To the SPSR. -/
theorem writeStatus_spsr {k : Fin 6} (hk : spsrOf s.cpsr.m = some k) : writeStatus true mask v s = .ok ()
    (s.setSpsr (s.spsr.set k (s.spsr[k].written v (mask.getLsbD 3) (mask.getLsbD 0) (mask.getLsbD 0)))).advance := by
  rw [← insert_eq_written _ _ (selects_spsr mask), writeStatus, M.bind_ok _ (M.state_apply s), hk]
  rfl

theorem writeStatus_noSpsr (hk : spsrOf s.cpsr.m = none) :
    writeStatus true mask v s = .error (.refuse .noSpsr) s := by
  rw [writeStatus, M.bind_ok _ (M.state_apply s), hk]
  rfl

/-! ## MRS -/

theorem readStatus_apply {r : Bool} {rd : Reg} {p : Psr} (e : (if r then readSpsr else pure s.cpsr : M Psr) s = .ok p s) :
    readStatus r rd s = .ok () (s.writeReg rd p.toWord).advance := by
  rw [readStatus, M.bind_ok _ (M.state_apply s)]
  cases r <;> exact M.bind_ok _ e

theorem readStatus_noSpsr (h : s.Ready) {rd : Reg} (hk : spsrOf s.cpsr.m = none) :
    readStatus true rd s = .error (.refuse .noSpsr) s := by
  have hread : readSpsr s = .error (.refuse .noSpsr) s := by rw [readSpsr_ready h, hk]
  rw [readStatus, M.bind_ok _ (M.state_apply s)]
  exact M.bind_error _ hread

end Write

end Sys2Proof.Machine

open Sys2Proof Sys2Proof.Machine

/-- Settles O19. An MRS reads the word of a status register (`toWord_bits`); an MSR merges the operand into it under a mask of
fields (`insert_eq_written`). -/
theorem statusRegisterResult : Obligations.StatusRegisterResult := by
  constructor
  · intro s c r rd h h15 reads
    have hok : (isOnes 15#4 && isZero 0#4 && isZero 0#4 && notPc [rd]) = true := notPc_one h15
    have hreads {p : Psr} (e : (if r then readSpsr else pure s.cpsr : M Psr) s = .ok p s) : reads p := by
      refine ⟨p.toWord, ?_, toWord_bits p⟩
      rw [← size_eq_four h]
      exact (runIf_allowed h hok _).trans (finish_ok (readStatus_apply e))
    cases r with
    | false => exact hreads rfl
    | true =>
      have hread := readSpsr_ready h.ready
      rw [if_pos rfl]
      cases hk : spsrOf s.cpsr.m with
      | none => exact (runIf_allowed h hok _).trans (finish_refuse (readStatus_noSpsr h.ready hk))
      | some k =>
        rw [hk] at hread
        exact hreads hread
  · intro s c mask rot imm8 rm h control flags cpsr spsr legal writes
    have hcpsr (v : Word) : cpsr v = s.cpsr.written v (mask.getLsbD 3) (control && s.privileged) false :=
      (written_keepsThumb ..).symm
    have hspsr (p : Psr) (v : Word) : spsr p v = p.written v (mask.getLsbD 3) control control := (written_withThumb ..).symm
    have hwrites {i : Bool → Instr} {v : Word} (hi : ∀ r, exec (i r) s = finish (writeStatus r mask v) s) : writes i v := by
      simp only [writes, hi]
      rw [← size_eq_four h]
      refine ⟨fun hlegal => ?_, fun hp hk hv => finish_refuse (writeStatus_thumb hp hk hv), ?_⟩
      · rw [hcpsr]
        cases hp : s.privileged with
        | false =>
          rw [Bool.and_false]
          exact finish_ok (writeStatus_user hp)
        | true =>
          rw [Bool.and_true]
          exact finish_ok (writeStatus_privileged hp fun hk => hlegal hp hk)
      · cases hk : spsrOf s.cpsr.m with
        | none => exact finish_refuse (writeStatus_noSpsr hk)
        | some k =>
          rw [finish_ok (writeStatus_spsr hk)]
          simp only [hspsr]
          rfl
    exact ⟨hwrites (i := fun r => .msrImm c r mask 15 rot imm8) fun r => runIf_allowed h (ok := isOnes 15#4) rfl _,
      hwrites (i := fun r => .msrReg c r mask 15 0 rm) fun r =>
        (runIf_allowed h (ok := isOnes 15#4 && isZero 0#4) rfl _).trans (finish_congr (reg_bind h.ready _ _))⟩

end

section
/-! # The accumulator of CP0 (44 R642 to R652) -/

namespace Sys2Proof.Machine

section Accumulator
variable {s : State} {c : Cond} {rs rm : Reg} {product : Word → Word → Int} {p : Int}

theorem accumulatorAccess_right (hright : s.cp15.cpar.getLsbD 0 = true) : accumulatorAccess s = .ok () s := by
  rw [accumulatorAccess, M.bind_ok _ (M.state_apply s), hright]
  rfl

/-- A multiply-accumulate on acc0 with the right of CP0: the sum modulo 2^40. -/
theorem accumulate_adds (h : s.RunsArm c) (hright : s.cp15.cpar.getLsbD 0 = true) (hrs : rs ≠ 15) (hrm : rm ≠ 15)
    (hp : product (s.readReg rm) (s.readReg rs) = p) : runIf c (accumulate rs 0 rm product) s =
      .next { s with acc0 := BitVec.ofInt 40 (s.acc0.toInt + p), pc := s.pc + 4 } := by
  subst hp
  rw [runIf_holds _ h.holds, ← size_eq_four h, BitVec.ofInt_add, BitVec.ofInt_toInt]
  refine finish_ok (u := ()) ((M.bind_ok _ (accumulatorAccess_right hright)).trans ?_)
  rw [M.bind_ok _ (allowed_true s (notPc_cons hrs (notPc_one hrm))), reg_bind_two h.ready]
  rfl

/-- Without it: Undefined Instruction. -/
theorem accumulate_undefined (h : s.RunsArm c) (hge : s.dbg.dcsr.ge = false) (hs : s.dbg.sds = false)
    (hright : s.cp15.cpar.getLsbD 0 = false) : ∃ t, runIf c (accumulate rs 0 rm product) s = .next t ∧
      s.Entered t modeUnd 4 (s.pc + 4) 0x04 false := by
  have haccess : accumulatorAccess s = .error .undefined s := by
    rw [accumulatorAccess, M.bind_ok _ (M.state_apply s), hright]
    rfl
  exact ⟨_, runIf_undefined h hs (M.bind_error _ haccess), undefinedInstruction_entered h.arm hge⟩

/-- The words of acc0 as an integer: the high byte is signed. -/
theorem toInt_halves (a : BitVec 40) :
    ((a.extractLsb' 32 8).signExtend 32 : Word).toInt * 2 ^ 32 + (a.extractLsb' 0 32).toNat = a.toInt := by
  have happ : a.extractLsb' 32 8 ++ a.extractLsb' 0 32 = a := BitVec.extractLsb'_append_extractLsb' (w := 8) (len := 32)
  have hint := congrArg BitVec.toInt happ
  rw [BitVec.toInt_append] at hint
  rw [BitVec.toInt_signExtend_of_le (by decide), ← hint]
  simp [Int.mul_comm]

theorem execMar_eq (h : s.RunsArm c) (hright : s.cp15.cpar.getLsbD 0 = true) {rdHi rdLo : Reg} (hhi : rdHi ≠ 15)
    (hlo : rdLo ≠ 15) : execMar c rdHi rdLo 0 s =
      .next { s with acc0 := (s.readReg rdHi).extractLsb' 0 8 ++ s.readReg rdLo, pc := s.pc + 4 } := by
  rw [execMar, runIf_holds _ h.holds, ← size_eq_four h]
  refine finish_ok (u := ()) ((M.bind_ok _ (accumulatorAccess_right hright)).trans ?_)
  rw [M.bind_ok _ (allowed_true s (notPc_cons hhi (notPc_one hlo))), reg_bind_two h.ready]
  rfl

theorem execMra_eq (h : s.RunsArm c) (hright : s.cp15.cpar.getLsbD 0 = true) {rdHi rdLo : Reg} (hhi : rdHi ≠ 15)
    (hlo : rdLo ≠ 15) (hne : rdHi ≠ rdLo) : execMra c rdHi rdLo 0 s = .next { s with
      regs := (s.regs.set (s.bank rdLo) (s.acc0.extractLsb' 0 32)).set (s.bank rdHi) ((s.acc0.extractLsb' 32 8).signExtend 32)
      pc := s.pc + 4 } := by
  have hok : (notPc [rdHi, rdLo] && rdHi != rdLo) = true :=
    Bool.and_eq_true_iff.mpr ⟨notPc_cons hhi (notPc_one hlo), bne_iff_ne.mpr hne⟩
  rw [execMra, runIf_holds _ h.holds, ← size_eq_four h]
  refine finish_ok (u := ()) ((M.bind_ok _ (accumulatorAccess_right hright)).trans ?_)
  rw [M.bind_ok _ (allowed_true s hok)]
  rfl

end Accumulator
end Sys2Proof.Machine

open Sys2Proof Sys2Proof.Machine

/-- Settles O24. The multiply-accumulates differ in their product alone. -/
theorem accumulatorResult : Obligations.AccumulatorResult := by
  refine ⟨fun s c rs rm h hge hs hrs hrm => ?multiply, fun s c rdHi rdLo h hright hhi hlo => ⟨?mar, fun hne => ?mra⟩⟩
  case multiply =>
    intro m r low high accumulates
    have haccumulates {i : Instr} {product : Word → Word → Int} {p : Int}
        (hi : exec i s = runIf c (accumulate rs 0 rm product) s) (hp : product m r = p) : accumulates i p := by
      unfold accumulates
      rw [hi]
      split
      · next hright => exact accumulate_adds h hright hrs hrm hp
      · next hright => exact accumulate_undefined h hge hs (eq_false_of_ne_true hright)
    exact ⟨haccumulates rfl rfl, haccumulates rfl rfl, haccumulates rfl rfl, haccumulates rfl rfl, haccumulates rfl rfl,
      haccumulates rfl rfl⟩
  case mar =>
    refine ⟨_, execMar_eq h hright hhi hlo, fun i hi => ?_, fun i hi => ?_⟩
    · rw [BitVec.getLsbD_append, if_pos hi]
    · rw [BitVec.getLsbD_append, if_neg (by omega), BitVec.getLsbD_extractLsb', Nat.add_sub_cancel_left, Nat.zero_add,
        decide_eq_true hi, Bool.true_and]
  case mra => exact ⟨_, _, execMra_eq h hright hhi hlo hne, toInt_halves s.acc0⟩

end

section
/-! # The Enhanced DSP multiplies and saturating additions (41 sections 3 and 4) -/

namespace Sys2Proof.Machine

/-! ## Integers in a word -/

section Range
variable {i : Int}

/-- An integer that fits is that of its word. -/
theorem toInt_ofInt_of_fits (hlo : -2 ^ 31 ≤ i) (hhi : i < 2 ^ 31) : (BitVec.ofInt 32 i).toInt = i :=
  BitVec.toInt_ofInt_eq_self (by decide) hlo hhi

/-- A sum overflows where it leaves the signed range. -/
theorem addSigned_eq (x y : Int) :
    addSigned x y = (BitVec.ofInt 32 (x + y), decide (x + y < -2 ^ 31 ∨ 2 ^ 31 ≤ x + y)) := by
  have hflag : (BitVec.ofInt 32 (x + y)).toInt ≠ x + y ↔ x + y < -2 ^ 31 ∨ 2 ^ 31 ≤ x + y := by
    constructor
    · intro hne
      by_contra hfits
      exact hne (toInt_ofInt_of_fits (by omega) (by omega))
    · intro hout heq
      have hlo := BitVec.le_toInt (BitVec.ofInt 32 (x + y))
      have hhi := BitVec.toInt_lt (x := BitVec.ofInt 32 (x + y))
      simp only [heq] at hlo hhi
      omega
  rw [addSigned, decide_eq_decide.mpr hflag]

/-- An integer brought into the signed range. -/
def saturate (i : Int) : Int := max (-2 ^ 31) (min (2 ^ 31 - 1) i)

theorem signedSat_eq (i : Int) : signedSat i = (BitVec.ofInt 32 (saturate i), saturate i != i) := by
  unfold signedSat saturate
  split
  · next h =>
    have hmax : max (-2 ^ 31) (min (2 ^ 31 - 1) i) = 2 ^ 31 - 1 := by omega
    rw [hmax, bne_iff_ne.mpr (by omega)]
    rfl
  · split
    · next h h' =>
      have hmin : max (-2 ^ 31) (min (2 ^ 31 - 1) i) = -2 ^ 31 := by omega
      rw [hmin, bne_iff_ne.mpr (by omega)]
      rfl
    · next h h' =>
      have hsame : max (-2 ^ 31) (min (2 ^ 31 - 1) i) = i := by omega
      rw [hsame, bne_self_eq_false]

theorem toInt_saturate (i : Int) : (BitVec.ofInt 32 (saturate i)).toInt = saturate i := by
  refine toInt_ofInt_of_fits ?_ ?_ <;> unfold saturate <;> omega

end Range

/-! ## Products with a half -/

section Products
variable (m r : Word) (y : Bool)

/-- The product of a word and a half fits in 48 bits. -/
theorem wideProduct_fits :
    -2 ^ 31 ≤ m.toInt * (halfOf r y).toInt / 2 ^ 16 ∧ m.toInt * (halfOf r y).toInt / 2 ^ 16 < 2 ^ 31 := by
  have hm : |m.toInt| ≤ 2 ^ 31 := abs_le.mpr ⟨BitVec.le_toInt m, (BitVec.toInt_lt (x := m)).le⟩
  have hr : |(halfOf r y).toInt| ≤ 2 ^ 15 :=
    abs_le.mpr ⟨BitVec.le_toInt (halfOf r y), (BitVec.toInt_lt (x := halfOf r y)).le⟩
  have hproduct : |m.toInt * (halfOf r y).toInt| ≤ 2 ^ 31 * 2 ^ 15 := by
    rw [abs_mul]
    exact mul_le_mul hm hr (abs_nonneg _) (by decide)
  obtain ⟨hlo, hhi⟩ := abs_le.mp hproduct
  omega

/-- The top 32 of 48 bits. -/
theorem extractLsb'_ofInt (i : Int) : (BitVec.ofInt 48 i).extractLsb' 16 32 = BitVec.ofInt 32 (i / 2 ^ 16) := by
  apply BitVec.eq_of_toNat_eq
  rw [BitVec.extractLsb'_toNat, BitVec.toNat_ofInt, BitVec.toNat_ofInt, Nat.shiftRight_eq_div_pow]
  omega

theorem wideProduct_eq : wideProduct m r y = BitVec.ofInt 32 (m.toInt * (halfOf r y).toInt / 2 ^ 16) := extractLsb'_ofInt _

end Products

/-! ## The instructions -/

section Dsp
variable {s : State} {c : Cond} {rd rn rs rm : Reg}

/-- A result in one register. -/
theorem finish_setReg_arm (h : s.RunsArm c) {m : M Unit} {v : Word} (e : m s = (do setReg rd v; next : M Unit) s) :
    finish m s = .next { s with regs := s.regs.set (s.bank rd) v, pc := s.pc + 4 } := by
  rw [finish_ok (u := ()) e, ← size_eq_four h]
  rfl

/-- A result in one register, and Q. -/
theorem finish_writeSticky (h : s.RunsArm c) {m : M Unit} {v : Word} {q : Bool} (e : m s = writeSticky rd v q s) :
    finish m s = .next { s with
      regs := s.regs.set (s.bank rd) v
      pc := s.pc + 4
      cpsr := { s.cpsr with q := s.cpsr.q || q } } := by
  rw [finish_ok (u := ()) e, ← size_eq_four h]
  rfl

theorem reg_bind_three (h : s.Ready) (r q p : Reg) {α : Type} (f : Word → Word → Word → M α) :
    (do let x ← reg r; let y ← reg q; let z ← reg p; f x y z : M α) s = f (s.readReg r) (s.readReg q) (s.readReg p) s :=
  (reg_bind_two h r q _).trans (reg_bind h p _)

/-- The saturating additions and subtractions: Q from the doubling and from the sum. -/
theorem saturating_eq (h : s.RunsArm c) (hrn : rn ≠ 15) (hrd : rd ≠ 15) (hrm : rm ≠ 15) (double subtract : Bool)
    {n : Int} {q : Bool}
    (hn : (if double then signedSat (2 * (s.readReg rn).toInt) else (s.readReg rn, false)) = (BitVec.ofInt 32 n, q))
    (hfits : (BitVec.ofInt 32 n).toInt = n) {i : Int}
    (hi : (if subtract then (s.readReg rm).toInt - n else (s.readReg rm).toInt + n) = i) :
    runIf c (saturating double subtract rn rd 0 rm) s = .next { s with
      regs := s.regs.set (s.bank rd) (BitVec.ofInt 32 (saturate i))
      pc := s.pc + 4
      cpsr := { s.cpsr with q := s.cpsr.q || q || saturate i != i } } := by
  have hok : (isZero (0 : BitVec 4) && notPc [rn, rd, rm]) = true := notPc_cons hrn (notPc_cons hrd (notPc_one hrm))
  rw [saturating, runIf_allowed h hok, Bool.or_assoc]
  refine finish_writeSticky h ((reg_bind_two h.ready rm rn _).trans ?_)
  simp only [hn, hfits, hi]
  rw [signedSat_eq]

end Dsp

end Sys2Proof.Machine

open Sys2Proof Sys2Proof.Machine

/-- Settles O9. The products are those of the signed halves; a sum that sets Q is `addSigned_eq`, a saturation
`signedSat_eq`. -/
theorem enhancedDspResult : Obligations.EnhancedDspResult := by
  refine ⟨fun s c x y rd rn rs rm h hrd hrn hrs hrm => ?multiply, fun s c rn rd rm h hrn hrd hrm => ?saturate⟩
  case multiply =>
    intro half m r n wide done sticky
    have hthree : notPc [rd, rs, rm] = true := notPc_cons hrd (notPc_cons hrs (notPc_one hrm))
    have hfour : notPc [rd, rn, rs, rm] = true := notPc_cons hrd (notPc_cons hrn (notPc_cons hrs (notPc_one hrm)))
    have hwide : wideProduct m r y = BitVec.ofInt 32 wide := wideProduct_eq m r y
    have hwideInt : (wideProduct m r y).toInt = wide := by
      rw [hwide]
      exact toInt_ofInt_of_fits (wideProduct_fits m r y).1 (wideProduct_fits m r y).2
    have hfirst (f : Word → Word → Word → Int) {i : Int} (hi : f m r n + n.toInt = i) :
        runIf c (do
          allowed (notPc [rd, rn, rs, rm])
          let m ← reg rm
          let r ← reg rs
          let n ← reg rn
          let (v, ov) := addSigned (f m r n) n.toInt
          writeSticky rd v ov) s = sticky i := by
      subst hi
      refine (runIf_allowed h hfour _).trans (finish_writeSticky h ((reg_bind_three h.ready rm rs rn _).trans ?_))
      rw [addSigned_eq]
    refine ⟨?smul, ?smulw, hfirst (fun m r _ => halfProduct m x r y) rfl, ?smlaw, fun hne => ?smlal⟩
    case smul => exact (runIf_allowed h hthree _).trans (finish_setReg_arm h (reg_bind_two h.ready rm rs _))
    case smulw =>
      have hrun := (runIf_allowed h hthree _).trans
        (finish_setReg_arm h (reg_bind_two h.ready rm rs fun m r => do setReg rd (wideProduct m r y); next))
      rw [hwide] at hrun
      exact hrun
    case smlaw => exact hfirst (fun m r _ => (wideProduct m r y).toInt) (congrArg (· + n.toInt) hwideInt)
    case smlal =>
      have hok : (notPc [rd, rn, rs, rm] && rd != rn) = true := Bool.and_eq_true_iff.mpr ⟨hfour, bne_iff_ne.mpr hne⟩
      refine (runIf_allowed h hok _).trans (finish_ok (u := ()) ?_)
      rw [reg_bind_two h.ready, reg_bind_two h.ready, multiplyLong_apply h]
      rfl
  case saturate =>
    intro sat m n d done
    have hplain : (s.readReg rn, false) = (BitVec.ofInt 32 n, false) := congrArg (·, false) BitVec.ofInt_toInt.symm
    have hdouble : signedSat (2 * (s.readReg rn).toInt) = (BitVec.ofInt 32 d, d != 2 * n) := signedSat_eq _
    have hfits : (BitVec.ofInt 32 n).toInt = n := congrArg BitVec.toInt BitVec.ofInt_toInt
    exact ⟨saturating_eq h hrn hrd hrm false false hplain hfits rfl,
      saturating_eq h hrn hrd hrm false true hplain hfits rfl,
      saturating_eq h hrn hrd hrm true false hdouble (toInt_saturate _) rfl,
      saturating_eq h hrn hrd hrm true true hdouble (toInt_saturate _) rfl⟩

end

section
/-! # LDRD and STRD (42 R532, R552, R553) -/

namespace Sys2Proof.Machine

section Double
variable {s : State} {c : Cond} {p u w : Bool} {rn rd : Reg} {off : Offset3} {a : Word}

/-- Both words of a doubleword are aligned. -/
theorem aligned_words (h : s.Aligned a 8) : s.Aligned a 4 ∧ s.Aligned (a + 4) 4 := by
  have hlow : a.toNat % 4 = 0 := by
    rw [← remap_mod_four s]
    unfold State.Aligned at h
    omega
  refine ⟨(remap_mod_four s a).trans hlow, (remap_mod_four s (a + 4)).trans ?_⟩
  rw [BitVec.toNat_add, show (4 : Word).toNat = 4 by rfl]
  omega

theorem loadDouble_odd (hodd : rd.getLsbD 0 = true) : loadDouble p u w rn rd off s = .error .undefined s := by
  rw [loadDouble, hodd]
  rfl

theorem storeDouble_odd (hodd : rd.getLsbD 0 = true) : storeDouble p u w rn rd off s = .error .undefined s := by
  rw [storeDouble, hodd]
  rfl

/-- A body that goes on to the next ARM instruction. -/
theorem finish_next_arm (h : s.RunsArm c) {m : M Unit} {t : State} (e : m s = .ok () t.advance) (hsize : t.size = s.size) :
    finish m s = .next { t with pc := t.pc + 4 } := by
  rw [finish_ok e, ← size_eq_four h, ← hsize]
  rfl

/-- The end of an LDRD: the base, both registers, and the pc. -/
theorem finish_pair (h : s.RunsArm c) {m : M Unit} {wb : Bool} {ea x y : Word} {ev : List (BitVec 8)}
    (e : m s = (do writeBack wb rn ea; setReg rd x; setReg (rd + 1) y; next : M Unit) (s.noted ev)) :
    finish m s = .next { s with
      regs := ((s.basedRegs wb rn ea).set (s.bank rd) x).set (s.bank (rd + 1)) y
      pc := s.pc + 4
      run := { s.run with events := ev } } := by
  refine finish_next_arm (t := (s.noted ev).setRegs (((s.basedRegs wb rn ea).set (s.bank rd) x).set (s.bank (rd + 1)) y)) h
    (e.trans ?_) rfl
  cases wb <;> rfl

/-- The end of an STRD: the base and the pc. -/
theorem finish_based (h : s.RunsArm c) {body : M Unit} {wb : Bool} {ea : Word} {ev : List (BitVec 8)} {m : Memory}
    (e : body s = (do writeBack wb rn ea; next : M Unit) ((s.noted ev).setMem m)) :
    finish body s = .next { s with
      regs := s.basedRegs wb rn ea
      pc := s.pc + 4
      mem := m
      run := { s.run with events := ev } } :=
  finish_next_arm (t := ((s.noted ev).setMem m).setRegs (s.basedRegs wb rn ea)) h
    (e.trans (writeBack_next s wb rn ea s.clk s.dbg s.trace m { s.run with events := ev })) rfl

theorem stored_accessed (s : State) (m m' : Memory) : (s.accessed.setMem m).accessed.setMem m' =
    (s.noted (0x0B :: 0x0A :: 0x0B :: 0x0A :: s.run.events)).setMem m' := by
  cases s
  rfl

section Aligned
variable (h : s.RunsArm c) (hd : s.Direct) (hq : s.run.env = []) (heven : rd.getLsbD 0 = false)
  (ha : s.Aligned (s.addressOf p u rn (s.offsetSmall off)) 8)
include h hd hq heven ha

/-- LDRD of an even register: both words, the base, and the registers. -/
theorem loadDouble_loads (hok : (Instr.ldrd c p u w rn rd off).operandsAllowed = true) :
    let a := s.addressOf p u rn (s.offsetSmall off)
    let based := s.basedRegs (writesBack p w) rn (s.indexedBy u rn (s.offsetSmall off))
    ∃ events, finish (loadDouble p u w rn rd off) s = .next { s with
      regs := (based.set (s.bank rd) (s.mem.readBytes (s.physical a 4) 4)).set (s.bank (rd + 1))
        (s.mem.readBytes (s.physical (a + 4) 4) 4)
      pc := s.pc + 4
      run := { s.run with events := events } } := by
  have haddress := singleAddress_ready h.ready (offsetThree_ready h.ready off) p u rn
  generalize s.addressOf p u rn (s.offsetSmall off) = a at ha haddress ⊢
  intro a' based
  obtain ⟨hlow, hhigh⟩ := aligned_words ha
  have hfirst := memRead_aligned hd hlow s.userMode
  have hgap : betweenWords s.accessed = .ok () s.accessed := betweenWords_alone hq
  have hphysical : s.accessed.physical (a + 4) 4 = s.physical (a + 4) 4 := rfl
  have hsecond := memRead_aligned (s := s.accessed) (va := a + 4) (noted_direct hd _) hhigh s.userMode
  rw [hphysical] at hsecond
  have hmem : s.accessed.mem = s.mem := rfl
  rw [hmem] at hsecond
  have hbody : loadDouble p u w rn rd off s = (do
      writeBack (writesBack p w) rn (s.indexedBy u rn (s.offsetSmall off))
      setReg rd (s.mem.readBytes (s.physical a 4) 4)
      setReg (rd + 1) (s.mem.readBytes (s.physical (a + 4) 4) 4)
      next : M Unit) s.accessed.accessed :=
    (double_checked heven hok _).trans ((M.bind_ok _ haddress).trans ((M.bind_ok _ (asUser_apply s)).trans
    ((M.bind_ok _ (M.state_apply s)).trans ((M.bind_ok _ (checkAlign_aligned ha)).trans ((M.bind_ok _ hfirst).trans
      ((M.bind_ok _ hgap).trans (M.bind_ok _ hsecond)))))))
  exact ⟨_, finish_pair (ev := s.accessed.accessed.run.events) h hbody⟩

/-- STRD of an even register: both words in turn, and the base. -/
theorem storeDouble_stores (hok : (Instr.strd c p u w rn rd off).operandsAllowed = true) :
    let a := s.addressOf p u rn (s.offsetSmall off)
    ∃ (m m' : Memory) (events : List (BitVec 8)), finish (storeDouble p u w rn rd off) s = .next { s with
        regs := s.basedRegs (writesBack p w) rn (s.indexedBy u rn (s.offsetSmall off))
        pc := s.pc + 4
        mem := m'
        run := { s.run with events := events } } ∧
      Stored s.mem m (s.physical a 4) 4 (s.readReg rd) ∧ Stored m m' (s.physical (a + 4) 4) 4 (s.readReg (rd + 1)) := by
  have haddress := singleAddress_ready h.ready (offsetThree_ready h.ready off) p u rn
  generalize s.addressOf p u rn (s.offsetSmall off) = a at ha haddress ⊢
  obtain ⟨hlow, hhigh⟩ := aligned_words ha
  obtain ⟨m, hfirst, hcanonical, hm⟩ := memWrite_aligned hd (n := 4) (by decide) hlow (s.readReg rd) s.userMode
  have hgap : betweenWords (s.accessed.setMem m) = .ok () (s.accessed.setMem m) := betweenWords_alone hq
  obtain ⟨m', hsecond, -, hm'⟩ := memWrite_aligned (s := s.accessed.setMem m) (va := a + 4) (stored_direct hd _ hcanonical)
    (n := 4) (by decide) hhigh (s.readReg (rd + 1)) s.userMode
  have hphysical : (s.accessed.setMem m).physical (a + 4) 4 = s.physical (a + 4) 4 := rfl
  have hmem : (s.accessed.setMem m).mem = m := rfl
  have hstate : (s.accessed.setMem m).accessed.setMem m' =
      (s.noted (0x0B :: 0x0A :: 0x0B :: 0x0A :: s.run.events)).setMem m' := stored_accessed s m m'
  rw [hphysical, hmem] at hm'
  rw [hstate] at hsecond
  have hbody : storeDouble p u w rn rd off s = (do
      writeBack (writesBack p w) rn (s.indexedBy u rn (s.offsetSmall off))
      next : M Unit) ((s.noted (0x0B :: 0x0A :: 0x0B :: 0x0A :: s.run.events)).setMem m') :=
    (double_checked heven (strd_operandsAllowed.symm.trans hok) _).trans ((M.bind_ok _ haddress).trans
      ((M.bind_ok _ (reg_ready h.ready rd)).trans ((M.bind_ok _ (reg_ready h.ready (rd + 1))).trans
        ((M.bind_ok _ (asUser_apply s)).trans ((M.bind_ok _ (M.state_apply s)).trans
          ((M.bind_ok _ (checkAlign_aligned ha)).trans ((M.bind_ok _ hfirst).trans ((M.bind_ok _ hgap).trans
            (M.bind_ok _ hsecond)))))))))
  exact ⟨m, m', _, finish_based h hbody, hm, hm'⟩

end Aligned

end Double

end Sys2Proof.Machine

open Sys2Proof Sys2Proof.Machine

/-- Settles O13. An odd register is undefined before anything else; with an even one both words are accessed in turn
(`loadDouble_loads`, `storeDouble_stores`). -/
theorem doublewordResult : Obligations.DoublewordResult := by
  intro s c p u w rn rd off h hd hq o a based word
  rw [exec_ldrd h, exec_strd h]
  split
  · next hodd =>
    intro hs
    have hentered := undefinedInstruction_entered h.arm hd.noDebug
    exact ⟨⟨_, finish_undefined (loadDouble_odd hodd) hs, hentered⟩,
      ⟨_, finish_undefined (storeDouble_odd hodd) hs, hentered⟩⟩
  · next hodd =>
    have heven : rd.getLsbD 0 = false := eq_false_of_ne_true hodd
    exact fun ha => ⟨loadDouble_loads h hd hq heven ha, storeDouble_stores h hd hq heven ha⟩

end

section
/-! # Operands that break a restriction (93 U60, U61) -/

namespace Sys2Proof.Machine

/-! ## The frames of an instruction, with a restriction broken -/

section Frames
variable {s : State} {c : Cond} {ok : Bool} {rd : Reg}

/-- A restriction that is broken stops the body before it does anything. -/
theorem not_allowed_stops (hok : ok = false) {α : Type} (body : M α) :
    (do allowed ok; body : M α) s = .error (.refuse .operandRestriction) s := by
  subst hok
  rfl

variable (hc : s.cpsr.holds c = true)
include hc

theorem runIf_not_allowed (hok : ok = false) (body : M Unit) :
    runIf c (do allowed ok; body) s = .refused .operandRestriction :=
  (runIf_holds _ hc).trans (finish_not_allowed hok body)

theorem runBranch_not_allowed (f : Flow) (hok : ok = false) (body : M Unit) :
    runBranch c f (do allowed ok; body) s = .refused .operandRestriction :=
  (runBranch_holds f _ hc).trans (finish_not_allowed hok body)

theorem runToPc_not_allowed (toPc : Bool) (hok : ok = false) (body : M Unit) :
    runToPc toPc c (do allowed ok; body) s = .refused .operandRestriction := by
  cases toPc with
  | true => exact runBranch_not_allowed hc _ hok body
  | false => exact runIf_not_allowed hc hok body

variable (hp : s.privileged = true)

theorem userWrite_not_allowed (hok : notPc [rd] = false) (effect : Word → M Unit) :
    userWrite c rd effect s = .refused .operandRestriction := runIf_not_allowed hc hok _

include hp in
theorem runIf_privileged_not_allowed (hok : ok = false) (body : M Unit) :
    runIf c (do privilegedOnly; allowed ok; body) s = .refused .operandRestriction := by
  have hmode : privilegedOnly s = .ok () s := by simp [privilegedOnly, M.bind_apply, hp]
  exact (runIf_holds _ hc).trans (finish_refuse ((M.bind_ok _ hmode).trans (not_allowed_stops hok body)))

include hp in
theorem systemWrite_not_allowed (hok : notPc [rd] = false) (effect : Word → M Unit) :
    systemWrite c rd effect s = .refused .operandRestriction := runIf_privileged_not_allowed hc hp hok _

include hp in
theorem systemRead_not_allowed (hok : notPc [rd] = false) (value : M Word) :
    systemRead c rd value s = .refused .operandRestriction := runIf_privileged_not_allowed hc hp hok _

end Frames

/-! ## CP0: an encoding that the product does not add, or an operand -/

section Accumulator
variable {s : State} {c : Cond} {acc : BitVec 3} {ok : Bool}

/-- An instruction of CP0 with another accumulator, or with an operand that is not allowed. -/
theorem runIf_cp0_refuses (hc : s.cpsr.holds c = true) (hright : s.cp15.cpar.getLsbD 0 = true)
    (hplain : s.cfg.cp0Extended = false) (hok : (isZero acc && ok) = false) (other body : M Unit) :
    let body' : M Unit := if acc != 0 then do cp0Access; other else do accumulatorAccess; allowed ok; body
    runIf c body' s = .refused .operandRestriction ∨ runIf c body' s = .refused .cp0Unlisted := by
  dsimp only
  have hright' := accumulatorAccess_right hright
  rw [runIf_holds _ hc]
  by_cases hacc : acc = 0
  · subst hacc
    exact .inl (finish_refuse ((M.bind_ok _ hright').trans (not_allowed_stops hok body)))
  · have hother : cp0Access s = .error (.refuse .cp0Unlisted) s := by
      rw [cp0Access, M.bind_ok _ hright', M.bind_ok _ (M.state_apply s), hplain]
      rfl
    rw [if_pos (bne_iff_ne.mpr hacc)]
    exact .inr (finish_refuse (M.bind_error _ hother))

end Accumulator

/-! ## Every instruction -/

section Every
variable {s : State} {i : Instr}

/-- LDRD and STRD: an odd register is no restriction, so the register is even. -/
theorem doubleAllowed_of_restricted {c : Cond} {p u w : Bool} {rn rd : Reg} {off : Offset3}
    (h : (Instr.ldrd c p u w rn rd off).operandsAllowed = false) :
    rd.getLsbD 0 = false ∧ doubleAllowed p w rn rd off = false := by
  cases hodd : rd.getLsbD 0 with
  | true =>
    have hbit : rd[0] = true := hodd
    cases off <;> simp [Instr.operandsAllowed, pairAllowed, pairOffsetAllowed, hbit] at h
  | false =>
    have hbit : rd[0] = false := hodd
    refine ⟨rfl, ?_⟩
    rw [← h]
    cases off <;>
      simp [Instr.operandsAllowed, doubleAllowed, offsetPairAllowed, hbit, Bool.and_assoc, Bool.and_left_comm]

/-- Each instruction asks for its restriction before it does anything, after the privileged mode or the right of CP0 where it
needs one. -/
theorem exec_restricted (h : i.operandsAllowed = false) (hcond : ∀ c, i.cond = some c → s.cpsr.holds c = true)
    (hp : s.privileged = true) (hright : s.cp15.cpar.getLsbD 0 = true) (hplain : s.cfg.cp0Extended = false) :
    exec i s = .refused .operandRestriction ∨ exec i s = .refused .cp0Unlisted := by
  cases i
  -- Data processing
  case and c sf rn rd so | eor c sf rn rd so | sub c sf rn rd so | rsb c sf rn rd so | add c sf rn rd so |
      adc c sf rn rd so | sbc c sf rn rd so | rsc c sf rn rd so | orr c sf rn rd so | bic c sf rn rd so =>
    have hok : shifterAllowed [rn, rd] so = false := by cases so <;> exact h
    exact .inl (runToPc_not_allowed (hcond c rfl) _ hok _)
  case mov c sf sbz rd so | mvn c sf sbz rd so =>
    have hok : (isZero sbz && shifterAllowed [rd] so) = false := by
      cases so <;> simpa [shifterAllowed, Instr.operandsAllowed] using h
    exact .inl (runToPc_not_allowed (hcond c rfl) _ hok _)
  case tst c rn sbz so | teq c rn sbz so | cmp c rn sbz so | cmn c rn sbz so =>
    have hok : (isZero sbz && shifterAllowed [rn] so) = false := by
      cases so <;> simpa [shifterAllowed, Instr.operandsAllowed] using h
    exact .inl (runIf_not_allowed (hcond c rfl) hok _)
  case clz c _ _ _ _ | mul c _ _ _ _ _ | mla c _ _ _ _ _ | umull c _ _ _ _ _ | umlal c _ _ _ _ _ | smull c _ _ _ _ _ |
      smlal c _ _ _ _ _ | smulxy c _ _ _ _ _ _ | smulwy c _ _ _ _ _ | smlaxy c _ _ _ _ _ _ | smlawy c _ _ _ _ _ |
      smlalxy c _ _ _ _ _ _ | qadd c _ _ _ _ | qsub c _ _ _ _ | qdadd c _ _ _ _ | qdsub c _ _ _ _ =>
    exact .inl (runIf_not_allowed (hcond c rfl) h _)
  -- Loads and stores
  case ldr c p u w rn rd off =>
    have hok : (baseAllowed (writesBack p w) rn rd && offsetTwoAllowed (writesBack p w) rn off) = false := by
      cases off <;> simpa [offsetTwoAllowed, Instr.operandsAllowed] using h
    exact .inl (runToPc_not_allowed (hcond c rfl) _ hok _)
  case str c p u w rn rd off =>
    have hok : (baseAllowed (writesBack p w) rn rd && offsetTwoAllowed (writesBack p w) rn off) = false := by
      cases off <;> simpa [offsetTwoAllowed, Instr.operandsAllowed] using h
    exact .inl (runIf_not_allowed (hcond c rfl) hok _)
  case ldrb c p u w rn rd off | strb c p u w rn rd off =>
    have hok : (baseAllowed (writesBack p w) rn rd && offsetTwoAllowed (writesBack p w) rn off && notPc [rd]) = false := by
      cases off <;> simpa [offsetTwoAllowed, Instr.operandsAllowed] using h
    exact .inl (runIf_not_allowed (hcond c rfl) hok _)
  case ldrt c u rn rd off | ldrbt c u rn rd off | strt c u rn rd off | strbt c u rn rd off =>
    have hok : (baseAllowed true rn rd && offsetTwoAllowed true rn off && notPc [rd]) = false := by
      cases off <;> simpa [offsetTwoAllowed, Instr.operandsAllowed] using h
    exact .inl (runIf_not_allowed (hcond c rfl) hok _)
  case ldrh c p u w rn rd off | ldrsh c p u w rn rd off | ldrsb c p u w rn rd off | strh c p u w rn rd off =>
    have hok : halfAllowed p w rn rd off = false := by
      rw [← h]
      cases off <;> simp [Instr.operandsAllowed, halfAllowed, offsetThreeAllowed, Bool.and_assoc, Bool.and_left_comm]
    exact .inl (runIf_not_allowed (hcond c rfl) hok _)
  case ldrd c p u w rn rd off | strd c p u w rn rd off =>
    obtain ⟨heven, hok⟩ := doubleAllowed_of_restricted (c := c) (p := p) (u := u) (w := w) (rn := rn) (rd := rd) (off := off)
      (by cases off <;> exact h)
    have hdefined : M.defined (!rd.getLsbD 0) s = .ok () s := by rw [heven]; rfl
    exact .inl ((runIf_holds _ (hcond c rfl)).trans
      (finish_refuse ((M.bind_ok _ hdefined).trans (not_allowed_stops hok _))))
  case pld u rn off => exact .inl (finish_not_allowed (by cases off <;> exact h) _)
  case ldm c _ _ _ _ _ => exact .inl (runToPc_not_allowed (hcond c rfl) _ h _)
  case ldmReturn c _ _ _ _ _ => exact .inl (runToPc_not_allowed (hcond c rfl) true h _)
  case ldmUser c _ _ _ _ _ | stm c _ _ _ _ _ | stmUser c _ _ _ _ _ | swp c _ _ _ _ | swpb c _ _ _ _ =>
    exact .inl (runIf_not_allowed (hcond c rfl) h _)
  -- Branches and status registers
  case blxReg c _ _ _ _ | bx c _ _ _ _ => exact .inl (runBranch_not_allowed (hcond c rfl) _ h _)
  case mrs c _ _ _ _ _ | msrImm c _ _ _ _ _ | msrReg c _ _ _ _ _ => exact .inl (runIf_not_allowed (hcond c rfl) h _)
  -- Coprocessors
  case mia c _ _ _ | miaph c _ _ _ | miabb c _ _ _ | miabt c _ _ _ | miatb c _ _ _ | miatt c _ _ _ =>
    exact runIf_cp0_refuses (hcond c rfl) hright hplain h _ _
  case mar c _ _ _ => exact runIf_cp0_refuses (hcond c rfl) hright hplain h _ _
  case mra c _ _ _ => exact runIf_cp0_refuses (hcond c rfl) hright hplain (by rw [← h]; exact (Bool.and_assoc ..).symm) _ _
  case ldcP14 c p _ _ w rn _ _ | stcP14 c p _ _ w rn _ _ =>
    have hok : (!w || rn != 15) = false := by
      rw [← h]
      cases p <;> cases w <;> rfl
    exact .inl (runIf_privileged_not_allowed (hcond c rfl) hp hok _)
  -- CP15, CP14 and CP7: R15 as the register
  case mrcMainId c rd | mrcL2Id c rd | mrcCacheType c rd | mrcL2CacheType c rd | mrcControl c rd | mrcAuxControl c rd |
      mrcTtBase c rd | mrcDacr c rd | mrcFsr c rd | mrcFar c rd | mrcDcLock c rd | mrcDcLockLegacy c rd | mrcPid c rd |
      mrcIbr0 c rd | mrcIbr1 c rd | mrcDbr0 c rd | mrcDbr1 c rd | mrcDbcon c rd | mrcCpar c rd =>
    exact .inl (systemRead_not_allowed (hcond c rfl) hp h _)
  case prefetchFlush c rd | dataWriteBarrier c rd | dataMemoryBarrier c rd | allocDcacheLine c rd =>
    exact .inl (userWrite_not_allowed (hcond c rfl) h _)
  case mcrControl c rd | mcrAuxControl c rd | mcrTtBase c rd | mcrDacr c rd | mcrFsr c rd | mcrFar c rd | mcrDcLock c rd |
      mcrDcLockLegacy c rd | mcrPid c rd | mcrIbr0 c rd | mcrIbr1 c rd | mcrDbr0 c rd | mcrDbr1 c rd | mcrDbcon c rd |
      mcrCpar c rd | invIcacheBtb c rd | invIcacheLine c rd | invBtb c rd | invDcache c rd | invDcacheLine c rd |
      invCachesBtb c rd | cleanDcacheMva c rd | cleanDcacheSetWay c rd | cleanInvDcacheMva c rd | cleanInvDcacheSetWay c rd |
      invL2Mva c rd | cleanL2Mva c rd | cleanL2SetWay c rd | cleanInvL2SetWay c rd | invTlbs c rd | invItlb c rd |
      invItlbEntry c rd | invDtlb c rd | invDtlbEntry c rd | lockIcacheLine c rd | lockIcacheLineLegacy c rd |
      unlockIcache c rd | unlockIcacheLegacy c rd | unlockDcache c rd | unlockDcacheLegacy c rd | lockL2Line c rd |
      allocLockL2Line c rd | unlockL2 c rd | lockItlbEntry c rd | unlockItlb c rd | lockDtlbEntry c rd | unlockDtlb c rd |
      mcrPmnc c rd | mcrCcnt c rd | mcrInten c rd | mcrFlag c rd | mcrEvtsel c rd | mcrPmn0 c rd | mcrPmn1 c rd |
      mcrPmn2 c rd | mcrPmn3 c rd | mcrCclkcfg c rd | mcrPwrmode c rd | mcrTx c rd | mcrDcsr c rd | mcrChkpt0 c rd |
      mcrChkpt1 c rd | mcrTxrxctrl c rd | mcrErrlog c rd | mcrErradrl c rd | mcrErradru c rd =>
    exact .inl (systemWrite_not_allowed (hcond c rfl) hp h _)
  -- Thumb
  case tAddHi | tCmpHi | tMovHi | tBx | tBlxReg | tPush | tPop | tStmia | tLdmia => exact .inl (finish_not_allowed h _)
  -- No restriction
  case tLsl op | tLsr op | tAsr op | tAdd op | tSub op | tCmp op | tLdr _ op | tStr _ op | tStrh _ op | tStrb _ op |
      tLdrh _ op | tLdrb _ op | tUndefined op =>
    cases op <;> cases h
  all_goals cases h

end Every

end Sys2Proof.Machine

open Sys2Proof Sys2Proof.Machine

/-- Settles O26: an instruction asks for its restriction before it reads or writes anything (`exec_restricted`). -/
theorem restrictedOperandsRefuse : Obligations.RestrictedOperandsRefuse :=
  fun _ _ h hcond _ hp hright hplain => exec_restricted h hcond hp hright hplain

end

section
/-! # The instruction cache functions (45 R664 to R666, R676, R696, R697; 22 R314) -/

namespace Sys2Proof.Machine

/-! ## Lines kept and dropped -/

theorem mapKeys_filter {α : Type} (p : α → Bool) (l : List (Nat × α)) :
    mapKeys (fun _ x => if p x then some x else none) l = l.filter fun e => p e.2 := by
  induction l with
  | nil => rfl
  | cons e t ih => cases hp : p e.2 <;> simp [mapKeys, hp, ih]

/-! ## An allowed function -/

section Functions
variable {s : State} {c : Cond} {rd : Reg} {caches : Caches}

/-- An allowed MCR that changes the caches alone. -/
theorem systemWrite_setCaches (h : s.RunsArm c) (hp : s.privileged = true) (h15 : rd ≠ 15) {effect : Word → M Unit}
    (e : effect (s.readReg rd) s = .ok () (s.setCaches caches)) :
    systemWrite c rd effect s = .next { s with pc := s.pc + 4, caches := caches } :=
  systemWrite_next h hp h15 e rfl

/-- One that User mode may use. -/
theorem userWrite_setCaches (h : s.RunsArm c) (h15 : rd ≠ 15) {effect : Word → M Unit}
    (e : effect (s.readReg rd) s = .ok () (s.setCaches caches)) :
    userWrite c rd effect s = .next { s with pc := s.pc + 4, caches := caches } := by
  rw [userWrite_runs h h15 e, ← size_eq_four h]
  rfl

end Functions

/-! ## Invalidate and unlock -/

section Lines
variable {s : State}

/-- The instruction side with no line but the locked ones, the replacement state as after reset, and the buffers empty. -/
def ICache.invalidated (i : ICache) : ICache :=
  { i with lines := i.lines.filter (·.2.locked), lru := [], buffers := Vector.replicate 2 none }

theorem invalidateI_eq (s : State) :
    s.invalidateI = s.setCaches { s.caches with i := s.caches.i.invalidated, btb := [] } := by
  rw [ICache.invalidated, ← mapKeys_filter fun x : ILine => x.locked]
  rfl

theorem invalidateILine_found {mva : Word} {way : Nat} {x : ILine} (hfind : s.iFind (mvaLine mva) = some (way, x)) :
    s.invalidateILine mva = s.setCaches { s.caches with i := { s.caches.i with
      lines := eraseKey (4 * l1Set (mvaLine mva) + way) s.caches.i.lines
      buffers := Vector.replicate 2 none
      lru := insertKey (l1Set (mvaLine mva)) ((lruAt s.caches.i.lru (l1Set (mvaLine mva))).point way) s.caches.i.lru } } := by
  rw [State.invalidateILine, hfind]
  rfl

theorem invalidateILine_missing {mva : Word} (hfind : s.iFind (mvaLine mva) = none) :
    s.invalidateILine mva = s.setCaches { s.caches with i := { s.caches.i with buffers := Vector.replicate 2 none } } := by
  rw [State.invalidateILine, hfind]
  rfl

theorem unlockILines_on (hon : s.cp15.ctrl.icache = true) : unlockILines s = .ok () (s.setCaches { s.caches with
    i := { s.caches.i with lines := s.caches.i.lines.map fun e => (e.1, { e.2 with locked := false }) } }) := by
  rw [unlockILines, M.bind_ok s (M.state_apply s), hon, ← mapKeys_some fun x : ILine => { x with locked := false }]
  rfl

theorem unlockILines_off (hoff : s.cp15.ctrl.icache = false) :
    unlockILines s = .error (.refuse .lockOnDisabledCache) s := by
  rw [unlockILines, M.bind_ok s (M.state_apply s), hoff]
  rfl

end Lines

/-! ## Fetch and Lock -/

section Lock

/-- The least recently used of some ways is one of them. -/
theorem Lru.oldest_mem (l : Lru) {ways : List Nat} (hsome : ways ≠ []) (hsmall : ∀ w ∈ ways, w < 4) :
    l.oldest ways ∈ ways := by
  rw [Lru.oldest]
  split
  · next w hw => exact List.mem_of_find?_eq_some hw
  · next hall =>
    obtain ⟨w, hw⟩ := List.exists_mem_of_ne_nil ways hsome
    have hused : Fin.ofNat 4 w ∈ l.recent := by simpa using List.find?_eq_none.mp hall w hw
    have hway : (Fin.ofNat 4 w).val = w := Nat.mod_eq_of_lt (hsmall w hw)
    cases hfind : l.recent.reverse.find? (fun v => ways.contains v.val) with
    | none =>
      have hnone := List.find?_eq_none.mp hfind _ (List.mem_reverse.mpr hused)
      exact absurd (List.contains_iff_mem.mpr (hway.symm ▸ hw)) hnone
    | some v => simpa using List.find?_some hfind

variable {s : State}

/-- Into a set with no locked line a line to lock goes at one of the ways 1 to 3 (22 R318, R332). -/
theorem Lru.choose_lock (l : Lru) : 1 ≤ l.choose (fun _ => false) true false ∧ l.choose (fun _ => false) true false ≤ 3 := by
  have hmem : l.oldest [1, 2, 3] ∈ [1, 2, 3] := l.oldest_mem (by decide) (by decide)
  have hchoose : l.choose (fun _ => false) true false = l.oldest [1, 2, 3] := rfl
  rw [hchoose]
  generalize l.oldest [1, 2, 3] = way at hmem
  simp only [List.mem_cons, List.not_mem_nil, or_false] at hmem
  omega

theorem iVictim_empty (hempty : s.caches.i.lines = []) (set : Nat) :
    s.iVictim set true = (lruAt s.caches.i.lru set).choose (fun _ => false) true false := by
  rw [State.iVictim, hempty]
  rfl

/-- With the MMU off the page is the MVA's own, cacheable on the instruction side (45 R696). -/
theorem lockPage_mmuOff (hmmu : s.cp15.ctrl.mmu = false) (mva : Word) :
    lockPage mva s = .ok (mva.setWidth 36, true, false, false) s := by
  simp [lockPage, M.bind_apply, hmmu]

theorem lineOf_setWidth (mva : Word) : lineOf (mva.setWidth 36) = 0#4 ++ mvaLine mva := by
  apply BitVec.eq_of_toNat_eq
  have hlt := mva.isLt
  simp only [lineOf, mvaLine, BitVec.toNat_append, BitVec.extractLsb'_toNat, BitVec.toNat_setWidth, BitVec.toNat_ofNat,
    Nat.shiftRight_eq_div_pow, Nat.zero_mod, Nat.zero_shiftLeft, Nat.zero_or]
  omega

/-- The first line of the cache. -/
theorem iPut_empty (hempty : s.caches.i.lines = []) (set way : Nat) (x : ILine) :
    s.iPut set way x = s.setCaches { s.caches with i := { s.caches.i with
      lines := [(4 * set + way, x)]
      lru := insertKey set ((lruAt s.caches.i.lru set).touch way) s.caches.i.lru } } := by
  have hlines : insertKey (4 * set + way) x s.caches.i.lines = [(4 * set + way, x)] := by rw [hempty]; rfl
  rw [← hlines]
  rfl

/-- A body that makes no note keeps its own answer when its notes are left out. -/
theorem uncounted_silent {α : Type} {m : M α} {a : α} {t : State} (e : m s = .ok a t)
    (hnotes : t.run.events = s.run.events) : uncounted m s = .ok a t := by
  have hkept : t.withoutL2Notes s = t := by
    rw [State.withoutL2Notes, ← hnotes, Nat.sub_self]
    rfl
  simp only [uncounted, e, hkept]

theorem lockILine_disabled (hoff : s.cp15.ctrl.icache = false) (mva : Word) :
    lockILine mva s = .error (.refuse .lockOnDisabledCache) s := by
  rw [lockILine, M.bind_ok s (M.state_apply s), hoff]
  rfl

theorem lockILine_resident (hon : s.cp15.ctrl.icache = true) {mva : Word} (hfind : s.iFind (mvaLine mva) ≠ none) :
    lockILine mva s = .error (.refuse .icacheLockPrecondition) s := by
  have hsome : (s.iFind (mvaLine mva)).isNone = false := Option.isNone_eq_false_iff.mpr (Option.isSome_iff_ne_none.mpr hfind)
  rw [lockILine, M.bind_ok s (M.state_apply s), hon, hsome]
  rfl

/-- With the MMU off and no line held the line of memory is locked, in a way from 1 to 3 (45 R696). -/
theorem lockILine_empty (hmmu : s.cp15.ctrl.mmu = false) (hon : s.cp15.ctrl.icache = true) (hbus : s.ext.busErrors = [])
    (hempty : s.caches.i.lines = []) (mva : Word) : ∃ way lru, 1 ≤ way ∧ way ≤ 3 ∧
      lockILine mva s = .ok () (s.setCaches { s.caches with i := { s.caches.i with
        lines := [(4 * l1Set (mvaLine mva) + way,
          ⟨mvaLine mva, true, s.mem.readBytes (lineAddr (0#4 ++ mvaLine mva)) 32, 0⟩)]
        lru := lru } }) := by
  have hway := (lruAt s.caches.i.lru (l1Set (mvaLine mva))).choose_lock
  rw [← iVictim_empty hempty] at hway
  have hlocked : (s.iVictim (l1Set (mvaLine mva)) true != 0) = true := by
    rw [bne_iff_ne]
    omega
  have hread := uncounted_silent (readNext_memory hmmu hbus (mvaLine mva) (lineOf (mva.setWidth 36)) false false false) rfl
  rw [lineOf_setWidth] at hread
  refine ⟨s.iVictim (l1Set (mvaLine mva)) true,
    insertKey (l1Set (mvaLine mva)) ((lruAt s.caches.i.lru (l1Set (mvaLine mva))).touch (s.iVictim (l1Set (mvaLine mva)) true))
      s.caches.i.lru, hway.1, hway.2, ?_⟩
  simp only [lockILine, M.bind_apply, M.state_apply, hon, M.require_true, iFind_empty hempty, Option.isNone_none,
    lockPage_mmuOff hmmu, hread, Bool.false_eq_true, if_false, settle_full, M.update_apply, iPut_empty hempty, hlocked,
    State.memoryLine, lineOf_setWidth]

end Lock

end Sys2Proof.Machine

open Sys2Proof Sys2Proof.Machine

/-- Settles O31. Each function is one change of the instruction side (`invalidateI_eq`, `invalidateILine_found`,
`unlockILines_on`); Fetch and Lock reads the line from memory and takes a way from 1 to 3 (`lockILine_empty`). -/
theorem instructionCacheFunctions : Obligations.InstructionCacheFunctions := by
  refine ⟨fun s c rd h h15 => ?functions, fun s c rd i hi h h15 hp hmmu => ?lock⟩
  case functions =>
    intro v i empty done unlocked
    refine ⟨userWrite_setCaches h h15 rfl, fun hp => ⟨?all, ?btb, fun way x hfind => ?line, fun hfind => ?missing, ?unlock⟩⟩
    case all => exact systemWrite_setCaches h hp h15 (congrArg (EStateM.Result.ok ()) (invalidateI_eq s))
    case btb => exact systemWrite_setCaches h hp h15 rfl
    case line => exact systemWrite_setCaches h hp h15 (congrArg (EStateM.Result.ok ()) (invalidateILine_found hfind))
    case missing => exact systemWrite_setCaches h hp h15 (congrArg (EStateM.Result.ok ()) (invalidateILine_missing hfind))
    case unlock =>
      split
      · next hon =>
        have hon := unlockILines_on hon
        exact ⟨systemWrite_setCaches h hp h15 hon, systemWrite_setCaches h hp h15 hon⟩
      · next hoff =>
        have hoff := unlockILines_off (eq_false_of_ne_true hoff)
        exact ⟨systemWrite_refused h hp h15 hoff, systemWrite_refused h hp h15 hoff⟩
  case lock =>
    have hexec : exec i s = systemWrite c rd lockILine s := by rcases hi with rfl | rfl <;> rfl
    rw [hexec]
    intro line
    refine ⟨fun hoff => ?_, fun hon hfind => ?_, fun hon hbus hempty => ?_⟩
    · exact systemWrite_refused h hp h15 (lockILine_disabled hoff _)
    · exact systemWrite_refused h hp h15 (lockILine_resident hon hfind)
    · obtain ⟨way, lru, hlow, hhigh, e⟩ := lockILine_empty hmmu hon hbus hempty (s.readReg rd)
      exact ⟨way, lru, hlow, hhigh, systemWrite_setCaches h hp h15 e⟩

end

section
/-! # The D-cache functions that write nothing back (45 R667 to R669, R685, R699; 22 R330 to R338) -/

namespace Sys2Proof.Machine

/-! ## Invalidate and unlock -/

section Lines
variable {s : State}

/-- The D-cache with no line but the locked ones, the replacement state as it was (45 R663). -/
def DCache.invalidated (d : DCache) : DCache := { d with lines := d.lines.filter (·.2.locked) }

theorem invalidateD_eq (s : State) : s.invalidateD = s.setCaches { s.caches with d := s.caches.d.invalidated } := by
  rw [DCache.invalidated, ← mapKeys_filter fun x : DLine => x.locked]
  rfl

theorem invalidateI_invalidateD_eq (s : State) : s.invalidateI.invalidateD = s.setCaches { s.caches with
    i := s.caches.i.invalidated, d := s.caches.d.invalidated, btb := [] } := by
  rw [invalidateI_eq, invalidateD_eq]
  rfl

theorem unlockDLines_on (hon : s.cp15.ctrl.dcache = true) : unlockDLines s = .ok () (s.setCaches { s.caches with
    d := { s.caches.d with lines := s.caches.d.lines.map fun e => (e.1, { e.2 with locked := false }) } }) := by
  rw [unlockDLines, M.bind_ok s (M.state_apply s), hon, ← mapKeys_some fun x : DLine => { x with locked := false }]
  rfl

end Lines

/-! ## The D-cache functions need the MMU (U56) -/

section Function
variable {s : State} {mva : Word} {f : Nat → Nat → DLine → M Unit}

theorem dFunction_mmuOff (hmmu : s.cp15.ctrl.mmu = false) : dFunction s = .error (.refuse .dcacheWithoutMmu) s := by
  rw [dFunction, M.bind_ok s (M.state_apply s), hmmu]
  rfl

variable (hmmu : s.cp15.ctrl.mmu = true)
include hmmu

theorem dFunction_mmuOn : dFunction s = .ok () s := by
  rw [dFunction, M.bind_ok s (M.state_apply s), hmmu]
  rfl

theorem dByMva_found {way : Nat} {x : DLine} (hfind : s.dFind (mvaLine mva) = some (way, x)) :
    dByMva mva f s = f (l1Set (mvaLine mva)) way x s := by
  rw [dByMva, M.bind_ok s (dFunction_mmuOn hmmu), M.bind_ok s (M.state_apply s), hfind]

theorem dByMva_missing (hfind : s.dFind (mvaLine mva) = none) : dByMva mva f s = .ok () s := by
  rw [dByMva, M.bind_ok s (dFunction_mmuOn hmmu), M.bind_ok s (M.state_apply s), hfind]
  rfl

end Function

/-! ## Data Cache Line Allocate -/

section Allocate
variable {s : State} {mva : Word} {e : TlbEntry} {a : Attr}

/-- A translation that a TLB holds, as the tables give it now. -/
theorem findEntry_held {kind : AccessKind} (hheld : (s.tlbFor kind).lookup mva = some e)
    (hcurrent : s.entryCurrent e mva = true) : findEntry mva kind s = .ok (.ok e) s := by
  rw [findEntry, M.bind_ok s (M.state_apply s), hheld]
  simp only [heldEntry, M.bind_apply, M.state_apply, hcurrent, if_true, M.pure_apply]

/-- Manager access checks no permission (21 R274). -/
theorem checkEntry_manager (hdomain : dacrField s.cp15.dacr e.domain = 3) (mva : Word) (kind : AccessKind) (user : Bool) :
    checkEntry e mva kind user s = .ok (.ok ()) s := by
  rw [checkEntry, M.bind_ok s (M.state_apply s), hdomain]
  rfl

theorem attributes_of_attr (hs : e.s = false) (hbit : s.cfg.pBitUsed = false) (hattr : s.attr e = some a) :
    attributes e s = .ok a s := by
  simp only [attributes, M.bind_apply, sharable_ok (.inl hs), M.state_apply, hbit, Bool.false_and, Bool.not_false,
    M.require_true, hattr, M.pure_apply]

/-- A line put in a D-cache that holds none. -/
theorem dPut_empty (hempty : s.caches.d.lines = []) (set way : Nat) (x : DLine) :
    (s.dPut set way x).dTouch set way = s.setCaches { s.caches with d :=
      ⟨[(4 * set + way, x)], insertKey set ((lruAt s.caches.d.lru set).touch way) s.caches.d.lru⟩ } := by
  have hlines : insertKey (4 * set + way) x s.caches.d.lines = [(4 * set + way, x)] := by rw [hempty]; rfl
  rw [← hlines]
  rfl

/-- Into a D-cache that holds no line, with no line being locked, nothing is evicted (22 R336). -/
theorem dAllocate_empty (hempty : s.caches.d.lines = []) (hlock : s.cp15.dcLock = false) (line : BitVec 27)
    (pline : BitVec 31) (a : Attr) (data : BitVec 256) (known : BitVec 32) : ∃ way lru,
      dAllocate line pline a data known s = .ok () (s.setCaches { s.caches with d :=
        ⟨[(4 * l1Set line + way, ⟨line, pline, false, false, a.outer, a.shared, data, known, 0⟩)], lru⟩ }) := by
  refine ⟨_, _, Eq.trans ?_ (congrArg (EStateM.Result.ok ()) (dPut_empty hempty (l1Set line)
    ((lruAt s.caches.d.lru (l1Set line)).choose (fun _ => false) false a.llr)
    ⟨line, pline, false, false, a.outer, a.shared, data, known, 0⟩))⟩
  simp only [dAllocate, M.bind_apply, M.state_apply, hempty, hlock, lookupKey, Option.map_none, Option.getD_none,
    Bool.false_and, Bool.false_eq_true, if_false, M.pure_apply, M.update_apply]

/-- With the MMU off nothing is cached. -/
theorem allocateLine_mmuOff (hge : s.dbg.dcsr.ge = false) (hmmu : s.cp15.ctrl.mmu = false) (va : Word) :
    allocateLine va s = .ok () s := by
  simp [allocateLine, locateMva, M.bind_apply, M.map_apply, hmmu, noteBreak_noDebug hge, State.dCaches, Attr.stronglyOrdered,
    Attr.uncached]

/-- For an address whose translation the DTLB holds, in a domain with manager access, a line with no byte known is allocated
(45 R685). -/
theorem allocateLine_empty (hge : s.dbg.dcsr.ge = false) (hmmu : s.cp15.ctrl.mmu = true) {va : Word}
    (hheld : s.tlbs.d.lookup (s.remap va) = some e) (hcurrent : s.entryCurrent e (s.remap va) = true)
    (hdomain : dacrField s.cp15.dacr e.domain = 3) (hattr : attributes e s = .ok a s) (hcaches : s.dCaches a = true)
    (hempty : s.caches.d.lines = []) :
    allocateLine va s = dAllocate (mvaLine (s.remap va)) (lineOf (e.pa (s.remap va))) a 0 0 s := by
  have htranslate : translate (s.remap va) .write s.userMode s = .ok (.ok (e.pa (s.remap va), e)) s := by
    simp only [translate, M.bind_apply, findEntry_held (kind := .write) hheld hcurrent, checkEntry_manager hdomain, M.pure_apply]
  have hlocate : locateMva (s.remap va) .write s.userMode s = .ok ⟨s.remap va, e.pa (s.remap va), a⟩ s := by
    simp only [locateMva, M.bind_apply, M.state_apply, hmmu, if_true, htranslate, hattr, M.pure_apply]
  simp only [allocateLine, M.bind_apply, M.state_apply, hlocate, M.update_apply, noteBreak_noDebug hge, hcaches,
    dFind_direct hempty, Option.isNone_none, Bool.and_self, if_true]

end Allocate

end Sys2Proof.Machine

open Sys2Proof Sys2Proof.Machine

/-- Settles O32. Each invalidation is one change of the caches (`invalidateD_eq`, `invalidateI_invalidateD_eq`,
`dByMva_found`); Data Cache Line Allocate finds the held translation and fills an empty way (`allocateLine_empty`,
`dAllocate_empty`). -/
theorem dataCacheInvalidateFunctions : Obligations.DataCacheInvalidateFunctions := by
  refine ⟨fun s c rd h h15 hp => ?functions, fun s c rd h h15 hge => ?allocate⟩
  case functions =>
    intro v i d empty done unlocked kept
    have writes {effect : Word → M Unit} {caches : Caches} (e : effect v s = .ok () (s.setCaches caches)) :
        systemWrite c rd effect s = done caches := systemWrite_setCaches h hp h15 e
    refine ⟨fun hmmu => ⟨?all, ?caches, fun way x hfind => ?line, fun hfind => ?missing⟩, fun hmmu => ?mmuOff, fun hon => ?unlock⟩
    case all => exact writes ((M.bind_ok s (dFunction_mmuOn hmmu)).trans (congrArg (EStateM.Result.ok ()) (invalidateD_eq s)))
    case caches =>
      exact writes ((M.bind_ok s (dFunction_mmuOn hmmu)).trans
        (congrArg (EStateM.Result.ok ()) (invalidateI_invalidateD_eq s)))
    case line => exact writes (dByMva_found hmmu hfind)
    case missing => exact writes (dByMva_missing hmmu hfind)
    case mmuOff =>
      have refuses {m : Word → M Unit} : systemWrite c rd (fun v => do dFunction; m v) s = .refused .dcacheWithoutMmu :=
        systemWrite_refused h hp h15 (M.bind_error _ (dFunction_mmuOff hmmu))
      exact ⟨refuses, refuses, refuses⟩
    case unlock => exact ⟨writes (unlockDLines_on hon), writes (unlockDLines_on hon)⟩
  case allocate =>
    intro mva
    refine ⟨fun hmmu => ?mmuOff, fun e a hmmu hheld hcurrent hdomain hs hbit hattr hcacheable hon hempty hlock => ?held⟩
    case mmuOff => exact userWrite_setCaches h h15 (caches := s.caches) (allocateLine_mmuOff hge hmmu _)
    case held =>
      have hcaches : s.dCaches a = true := by simp [State.dCaches, hcacheable, hon]
      obtain ⟨way, lru, hallocate⟩ := dAllocate_empty hempty hlock (mvaLine mva) (lineOf (e.pa mva)) a 0 0
      exact ⟨way, lru, userWrite_setCaches h h15 ((allocateLine_empty hge hmmu hheld hcurrent hdomain
        (attributes_of_attr hs hbit hattr) hcaches hempty).trans hallocate)⟩

end

section
/-! # The D-cache clean functions (45 R662, R670 to R673; 22 R341) -/

namespace Sys2Proof.Machine

section Clean
variable {s : State} {x : DLine}

/-- A line with every byte known and no parity error, in a state where nothing waits before its write-back: no L2 in use, no
store or line on its way, no bus error. -/
structure State.Cleanable (s : State) (x : DLine) : Prop where
  noL2 : s.l2On = false
  buffer : s.caches.buf.entries = []
  leaving : s.caches.l2.leaving = []
  noErrors : s.ext.busErrors = []
  canonical : s.mem.wf = true
  parity : x.parity = 0
  known : x.known = fullMask

theorem mayPass_noL2 (hl2 : s.l2On = false) (e : BufEntry) : e.mayPass s = .ok () s := by
  cases houter : e.outer <;> simp [BufEntry.mayPass, houter, l2Bypass_apply, State.l2CachedBy, hl2]

/-- The state after a write-back: the line's bytes in memory, and its note for the performance monitor. -/
def State.writtenBack (s : State) (x : DLine) : State :=
  (s.note 0x0C).setMem (s.mem.writeBytes (lineAddr x.pline) 32 x.data fullMask)

/-- The write-back of a function goes straight to memory. -/
theorem dWriteBack_cleanable (h : s.Cleanable x) : dWriteBack x false s = .ok () (s.writtenBack x) := by
  have hparity : (x.parity != 0) = false := by rw [h.parity]; rfl
  have hwrite (e : BufEntry) := uncounted_silent (writeNext_past (s := s.note 0x0C) h.noL2 h.noErrors h.leaving e) rfl
  simp only [dWriteBack, hparity, h.known, M.bind_apply, M.update_apply, settle_full, Bool.false_eq_true, if_false,
    drainFor_direct (s := s.note 0x0C) h.buffer, mayPass_noL2 (s := s.note 0x0C) h.noL2, hwrite]
  rfl

/-- The lines of a D-cache after a clean of one of them. -/
def DCache.cleanedLines (d : DCache) (key : Nat) (x : DLine) : List (Nat × DLine) :=
  if x.dirty then insertKey key { x with dirty := false } d.lines else d.lines

/-- The state after a clean: other lines, another memory, and a note more. -/
def State.cleaned (s : State) (lines : List (Nat × DLine)) (mem : Memory) (events : List (BitVec 8)) : State :=
  { s with
    mem := mem
    caches := { s.caches with d := { s.caches.d with lines := lines } }
    run := { s.run with events := events } }

/-- What a clean of a line does to memory: a dirty line is stored at its physical line, a clean one is not. -/
def DLine.WrittenBack (x : DLine) (m m' : Memory) : Prop :=
  if x.dirty then Stored m m' (lineAddr x.pline) 32 x.data else m' = m

/-- A dirty line is stored at its physical line and is then clean; a clean one stays as it is. -/
theorem dClean_cleanable (h : s.Cleanable x) (set way : Nat) : ∃ m events,
    dClean set way x s = .ok () (s.cleaned (s.caches.d.cleanedLines (4 * set + way) x) m events) ∧
      x.WrittenBack s.mem m ∧ m.wf = true := by
  unfold DLine.WrittenBack
  cases hd : x.dirty with
  | true =>
    refine ⟨_, (s.note 0x0C).run.events, ?_, stored_wholeLine h.canonical _ _, Memory.wf_writeBytes h.canonical _ _ _ _⟩
    rw [dClean, if_pos hd, M.bind_ok s (dWriteBack_cleanable h), DCache.cleanedLines, if_pos hd]
    rfl
  | false =>
    refine ⟨s.mem, s.run.events, ?_, rfl, h.canonical⟩
    rw [dClean, if_neg (by simp [hd]), DCache.cleanedLines, if_neg (by simp [hd])]
    rfl

/-- Clean and Invalidate then drops the line (45 R672). -/
theorem dCleanDrop_of_dClean {set way : Nat} {lines : List (Nat × DLine)} {m : Memory} {events : List (BitVec 8)}
    (e : dClean set way x s = .ok () (s.cleaned lines m events)) :
    dCleanDrop set way x s = .ok () (s.cleaned (eraseKey (4 * set + way) lines) m events) := M.bind_ok s e

end Clean

section BySetWay
variable {s : State} {v : Word} {f : Nat → Nat → DLine → M Unit} (hmmu : s.cp15.ctrl.mmu = true)
include hmmu

/-- A function by set and way works on the line there, if there is one that is not locked (11 R117). -/
theorem dBySetWay_eq : dBySetWay v f s =
    match lookupKey (4 * (v.extractLsb' 5 8).toNat + (v.extractLsb' 30 2).toNat) s.caches.d.lines with
    | some x => if x.locked then .ok () s else f (v.extractLsb' 5 8).toNat (v.extractLsb' 30 2).toNat x s
    | none => .ok () s := by
  rw [dBySetWay, M.bind_ok s (dFunction_mmuOn hmmu), M.bind_ok s (M.state_apply s)]
  cases lookupKey (4 * (v.extractLsb' 5 8).toNat + (v.extractLsb' 30 2).toNat) s.caches.d.lines with
  | none => rfl
  | some x => cases hlocked : x.locked <;> simp [hlocked]

end BySetWay

/-- An allowed MCR that cleans a line: what may differ are the pc, the lines, memory and the notes. -/
theorem systemWrite_cleaned {s : State} {c : Cond} {rd : Reg} (h : s.RunsArm c) (hp : s.privileged = true) (h15 : rd ≠ 15)
    {effect : Word → M Unit} {lines : List (Nat × DLine)} {m : Memory} {events : List (BitVec 8)} {P : Memory → Prop}
    (e : effect (s.readReg rd) s = .ok () (s.cleaned lines m events)) (hP : P m) (hm : m.wf = true) :
    ∃ t, systemWrite c rd effect s = .next t ∧ P t.mem ∧ t.mem.wf = true ∧ t = { s with
      pc := s.pc + 4
      mem := t.mem
      caches := { s.caches with d := { s.caches.d with lines := lines } }
      run := { s.run with events := t.run.events } } :=
  ⟨_, systemWrite_next h hp h15 e rfl, hP, hm, rfl⟩

end Sys2Proof.Machine

open Sys2Proof Sys2Proof.Machine

/-- Settles O33. Each function finds its line (`dByMva_found`, `dBySetWay_eq`) and cleans it (`dClean_cleanable`), then drops it
where it also invalidates (`dCleanDrop_of_dClean`). -/
theorem dataCacheCleanFunctions : Obligations.DataCacheCleanFunctions := by
  intro s c rd h h15 hp hmmu hl2 hbuf hleaving hbus hm v d cleans nothing set way
  have kept {effect : Word → M Unit} {i : Instr} {set way : Nat} {x : DLine} (hi : exec i s = systemWrite c rd effect s)
      (e : effect v s = dClean set way x s) : cleans i set way x false := fun hparity hknown => by
    obtain ⟨m, events, hclean, hstored, hwf⟩ :=
      dClean_cleanable (⟨hl2, hbuf, hleaving, hbus, hm, hparity, hknown⟩ : s.Cleanable x) set way
    rw [hi]
    exact systemWrite_cleaned (P := x.WrittenBack s.mem) h hp h15 (e.trans hclean) hstored hwf
  have dropped {effect : Word → M Unit} {i : Instr} {set way : Nat} {x : DLine} (hi : exec i s = systemWrite c rd effect s)
      (e : effect v s = dCleanDrop set way x s) : cleans i set way x true := fun hparity hknown => by
    obtain ⟨m, events, hclean, hstored, hwf⟩ :=
      dClean_cleanable (⟨hl2, hbuf, hleaving, hbus, hm, hparity, hknown⟩ : s.Cleanable x) set way
    rw [hi]
    exact systemWrite_cleaned (P := x.WrittenBack s.mem) h hp h15 (e.trans (dCleanDrop_of_dClean hclean)) hstored hwf
  have unchanged {effect : Word → M Unit} (e : effect v s = .ok () s) :
      systemWrite c rd effect s = .next { s with pc := s.pc + 4 } := systemWrite_next h hp h15 e rfl
  refine ⟨fun w x hfind => ?byMva, fun hfind => ?missing, fun x hx => ?bySetWay, fun hx => ?noLine⟩
  case byMva => exact ⟨kept rfl (dByMva_found hmmu hfind), dropped rfl (dByMva_found hmmu hfind)⟩
  case missing => exact ⟨unchanged (dByMva_missing hmmu hfind), unchanged (dByMva_missing hmmu hfind)⟩
  case bySetWay =>
    have found (f : Nat → Nat → DLine → M Unit) : dBySetWay v f s = if x.locked then .ok () s else f set way x s := by
      rw [dBySetWay_eq hmmu, hx]
    split
    · next hlocked =>
      exact ⟨unchanged ((found _).trans (if_pos hlocked)), unchanged ((found _).trans (if_pos hlocked))⟩
    · next hunlocked =>
      exact ⟨kept rfl ((found _).trans (if_neg hunlocked)), dropped rfl ((found _).trans (if_neg hunlocked))⟩
  case noLine =>
    have missing (f : Nat → Nat → DLine → M Unit) : dBySetWay v f s = .ok () s := by rw [dBySetWay_eq hmmu, hx]
    exact ⟨unchanged (missing _), unchanged (missing _)⟩

end
